-- ==== Sys2Proof/Word.lean ====
section
/-! DEFINITION. The word types of the EB1632 (00_scope.md R3, R4). -/

namespace Sys2Proof

/-- One byte of memory. -/
abbrev Byte := BitVec 8
/-- One 32-bit register word, the unit of a register access (00 R5). -/
abbrev Word := BitVec 32
/-- A 64-bit register, key or timestamp. -/
abbrev DWord := BitVec 64
/-- One 128-bit instruction word (04 R94). -/
abbrev IWord := BitVec 128
/-- One 256-bit tensor descriptor (04 R91). -/
abbrev DescWord := BitVec 256

end Sys2Proof
end

