-- ==== Sys2Proof/Config.lean ====
section
/-! DEFINITION. What an implementation fixes, and the free values: constants without a body, so that
no proof sees a value of them (notes/assumptions/1.md and 2.md). -/

namespace Sys2Proof.Config

/-- FREE VALUE. A byte the spec leaves undefined (a destination after a detection, 02 R46; host memory
as the host has it, 15 R513), by the free-value counter of State and an address. -/
opaque freeByte : Nat → Nat → Byte
/-- FREE VALUE. A 32-bit value the spec leaves undefined (accumulator elements after CHECK_FAIL, 02 R44). -/
opaque freeWord : Nat → Nat → Word
/-- FREE VALUE. Whether an access whose outcome the spec leaves open meets its condition (07 R216). -/
opaque freeBool : Nat → Nat → Bool
/-- FREE VALUE. A 64-byte salt or random string of SEC's generator (14 R496), as a number. -/
opaque freeRandom : Nat → Nat
/-- FREE VALUE. Which of the FP32 values within 1 unit in the last place of exp (0) or sqrt (1) of an argument the PPU takes
(06 R191); the same on every run. -/
opaque ulpChoice : Nat → Word → Nat
/-- sqrt on FP32, which 11 R374 uses without a stated rounding. -/
opaque sqrtF32 : Word → Word
/-- sin on FP32, which 11 R365 and R366 use without a stated rounding. -/
opaque sinF32 : Word → Word
/-- cos on FP32, which 11 R365 and R366 use without a stated rounding. -/
opaque cosF32 : Word → Word
/-- The opaque progress, scoreboard and program-state bytes of a saved register image (04 R90), by the
engine, the drawer and the offset: defined only for the firmware release that wrote them. -/
opaque imageByte : Nat → Nat → Nat → Byte
/-- The SHA-512 digest of the Casler Tamith root key held in mask ROM (14 R491), 64 bytes as a number. -/
opaque rootKeyDigest : Nat
/-- The 256-bit secret of the device's PUF (14 R497). -/
opaque pufSecret : Nat
/-- The device's DEVICE_ID (14 R496), 32 bytes as a number. -/
opaque deviceId : Nat
/-- The modulus of the device's identity key (14 R496). -/
opaque identityModulus : Nat
/-- The private exponent of the device's identity key (14 R496). -/
opaque identityExponent : Nat
/-- Whether the PUF secret is reconstructed at this start (14 R498). -/
opaque pufReconstructs : Nat → Bool

/-- The status code LOCKER_IMAGE of 14 R472, which no table of the spec numbers. -/
opaque lockerImageStatus : Nat

/-- FREE VALUE. The TYPE of an event that reports a refusal of 10 R312: no type of 15 R528 or 09 R289 is given for it. -/
opaque refusalType : Byte

/-- The contents of the mask ROM, which the spec does not give (12 R380), by address. -/
opaque romByte : Nat → Byte
/-- The number of the island interrupt source of a controller (14 R476 names 64 sources and numbers none):
CAN0-CAN11 are 0 to 11 here, LIN0-LIN3 12 to 15, the island Ethernet MAC 16. -/
opaque islSource : Nat → Fin 64

/-- An angle brought into [-pi, pi) where repeated steps of 2 pi do not bring it there (06 R189). -/
opaque angleF32 : Word → Word

/-- The RGB pixel in a column of a source line, given as the number of its bytes, of a data type (11 R345 step 4). -/
opaque sourcePixel : Nat → Nat → Nat → Nat
/-- The bilinear mean of four pixels at a position with 16 fraction bits on each axis (11 R345 step 3). -/
opaque scalePixel : Nat → Nat → Nat → Nat → Nat → Nat → Nat
/-- A pixel with an ARGB8888 overlay pixel blended over it (11 R345 step 5). -/
opaque blendPixel : Nat → Nat → Nat

/-- The track that a DELETE record closes: 11 R373 puts DELETE in the field that names a track and says nowhere which track it
names; by the record's bytes as a number. -/
opaque deletedTrack : Nat → Nat

/-- FREE VALUE. The bytes that the saved state of a VF takes (15 R539 gives an upper bound and no format), by the free-value
counter. -/
opaque vfImageSize : Nat → Nat

/-- FREE VALUE. Which of the held CRC lines (12 R386, R394) leaves a full cache: the spec gives no order; by the channel (32 and 33:
the HyperBus ports) and the held lines. -/
opaque crcVictim : Nat → List Nat → Nat

end Sys2Proof.Config
end

