-- ==== Sys2Proof/Machine/Bits.lean ====
section
/-! DEFINITION. Bit fields, sign extension, saturation and list helpers, used by every block. -/

namespace Sys2Proof.Machine

/-- Bits [hi:lo] of a number (00 R3: bit 0 least significant, both ends inclusive). -/
def bits (w hi lo : Nat) : Nat := (w >>> lo) % 2 ^ (hi + 1 - lo)

/-- Bit i of a number. -/
def bit (w i : Nat) : Bool := w.testBit i

/-- The number 1 or 0 of a flag. -/
def b2n (b : Bool) : Nat := if b then 1 else 0

/-- `w` with bits [hi:lo] replaced by `v`. -/
def putBits (w hi lo v : Nat) : Nat :=
  (w % 2 ^ lo) + ((v % 2 ^ (hi + 1 - lo)) <<< lo) + ((w >>> (hi + 1)) <<< (hi + 1))

/-- The signed value of the low `n` bits of `v`. -/
def sext (n v : Nat) : Int :=
  let u := v % 2 ^ n
  if u < 2 ^ (n - 1) then (u : Int) else (u : Int) - (2 ^ n : Nat)

/-- The two's complement of an integer in `n` bits. -/
def toU (n : Nat) (z : Int) : Nat := (z % ((2 ^ n : Nat) : Int)).toNat

/-- Saturation to a signed `n`-bit range. -/
def satS (n : Nat) (z : Int) : Int :=
  let m : Int := ((2 ^ (n - 1) : Nat) : Int)
  if z < -m then -m else if m - 1 < z then m - 1 else z

/-- ceil(a / b). -/
def cdiv (a b : Nat) : Nat := (a + b - 1) / b

/-- floor(a / b) of an integer by a positive number, toward minus infinity. -/
def fdiv (a : Int) (b : Nat) : Int := Int.fdiv a b

/-- Element `i` of a list, or a default. -/
def nth {α : Type} (d : α) (l : List α) (i : Nat) : α := (l[i]?).getD d

/-- `l` with element `i` changed by `f`; nothing where there is none. -/
def modAt {α : Type} (f : α → α) : Nat → List α → List α
  | _, [] => []
  | 0, a :: l => f a :: l
  | i + 1, a :: l => a :: modAt f i l

/-- The sum of `f i` over `i < n`. -/
def sumTo (n : Nat) (f : Nat → Int) : Int := (List.range n).foldl (fun a i => a + f i) 0

/-- The value of `n` little-endian bytes given by `f` (00 R4). -/
def leNat (f : Nat → Nat) : Nat → Nat
  | 0 => 0
  | n + 1 => leNat f n + f n % 256 * 256 ^ n

/-- Byte `i` of a number, little-endian (00 R4). -/
def byteOf (v i : Nat) : Byte := BitVec.ofNat 8 (v / 256 ^ i)

/-- The `n` little-endian bytes of a number (00 R4). -/
def leBytes (v n : Nat) : List Byte := (List.range n).map (byteOf v)

/-- The number of a list of little-endian bytes. -/
def ofBytes : List Byte → Nat
  | [] => 0
  | b :: l => b.toNat + 256 * ofBytes l

/-- The number of a list of big-endian bytes. -/
def ofBytesBE (l : List Byte) : Nat := l.foldl (fun a b => a * 256 + b.toNat) 0

/-- The `n` big-endian bytes of a number. -/
def beBytes (v n : Nat) : List Byte := (leBytes v n).reverse

/-- Saturating increment, to the largest `n`-bit value. -/
def satInc (n v : Nat) : Nat := if v + 1 < 2 ^ n then v + 1 else 2 ^ n - 1

/-- Insertion sort with the order `le`, stable. -/
def insSorted {α : Type} (le : α → α → Bool) (a : α) : List α → List α
  | [] => [a]
  | b :: l => if le a b then a :: b :: l else b :: insSorted le a l

/-- A stable sort: an element stands before a later one when `le` holds of them. -/
def sortBy {α : Type} (le : α → α → Bool) : List α → List α
  | [] => []
  | a :: l => insSorted le a (sortBy le l)

/-- Run `f` on a state `n` times with the index 0, 1, 2 and so on. -/
def iter {σ : Type} (f : Nat → σ → σ) (n : Nat) (s : σ) : σ := (List.range n).foldl (fun t i => f i t) s

end Sys2Proof.Machine
end

