-- ==== Sys2Proof/Machine/Types.lean ====
section
/-! DEFINITION. The records State is made of, engine side: memory, engines and drawers (02, 04), the stream
network (08), the Coordinate Map Unit (07), the Post-Processing Units (06) and the scheduler's cabinets (09, 10). -/

namespace Sys2Proof.Machine

/-- Engines TE0-TE15, and 16 for the Island Engine (13 R431). -/
abbrev EngineId := Fin 17
/-- Cabinets 0 to 7 (09 R259). -/
abbrev CabId := Fin 8
/-- Contexts 0 to 71 of a cabinet (09 R262). -/
abbrev CtxId := Fin 72

/-- Byte memory of the whole device, sparse and canonical: `cells` by strictly rising key, none of them 0
(an unlisted byte reads 0, notes/assumptions/3.md); `bad` lists, rising, the base keys of the
granules whose stored detection code fails (10 R293). Key spaces: the 48-bit device addresses; the Local
Memories, Instruction Buffers, accumulators and the eMMC above them (notes/assumptions/4.md). -/
structure Mem where
  cells : List Host.Cell
  bad : List Nat
  deriving DecidableEq, Repr

/-- The registers: by base address, the values written, the Shadowed values in effect, the pending low words
and the latched high words (00 R5, R12, R13). -/
structure Regs where
  val : List (Nat × Nat)
  eff : List (Nat × Nat)
  lo : List (Nat × Nat)
  hi : List (Nat × Nat)
  deriving DecidableEq, Repr

/-- The kind tag of an accumulator set (02 R36). -/
inductive Kind where
  | empty | int | fp
  deriving DecidableEq, Repr

/-- Where a placed instruction stands: not started, running, suspended at a yield point, or complete with
its status (02 R54, 04 R105). -/
inductive EntState where
  | waiting | running | suspended | done
  deriving DecidableEq, Repr

/-- One scoreboard entry (02 R54): its word index, its place in program order and its word, how far it has come (`pos` units), what it
carries between units (`acc`: codebook, counts; `chk`: the check sums of 02 R41; `wts`: the tile of weights that the
Weight Register holds, 02 R34), its status once done, whether a map batch or reservation was granted, and, for a tagged
instruction (18 R602), its issue time. -/
structure SbEntry where
  word : Nat
  seq : Nat
  iw : IWord
  st : EntState
  pos : Nat
  acc : List Nat
  chk : List Nat
  wts : List Nat
  status : Nat
  granted : Bool
  tagged : Option Nat
  deriving DecidableEq, Repr

/-- The fault record of a drawer, TE_DRW_FLTd (04 R111). -/
structure FaultRec where
  word : Nat
  extra : Nat
  status : Nat
  deriving DecidableEq, Repr

/-- One open loop (05 R131): the L counter it uses and the word index of its start. -/
structure LoopRec where
  ctr : Fin 4
  start : Nat
  deriving DecidableEq, Repr

/-- One drawer (04 R88-R90); `loadSt` is the status of a failed program load (04 R116), `recs` the scoreboard records that a
drawer which is not active keeps of its suspended and withdrawn instructions (04 R90, R105), `drainDets` the statuses of the
detections of the drain under way (04 R111). -/
structure Drawer where
  s : Vector Word 32
  t : Vector DescWord 32
  l : Vector Word 4
  p : Vector Bool 8
  q : Vector (BitVec 24) 4
  e : Vector (BitVec 128) 8
  tags : Vector Kind 8
  live : BitVec 256
  info : Word
  pc : Nat
  loops : List LoopRec
  fault : Option FaultRec
  faultSeq : Nat
  seq : Nat
  sb : List SbEntry
  recs : List SbEntry
  drainDets : List Nat
  ctx : Option (CabId × CtxId)
  rank : Nat
  loaded : Bool
  jobOn : Bool
  halted : Bool
  faulting : Bool
  prev : Nat
  entry : Nat
  loadSt : Nat
  deriving DecidableEq, Repr

/-- TE_STATUS.STATE (02 R58). -/
inductive EngState where
  | stopped | init | running | draining | patrol | fenced
  deriving DecidableEq, Repr

/-- Why an engine drains (04 R105): the fault of its drawer, a patrol, a switch, an abort, a recovery,
TE_CTRL.RUN written 0 (02 R57). -/
inductive DrainWhy where
  | fault | patrol | switch | abort | recovery | stop
  deriving DecidableEq, Repr

/-- The verification state of an engine (10 R317). -/
inductive VerState where
  | verified | unverified | fenced | off
  deriving DecidableEq, Repr

/-- One engine: its eight drawers and its issue state (02, 04), and its patrol state (10 R315-R317):
whether a patrol is due or deferred, the running patrol, consecutive mismatches, a repeat that is owed; `tagNext` the tag of 18 R602 that waits for an instruction, and
`skid` the instructions still to leave before a skid sample is latched (18 R604); `fresh` until the first patrol after
power-up (10 R317), `inited` once LM_INIT has completed since power-up (02 R47; 10 R317); `held` the drawer that RUN = 1 makes
active again, which TE_CTRL.RUN = 0 took off the engine or kept from becoming active (02 R57, R58); `reqQct` the QoS class that
the engine's latest requests carry (04 R97; 12 R402, R403). -/
structure Engine where
  drawers : Vector Drawer 8
  active : Option (Fin 8)
  st : EngState
  why : Option DrainWhy
  drained : Bool
  jobQct : Nat
  ver : VerState
  patrolDue : Bool
  patrolDeferred : Bool
  mismatches : Nat
  repeatOwed : Bool
  fencePending : Bool
  tagNext : Bool
  skid : Option Nat
  fresh : Bool
  inited : Bool
  held : Option (Fin 8)
  reqQct : Nat
  deriving DecidableEq, Repr

/-- One 64-byte flit under way (08 R234): its cabinet, context, destination rank and endpoint, the engine
and endpoint it left, its bytes and its marks. -/
structure Flit where
  cab : CabId
  ctx : CtxId
  rank : Nat
  ep : Fin 8
  src : Option EngineId
  srcEp : Fin 8
  data : List Byte
  badCode : Bool
  poison : Bool
  deriving DecidableEq, Repr

/-- An endpoint by context and rank, the name of a producer or consumer. -/
structure EpName where
  cab : CabId
  ctx : CtxId
  rank : Nat
  ep : Fin 8
  deriving DecidableEq, Repr

/-- A credit under way to a send endpoint (08 R229, R235). -/
structure Credit where
  dest : EpName
  deriving DecidableEq, Repr

/-- One slot of a Stream Buffer queue that is granted or filled, oldest first (08 R241-R244); `begun` marks the slots
of a record whose first flit has been injected (08 R253, R255), `void` those whose reservation was given back while slots
behind them are held (08 R253): they carry no flit and go once they are the oldest or the newest. -/
structure QSlot where
  owner : EpName
  filled : Bool
  poison : Bool
  begun : Bool
  void : Bool
  deriving DecidableEq, Repr

/-- One Stream Buffer queue (08 R240-R245): its live slots in order, the ring index of the first, and the
requests for reservations in order. -/
structure Queue where
  slots : List QSlot
  head : Nat
  requests : List (EpName × Nat)
  lastServed : Option EpName
  deriving DecidableEq, Repr

/-- The stream network (08): flits under way to engines and to queues, credits under way, the queues, and the ring
slots that hold a poison flit (08 R255). -/
structure Sn where
  transit : List Flit
  toQueue : List (Fin 32 × Flit)
  credits : List Credit
  queues : Vector Queue 32
  poison : List (EpName × Nat)
  deriving DecidableEq, Repr

/-- What a request carries as it leaves its port (12 R402, R406, R410): the port, the class, the urgency, and whether it is inside
guarantee. -/
structure PortReq where
  port : Nat
  cls : Nat
  urg : Nat
  inside : Bool
  deriving DecidableEq, Repr

/-- The memory system beyond its registers (12): the latest request that left a port, the QoS class of the latest request of the
Reject Log (R402), and the cached CRC lines of each LPDDR5X channel (R386) and, at 32 and 33, of each HyperBus port (R394), each
with whether it is still to be written back (R387). -/
structure MemSys where
  req : Option PortReq
  rlogQct : Nat
  crc : Vector (List (Nat × Bool)) 34
  deriving DecidableEq, Repr

/-- The state of a CMU share (07 R200). -/
inductive ShareState where
  | disabled | open_ | sealing | sealed | faulted
  deriving DecidableEq, Repr

/-- One CMU share (07 R200-R216): its entries by rising key, the rejections, a clear that waits for the seal
to end, who seals, and the held keys whose entry's code fails. -/
structure Share where
  st : ShareState
  entries : List (Nat × Nat)
  rlogCnt : Nat
  clearAfter : Bool
  badKeys : List Nat
  deriving DecidableEq, Repr

/-- A box the PPU works on (06 R187, R192): five FP32 elements (four for an image box), score, candidate
index and class. -/
structure Box where
  b : List Nat
  score : Nat
  idx : Nat
  cls : Nat
  deriving DecidableEq, Repr

/-- A request of a PPU (06 R183, R195): the engine and word of its POST, the FCLK tick it arrived in, its request block as
read when it is served, whether it is served (its commit phase then stands), the boxes it keeps until the commit, whether the code of the kept-box buffer
fails (10 R293), and the status its POST completes with, which an abort replaces (06 R193, R195). -/
structure PpuReq where
  eng : EngineId
  word : Nat
  arrived : Nat
  block : List Byte
  served : Bool
  kept : List Box
  keptBad : Bool
  status : Nat
  deriving DecidableEq, Repr

/-- The state of a context (09 R264). -/
inductive CtxState where
  | idle | ready | active | waiting | stored | aborting
  deriving DecidableEq, Repr

/-- What a drained instruction waits for (09 R265): a semaphore and count, a flit of a queue, `n` slots of a queue, a PPU. -/
inductive WaitOn where
  | sem (i n : Nat)
  | flit (q : Nat)
  | slots (q n : Nat)
  | ppu (c : Nat)
  deriving DecidableEq, Repr

/-- One submitted job (09 R266): its descriptor's fields and its origin: the deadline in µs (0:
none), the cyclic-table entry that fired it, whether its deadline miss was reported, the descriptor's address, and the
deadline origin as an ITU tick (R284). -/
structure Job where
  entryValid : Bool
  notify : Bool
  qct : Nat
  prio : Nat
  entry : Nat
  deadline : Nat
  tag : Nat
  arg : List Nat
  ckpt0 : Nat
  ckpt1 : Nat
  cmpl : Nat
  fired : Option Nat
  missed : Bool
  addr : Nat
  origin : Nat
  deriving DecidableEq, Repr

/-- One valid checkpoint slot as the Cluster Control Core numbers it (10 R303): its CKID (05 R170), its sequence number, and the kinds
of the accumulator sets, which the register image does not hold; everything else is in the image (10 R302). -/
structure CkSlot where
  ckid : Nat
  seq : Nat
  tags : List Kind
  deriving DecidableEq, Repr

/-- What the Core keeps of one rank of a context: its two checkpoint slots (10 R303), the next sequence
number, the detections (10 R307), the net lock counts since each slot's checkpoint (10 R305), and the
opaque records of a stored drawer (04 R90). -/
structure RankRec where
  slot0 : Option CkSlot
  slot1 : Option CkSlot
  nextSeq : Nat
  dets : Nat
  net0 : List (Nat × Int)
  net1 : List (Nat × Int)
  saved : Option Drawer
  deriving DecidableEq, Repr

/-- One context (09 R262-R265): real-time class, state, drawer, program table, save area, endpoint bindings (rank,
endpoint, BIND, RING), its jobs (the first is running when `started`), what each rank keeps, the lock counts it
holds, its recorded waits, when it last ran, whether it ever ran, a recovery under way, EVICT_BLOCKED logged
(09 R278), priorities inherited by lock semaphore (09 R279), the address of its record, and the end of its job that waits for
the drains of its ranks: status, cause, rank and word (04 R111; 09 R282). -/
structure Ctx where
  rt : Bool
  st : CtxState
  drawer : Option (Fin 8)
  progTable : Nat
  saveAddr : Nat
  binds : List (Nat × Nat × Nat × Nat)
  jobs : List Job
  started : Bool
  ranks : List RankRec
  held : List (Nat × Int)
  waits : List WaitOn
  lastRun : Nat
  ever : Bool
  recovering : Bool
  blockedLogged : Bool
  raised : List (Nat × Nat)
  record : Nat
  ending : Option (Nat × Nat × Nat × Nat)
  deriving DecidableEq, Repr

/-- Who waits in SWAIT on a semaphore, in order of arrival (05 R167), with the FCLK tick it arrived in. -/
structure SemWait where
  eng : EngineId
  drawer : Fin 8
  word : Nat
  sem : Nat
  count : Nat
  arrived : Nat
  deriving DecidableEq, Repr

/-- What follows once every abort of a cabinet is complete (15 R525, R534): nothing, its destruction, or what a VF's reset
does to it. -/
inductive AfterAborts where
  | none | destroy | flr
  deriving DecidableEq, Repr

/-- One cabinet as SCH holds it (09 R259-R273): existence, its authority (flash-launched, or the function it
is assigned to), LPDDR5X region, world, N-1 table, semaphores and their waiters, contexts, the checked cyclic
table and whether it is to be read again (its ADDR or ENTRIES took effect since, R270), the entries a pulse has opened and that have not
fired, each with the MTU time it fires at (R269), stopped (R288), degraded (10 R313), slice ended, the aborts under
way (R281: the context, and whether fabric accesses of it are outstanding) and what follows them, its Boot Manifest entry, the highest job QCT (15 R527), the fenced engines
it is to be remapped for (10 R310, R312), the open deadline
windows (R271: their ends in ITU ticks), the bytes of its record (15 R527), and whether it rests because an engine of it is
without power (17 R572). -/
structure Cabinet where
  live : Bool
  flash : Bool
  fn : Nat
  base : Nat
  size : Nat
  secure : Bool
  n1 : Nat
  sems : Vector Nat 64
  waiters : List SemWait
  ctxs : Vector (Option Ctx) 72
  act : Option CtxId
  table : List (Nat × Nat)
  tableNew : Bool
  due : List (Nat × Nat)
  stopped : Bool
  degraded : Bool
  sliceEnd : Bool
  aborting : List (CtxId × Bool)
  after : AfterAborts
  manifest : Option Nat
  qctMax : Nat
  lost : List Nat
  windows : List Nat
  body : List Byte
  resting : Bool
  deriving DecidableEq, Repr

/-- What a core, an interrupt line or the vehicle side is told, newest first: the reports and interrupts the
rules raise that no register of the spec keeps (10 R309; 01 R23; 13; 14; 15). The numbers are, in order, what
the rule names. -/
inductive Report where
  /-- An integrity event: engine, cabinet, context, status, word, count (10 R309). -/
  | integrity (k cab ctx status word count : Nat)
  /-- A patrol signature result of an engine (10 R315; 01 R23). -/
  | patrol (k : Nat) (good : Bool)
  /-- A fence of an engine (10 R310; 01 R23). -/
  | fence (k : Nat)
  /-- A checkpoint completion: engine, CKID, SEQ (05 R169; 01 R23). -/
  | checkpoint (k ckid seq : Nat)
  /-- A refusal reported to a cabinet's authority: cabinet, context, status (10 R312; 09 R267). -/
  | refusal (cab ctx status : Nat)
  /-- An interrupt raised by name with an index, as its rule says. -/
  | irq (name : String) (n : Nat)
  deriving DecidableEq, Repr

end Sys2Proof.Machine
end

