-- ==== Sys2Proof/Machine/Blocks.lean ====
section
/-! DEFINITION. The records of the blocks around the engines: masters, island, host functions, and what the other
chapters' blocks hold. -/

namespace Sys2Proof.Machine

/-- A master of the fabric or of the Cabin Bus (12 R402, 14 R459): the engines (16 the Island Engine), the PPUs,
the Cluster Control Cores, SCH, SEC, PCI Express inbound for a function, the Reject Log of a share, the other
master ports 27 and 29 to 39 by number, the island cores, the masters on the Cabin Bus only, and SEC at work on a request of
a mailbox, with the mailbox's world and no Locker tag (14 R484). -/
inductive Master where
  | te (k : EngineId)
  | ppu (c : Fin 4)
  | cc (i : Fin 4)
  | sch
  | sec
  | pcie (f : Fin 32)
  | rlog (c : CabId)
  | port (n : Fin 40)
  | isl (core : Fin 2)
  | can (n : Fin 12)
  | lin (n : Fin 4)
  | ethDma
  | arb
  | mbox (secure : Bool)
  deriving DecidableEq, Repr

/-- What a port and the LPDDR5X link bring to a request (12 R390, R410): the bytes that the port's FIFO holds, and the corrections that
the link's ECC makes on the way (notes/assumptions/140.md). -/
structure PortLoad where
  fill : Nat
  link : Nat
  deriving DecidableEq, Repr

/-- The bytes of a HyperRAM write, and whether its own read of a granule that it covers in part meets a detection that the repeat of
that read does not (10 R298; 12 R394; notes/assumptions/140.md). -/
structure HyperData where
  bytes : List Byte
  transient : Bool
  deriving DecidableEq, Repr

/-- The master's port number (12 R402); an island master goes through port 36. -/
def Master.num : Master → Nat
  | .te k => if k.val = 16 then 36 else k.val
  | .ppu c => 16 + c.val
  | .cc i => 20 + i.val
  | .sch => 24
  | .sec => 25
  | .pcie _ => 26
  | .rlog _ => 28
  | .mbox _ => 25
  | .port n => n.val
  | _ => 36

/-- Whether a master is SEC. -/
def Master.isSec (m : Master) : Bool := m.num == 25

/-- Masters on the Cabin Bus side of the bridge (13 R419). -/
def Master.cabin : Master → Bool
  | .te k => k.val == 16
  | .isl _ => true | .can _ => true | .lin _ => true | .ethDma => true | .arb => true
  | _ => false

/-! ### Safety Island (13) -/

/-- An entry of the input log (13 R422): a load with its address, size and value, or an interrupt taken with its cause and
the retired-instruction count. -/
inductive LogEntry where
  | load (addr size value : Nat)
  | irq (cause count : Nat)
  deriving DecidableEq, Repr

/-- An entry of the compare buffer (13 R422): a store (address, size, data, world), or a signature of ISL_SYNC. -/
inductive PairEntry where
  | store (addr size data : Nat) (secure : Bool)
  | sync (crc : Nat)
  deriving DecidableEq, Repr

/-- The Safety Island outside its registers: the world and Locker tag of each core (14 R460, R471), whether the
pair is halted (13 R425) and the cores released (16), the compare buffer and the input log, oldest first
(13 R422), the private region (13 R421: base and size in 64 KiB units), the latched causes of
FAULT_N (10 R330), its assertion from POWER_GOOD (16 R551), the level of ALIVE (10 R331), and the
ITU ticks at which each watchdog's latest kick came, none where its MIN window does not apply to the next one, and its period began
(13 R428, R430), the island timers that are past their compare value (13 R436),
the LIN controllers with a frame under way (13 R435), and the world of the core that started the Island Engine's job
(14 R459). -/
structure Isl where
  world : Vector Bool 2
  tag : Vector (Option (Fin 16)) 2
  running : Bool
  halted : Bool
  cmp : List PairEntry
  log : List LogEntry
  privBase : Nat
  privSize : Nat
  faultN : Bool
  faultStart : Bool
  alive : Bool
  kickAt : Vector (Option Nat) 7
  since : Vector Nat 7
  timers : Nat
  lin : Nat
  ieWorld : Bool
  deriving DecidableEq, Repr

/-- The Arbiter Unit outside its registers (10 R319-R325): the ITU tick on which EN became 1, the control cycles since then, the cycles of the
onsets within the last 100, the consecutive flagged cycles, whether the preceding cycle had a flag, FS_READY and
MAIN_READY of this cycle, FS_READY of the cycle the latest boundary closed; and what the Configuration Record gives: the
base of its log and of the Patrol Image (10 R314, R325). -/
structure Arb where
  start : Nat
  cycle : Nat
  onsets : List Nat
  persist : Nat
  flagged : Bool
  fsReady : Bool
  mainReady : Bool
  fsLast : Bool
  logBase : Nat
  patrolBase : Nat
  deriving DecidableEq, Repr

/-- The outcome of start-up error injection: the engines whose codes or comparators failed to report, by mask, and the
other checkers that failed (10 R328). -/
structure Injection where
  codes : BitVec 16
  checks : BitVec 16
  shared : Bool
  lpddr : Bool
  bridge : Bool
  islChecks : Bool
  arbiter : Bool
  deriving DecidableEq, Repr

/-! ### SEC (14) -/

/-- A queued request: the address of its record and the record's 64 bytes (14 R483, R484). -/
structure SecReq where
  addr : Nat
  body : List Byte
  deriving DecidableEq, Repr

/-- An entry of the measurement log (14 R499). -/
structure Meas where
  ty : Nat
  index : Nat
  svn : Nat
  signer : Nat
  digest : List Byte
  deriving DecidableEq, Repr

/-- SEC outside its registers (14): the four mailboxes' queues, oldest first; the services under restart by code, by mask, and
whether the core restarts (R486, R487); the measurement log and whether it overflowed (R499); the accepted images that name a
rollback counter (counter, SVN) and the accepted certificate's serial (R502). -/
structure Sec where
  queues : Vector (List SecReq) 4
  down : Nat
  restarting : Bool
  log : List Meas
  logFull : Bool
  svns : List (Nat × Nat)
  serial : Option Nat
  deriving DecidableEq, Repr

/-! ### Host functions (15) -/

/-- HIF_STATUS.STATE (15 R515). -/
inductive FnState where
  | detached | open_ | refused | lost | resetting | quiesced
  deriving DecidableEq, Repr

/-- Dirty logging of a function (15 R536): the two bitmaps, the span, which is active, writes beyond the span. -/
structure Dirty where
  map0 : Nat
  map1 : Nat
  span : Nat
  active1 : Bool
  beyond : Nat
  deriving DecidableEq, Repr

/-- One ring (15 R516): base, size as a power of two, head, tail or write index, phase. -/
structure Ring where
  base : Nat
  log2 : Nat
  head : Nat
  tail : Nat
  phase : Bool
  deriving DecidableEq, Repr

/-- One function, 0 the PF and n VF n, 32 the island command page (15; 09 R287): Bus Master Enable, the base of its window,
state and REASON, the rings of the attach record, the events lost and whether the next carries LOST, dirty logging, recorded
doorbells, whether its contexts are suspended (R532), whether a LOSS_REPORT is owed (R533), whether its host state was
discarded, the contexts and submissions discarded, the submission entry of the command under way that has begun and not
completed (empty: none), and the masked vectors that pend. -/
structure Fn where
  bme : Bool
  win : Option Nat
  st : FnState
  reason : Nat
  sq : Ring
  cq : Ring
  eq : Ring
  evLost : Nat
  lostNext : Bool
  dirty : Option Dirty
  doorbells : List Nat
  suspended : Bool
  owed : Bool
  gone : Bool
  ctxLost : Nat
  subsLost : Nat
  cmd : List Byte
  vectors : List Nat
  deriving DecidableEq, Repr

/-- A cabinet as the saved state of a VF holds it (15 R539): its record, semaphores, contexts with their jobs, CMU share, queues
with their bytes, and the ring slots that hold poison flits. -/
structure SavedCab where
  body : List Byte
  sems : Vector Nat 64
  ctxs : List (CtxId × Ctx)
  share : Option Share
  queues : List (Fin 32 × Queue × List Byte)
  poison : List (EpName × Nat)
  deriving DecidableEq, Repr

/-- What SAVE_VF_STATE writes (15 R539); its format belongs to the interface major: the major, the window's size and base, the
size of the buffer it takes, the driver's version, the rings and the events lost, the recorded doorbells, and the cabinets. -/
structure VfImage where
  major : Nat
  winLog2 : Nat
  win : Nat
  size : Nat
  drv : Nat
  sq : Ring
  cq : Ring
  eq : Ring
  evLost : Nat
  lostNext : Bool
  doorbells : List Nat
  cabs : List SavedCab
  deriving DecidableEq, Repr

/-- An inbound PCI Express request (15 R507-R509, R513): a read or a write of a BAR, and the configuration writes that the
rules name. -/
inductive Inbound where
  | read (bar off len : Nat)
  | write (bar off : Nat) (data : List Byte)
  | busMaster (on : Bool)
  | numVfs (n : Nat)
  | vfEnable
  deriving DecidableEq, Repr

/-- The host side as a whole (15): when HOST_LOST was entered (a timestamp; none outside it), the timestamp of its latest entry,
whether heartbeats are monitored (R531), NumVFs and VF Enable (R507), and what SAVE_VF_STATE wrote to host buffers, by
address, newest first (R538). -/
structure HostSt where
  lostAt : Option Nat
  stamp : Nat
  monitored : Bool
  numVfs : Nat
  vfEnable : Bool
  images : List (Nat × VfImage)
  deriving DecidableEq, Repr

/-! ### Power and start-up (16, 17) -/

/-- A power request that PMC has accepted (17 R569, R571): the bank it came through (0 island Secure, 1 island Normal, 2 SEC,
3 SCH, 4 SCH for the host, 5 to 8 CC0-CC3), its value, PMC_SEC_INUSE when it arrived (14 R482), and of a host request the
function. -/
structure PmcReq where
  bank : Fin 9
  value : Nat
  marks : Nat
  host : Option (Fin 33)
  deriving DecidableEq, Repr

/-- PMC outside its registers (17): the waiting requests, oldest first, and the latest STATUS of each bank (R571); POWER_GOOD;
whether SEC has released PMC (16 R550) and PLL_F has locked (R567); the rails below BROWN and the PLLs out of lock (0 PLL_F,
1 PLL_A, 2 PLL_I), by mask; a thermal hold (R589); whether LPDDR5X has been trained since the last device reset (R573); whether
AVS adaptation has stopped (R586); whether the latest training failed (16 R558). -/
structure Pmc where
  queue : List PmcReq
  status : Vector Nat 9
  good : Bool
  run : Bool
  pllF : Bool
  brown : Nat
  unlocked : Nat
  hold : Bool
  trained : Bool
  avsStop : Bool
  trainFail : Bool
  deriving DecidableEq, Repr

/-- A candidate slot of a start (16 R558): its code (0 A, 1 B, 2 recovery), its offset in flash, whether it is a trial. -/
structure Cand where
  slot : Nat
  base : Nat
  trial : Bool
  deriving DecidableEq, Repr

/-- What a start keeps (16): the candidates not tried, the slot under way, the accepted Configuration Record and Boot Manifest
payloads, whether the host interface is open (R556), the manifest entries that have launched or failed, whether the start is
an exit from PARK (17 R578), and the tick of its origin; and of the eMMC card, the partition it has selected (19 R626). -/
structure Boot where
  cands : List Cand
  cur : Option Cand
  config : List Byte
  manifest : List Byte
  open_ : Bool
  launched : Nat
  fromPark : Bool
  t0 : Nat
  part : Nat
  deriving DecidableEq, Repr

/-! ### Sensors, time and fusion (11) -/

/-- A stream slot (11 R341, R342): the buffer it last wrote, FCNT, frames dropped since the last record, and of the frame
under way its buffer, lines, bytes used, running CRC, first line's length, STATUS bits and start time. -/
structure Slot where
  last : Option Nat
  fcnt : Nat
  dropped : Nat
  cur : Option Nat
  lines : Nat
  used : Nat
  crc : Nat
  len0 : Nat
  status : Nat
  start : Nat
  deriving DecidableEq, Repr

/-- A Mirror Path output (11 R345-R349): the descriptor in force, the newest good source frame not shown yet, the last good
frame shown (buffer, FCNT), the FCNT of the last frame shown, the buffer the compositor holds, consecutive repeats,
whether FAULT_RGB is shown, the T_END of the frame not shown yet, and when the latest output frame started (timestamps). -/
structure Out where
  desc : List Byte
  cand : Option (Nat × Nat)
  good : Option (Nat × Nat)
  shown : Option Nat
  hold : Option Nat
  repeats : Nat
  fault : Bool
  candEnd : Nat
  startedAt : Nat
  deriving DecidableEq, Repr

/-- A timed pulse (11 R356, R357): its next due time (a timestamp), whether its pin shows the pulse, and when it last fired (a
timestamp). -/
structure Pulse where
  due : Option Nat
  high : Bool
  firedAt : Nat
  deriving DecidableEq, Repr

/-- An edge at a capture input that its filter has not passed yet (11 R358): the FCLK tick it came at, whether it rises, and the MTU
time it latches. -/
structure CapEdge where
  tick : Nat
  rising : Bool
  time : Nat
  deriving DecidableEq, Repr

/-- A sample of the Grid Aligner (11 R363): the fields of its record and its arrival time. -/
structure Sample where
  t : Nat
  feat : Nat
  conf : Nat
  meas : Nat
  measN : Nat
  at_ : Nat
  deriving DecidableEq, Repr

/-- One sensor (11 R363, R364, R368): the next sequence number, samples held by cycle, consecutive late samples, late mask
and its recovery count. -/
structure Sensor where
  q : Nat
  held : List (Nat × Sample)
  late : Nat
  masked : Bool
  ontime : Nat
  deriving DecidableEq, Repr

/-- A track (11 R371, R374): its number, model, time, state and covariance (FP32 bits, row by row), past states with their
times, newest first, and the FLAGS of R376. -/
structure Track where
  id : Nat
  model : Nat
  t : Nat
  x : List Nat
  p : List Nat
  past : List (Nat × List Nat × List Nat)
  oos : Bool
  upd : Bool
  deriving DecidableEq, Repr

/-- What a close fixed (11 R364, R368): the cycle, its opening time, the block it uses, the samples and masks. -/
structure Closed where
  k : Nat
  tk : Nat
  block : List Byte
  samples : List (Nat × Sample)
  dropout : Nat
  lie : Nat
  lateMask : Nat
  deriving DecidableEq, Repr

/-- Counts of the cycle record since the previous release (11 R370). -/
structure GaCounts where
  untracked : Nat
  lateOos : Nat
  lateDropped : Nat
  oosDropped : Nat
  rejected : Nat
  replaced : Nat
  future : Nat
  deriving DecidableEq, Repr

/-- The Grid Aligner and Track Unit (11): the cycles opened, newest first, with T_k and the time of their close; the next cycle to close; the
closed cycles not released, oldest first (the first merges); the block last accepted; sensors, tracks, counts; and of the
merge under way the conflicted cells, those in the corridor, the sensors with stale ego-motion and those merged. -/
structure Ga where
  opens : List (Nat × Nat × Nat)
  next : Nat
  closed : List Closed
  block : Option (List Byte)
  sensors : Vector Sensor 16
  tracks : List Track
  counts : GaCounts
  conflicts : Nat
  corridor : Nat
  stale : Nat
  merged : Nat
  deriving DecidableEq, Repr

/-! ### Cabin peripherals, the switch and the Trestle link (13, 19) -/

/-- A CAN controller outside its registers: frames its receive ring holds, frames discarded (13 R434). -/
structure Can where
  fill : Nat
  lost : Nat
  deriving DecidableEq, Repr

/-- The TSN switch and the island Ethernet MAC outside their registers (13 R446-R449; 19 R628, R630): the forwarding and
VLAN tables by index, the other tables by table and index, ports whose administrative gate list waits for its base time,
the egress timestamps (port, sequence, time), frames forwarded to external ports (port, queue, bytes; newest first), frames
on their way to the island MAC (timestamp, bytes; oldest first). -/
structure Switch where
  fdb : List (Nat × List Nat)
  vlan : List (Nat × Nat)
  tables : List ((Nat × Nat) × List Nat)
  gcl : Nat
  ptp : List (Nat × Nat × Nat)
  out : List (Nat × Nat × List Byte)
  toMac : List (Nat × List Byte)
  deriving DecidableEq, Repr

/-- A frame of the Trestle link (13 R450, R453): a heartbeat with role, ARB_STATUS and FAULT_N, bytes of the mirror image, or
the request for a frame again, by its sequence number. -/
inductive TrsFrame where
  | heartbeat (role arb : Nat) (fault : Bool)
  | image (data : List Byte)
  | again (seq : Nat)
  deriving DecidableEq, Repr

/-- The Trestle link outside its registers (13 R450-R456): the configured role, whether a SECONDARY watches PARTNER_ALIVE,
whether PARTNER_ALIVE has been silent for 2 ms, the partner's FAULT_N of the last heartbeat, the next sequence number and
the failures of the frame under way, the bytes of the image being received, the next sequence number to send, and what was sent (newest
first). -/
structure Trs where
  primary : Bool
  watch : Bool
  silent : Bool
  partnerFault : Bool
  rxSeq : Nat
  fails : Nat
  rx : Option (List Byte)
  txSeq : Nat
  out : List (Nat × TrsFrame)
  deriving DecidableEq, Repr

/-- Where an access stands in a locked sequence, or in an exclusive pair (13 R442): in none, the first, one between, the last. -/
inductive BusLock where
  | free
  | first (excl : Bool)
  | next
  | last (excl : Bool)
  deriving DecidableEq, Repr

/-- The Body Bridge outside its registers (13 R438, R442): the posted writes accepted and not performed, oldest first, and the
master that holds the Cabin Bus locked, with whether its sequence is an exclusive pair. -/
structure Bridge where
  posted : List (Master × Nat × List Byte)
  lock : Option (Master × Bool)
  deriving DecidableEq, Repr

/-! ### The last access -/

/-- What the last access command of a master got (the model's own field): a status of 04 R109 (OK, FABRIC_ERR for an
error response of refusal, MEM_DETECT for one of detection) and, of a read, the bytes or the register's value. -/
structure Resp where
  status : Nat
  data : List Byte
  deriving DecidableEq, Repr

end Sys2Proof.Machine
end

