-- ==== Sys2Proof/Syntax.lean ====
section
/-! DEFINITION. The commands of the device: one constructor per row of the spec's table of what it does, with its
operands. -/

namespace Sys2Proof

open Sys2Proof.Machine

/-- One command (an instruction's progress, a bus access, a register access, a protocol event, a pin): the rows of the
table in its order, those without operands last. -/
inductive Instr where
  /-- INSTRUCTION_ISSUE (R99): The issue unit decodes the next instruction of the active drawer in program order and places it in the scoreboard, or executes it itself for class 0x0. -/
  | instructionIssue (k : EngineId)
  /-- INSTRUCTION_COMPLETE (R54): A placed instruction completes once its results and status are recorded, and it frees its scoreboard entry. -/
  | instructionComplete (k : EngineId) (e : Nat)
  /-- NOP (R126): The issue unit executes NOP with no effect. -/
  | nop (k : EngineId)
  /-- HALT (R127): HALT waits for every earlier instruction and then ends the job on its rank. -/
  | halt (k : EngineId)
  /-- YIELD (R128): YIELD waits for every earlier instruction and offers a switch point without a progress record. -/
  | yield (k : EngineId)
  /-- BR (R126): BR continues issue at its target word index. -/
  | br (k : EngineId)
  /-- BRC (R129): BRC continues issue at its target when the selected predicate or INFO bit differs from SENSE. -/
  | brc (k : EngineId)
  /-- LOOP (R131): LOOP opens a loop on an L counter, or skips to the exit when the count is 0. -/
  | loop (k : EngineId)
  /-- ENDL (R131): ENDL decrements the innermost loop counter and branches back to the loop start while it is not zero. -/
  | endl (k : EngineId)
  /-- SMOV (R133): SMOV moves a value between S, Q and L registers, the immediate, the INFO mask and the gang rank. -/
  | smov (k : EngineId)
  /-- SADD (R134): SADD computes scalar arithmetic into an S register or a comparison into a P register. -/
  | sadd (k : EngineId)
  /-- TDSET (R135): TDSET writes one field of a tensor descriptor or a whole descriptor. -/
  | tdset (k : EngineId)
  /-- TLOAD (R136): TLOAD copies a fabric tensor into a Local Memory tensor. -/
  | tload (k : EngineId) (e : Nat) (n : Nat)
  /-- TSTORE (R136): TSTORE copies a Local Memory tensor to a fabric tensor. -/
  | tstore (k : EngineId) (e : Nat) (n : Nat)
  /-- TCOPY (R137): TCOPY copies one Local Memory tensor to another of the same format and counts. -/
  | tcopy (k : EngineId) (e : Nat) (n : Nat)
  /-- MMA (R139): MMA accumulates A times W-transposed into its accumulator range in steps on the Tensor Array. -/
  | mma (k : EngineId) (e : Nat) (n : Nat)
  /-- CONV (R177): CONV walks its taps and channels in steps over the output tiles into its accumulator range. -/
  | conv (k : EngineId) (e : Nat) (n : Nat)
  /-- DWCONV (R179): DWCONV computes depth-wise convolution with lanes spanning taps. -/
  | dwconv (k : EngineId) (e : Nat) (n : Nat)
  /-- POOL (R181): POOL computes max or average pooling and writes each tile's results to its DST tensor. -/
  | pool (k : EngineId) (e : Nat) (n : Nat)
  /-- ARRAY_SUB_PASS_BOUNDARY (R39): An Array instruction reaches a sub-pass boundary, where its sets hold complete sums, the check comparison is made and progress is recorded. -/
  | arraySubPassBoundary (k : EngineId) (e : Nat)
  /-- VOP (R151): VOP applies an elementwise operation or conversion on the Vector Unit. -/
  | vop (k : EngineId) (e : Nat) (n : Nat)
  /-- VRED (R153): VRED reduces a tensor along one dimension with SUM, MAX, MIN, ARGMAX or ARGMIN. -/
  | vred (k : EngineId) (e : Nat) (n : Nat)
  /-- VLUT (R154): VLUT maps I8 indices through a 256-entry table. -/
  | vlut (k : EngineId) (e : Nat) (n : Nat)
  /-- REQ (R77): REQ converts INT accumulator sets into an I8 tensor through a per-channel Requantiser table. -/
  | req (k : EngineId) (e : Nat) (n : Nat)
  /-- GATHER (R158): GATHER writes each destination row from the table row that its index selects. -/
  | gather (k : EngineId) (e : Nat) (sched : List (Fin 4))
  /-- SCATTER (R161): SCATTER writes each source row into the indexed table row in sum, max or last-writer mode. -/
  | scatter (k : EngineId) (e : Nat) (sched : List (Fin 4))
  /-- MINS (R202): MINS inserts key–value pairs into the cabinet's CMU share in input order. -/
  | mins (k : EngineId) (e : Nat) (n : Nat)
  /-- MSEAL_SEAL (R207): MSEAL with MOD[0] = 0 asks the CMU to seal the share, moving it to SEALING. -/
  | msealSeal (k : EngineId) (e : Nat)
  /-- MSEAL_CLEAR (R208): MSEAL with MOD[0] = 1 empties the share and opens it. -/
  | msealClear (k : EngineId) (e : Nat)
  /-- MLOOK (R209): MLOOK looks up each key in the sealed share. -/
  | mlook (k : EngineId) (e : Nat) (n : Nat)
  /-- MKMAP (R210): MKMAP writes the kernel map of sites and offsets from lookups in the sealed share. -/
  | mkmap (k : EngineId) (e : Nat) (n : Nat)
  /-- MNBR (R219): MNBR writes the neighbour lists of queried graph nodes from compressed sparse rows. -/
  | mnbr (k : EngineId) (e : Nat) (n : Nat)
  /-- MAP_BATCH (R212): The CMU accepts and serves a batch of up to 256 pairs, keys or lookups of a Map instruction. -/
  | mapBatch (k : EngineId) (e : Nat)
  /-- SEAL_END (R207): The CMU finishes sorting a share, which becomes SEALED, and the MSEAL completes. -/
  | sealEnd (n : Fin 8)
  /-- SEND (R235): SEND transmits a tensor through a send endpoint as flits, one per credit. -/
  | send (k : EngineId) (e : Nat) (n : Nat)
  /-- RECV (R235): RECV takes flits from a receive ring into a tensor and returns their credits. -/
  | recv (k : EngineId) (e : Nat) (n : Nat)
  /-- FLIT_ARRIVE (R234): A flit reaches its destination engine and is written into the endpoint's ring, or discarded. -/
  | flitArrive (j : Nat)
  /-- CREDIT_RETURN (R235): A returned credit reaches the sender's endpoint and increments its COUNT. -/
  | creditReturn (j : Nat)
  /-- QUEUE_CREDIT_GRANT (R241): A Stream Buffer queue grants credits or a reservation to a producer. -/
  | queueCreditGrant (q : Fin 32)
  /-- QUEUE_DELIVER (R244): A queue delivers its oldest flit into the consumer's ring and frees the slot. -/
  | queueDeliver (q : Fin 32)
  /-- STREAM_STALL (R248): A SEND or RECV that has waited WDOG µs sets SN_ERR.STALL and is reported to SCH. -/
  | streamStall (k : EngineId) (e : Nat)
  /-- SWAIT (R166): SWAIT waits until a semaphore reaches its count and then subtracts it. -/
  | swait (k : EngineId) (e : Nat)
  /-- SSIG (R166): SSIG adds its count to a semaphore. -/
  | ssig (k : EngineId) (e : Nat)
  /-- BARR (R168): BARR completes on every engine of the gang once all have started a BARR with the same identifier. -/
  | barr (k : EngineId) (e : Nat)
  /-- CHKPT (R169): CHKPT writes the register image and accumulator sets in use to the free checkpoint slot and reports it. -/
  | chkpt (k : EngineId) (e : Nat)
  /-- POST (R171): POST submits a request block to its cluster's Post-Processing Unit. -/
  | post (k : EngineId) (e : Nat)
  /-- PPU_SERVE (R187): The PPU begins a request: it reads the block, filters, decodes, sorts and suppresses candidates. -/
  | ppuServe (c : Fin 4)
  /-- PPU_COMMIT (R195): The PPU commits the kept records to OUT and completes the POST. -/
  | ppuCommit (c : Fin 4)
  /-- PATROL (R172): A Cluster Control Core runs the golden input on an engine for 24,000 ACLK cycles. -/
  | patrol (k : EngineId)
  /-- PATROL_COMPLETE (R317): A patrol returns its signature, which is compared and sets the engine VERIFIED or UNVERIFIED. -/
  | patrolComplete (k : EngineId) (sig : Word)
  /-- PATROL_DUE (R315): A patrol falls due for an engine and the Core requests a drain or defers it. -/
  | patrolDue (k : EngineId)
  /-- PATROL_REPEAT (R317): After a signature mismatch the Core repeats the patrol within 1 ms. -/
  | patrolRepeat (k : EngineId)
  /-- PATROL_OVERDUE (R317): An engine without a matching patrol 80 ms after its due time becomes UNVERIFIED. -/
  | patrolOverdue (k : EngineId)
  /-- DRAIN (R105): SCH or a Cluster Control Core requests a drain, which stops issue at once. -/
  | drain (k : EngineId) (why : DrainWhy)
  /-- DRAIN_END (R105): A drain ends once no instruction of the drawer is running. -/
  | drainEnd (k : EngineId)
  /-- DRAWER_RESUME (R108): A drained drawer resumes its scoreboard records, suspended and withdrawn instructions and issue. -/
  | drawerResume (k : EngineId)
  /-- LM_INIT (R47): Writing 1 to TE_CTRL.LM_INIT starts zeroing Local Memory and emptying accumulator tags. -/
  | lmInit (m : Master) (k : EngineId)
  /-- LM_INIT_DONE (R47): LM_INIT ends and TE_STATUS.STATE leaves INIT. -/
  | lmInitDone (k : EngineId)
  /-- ENGINE_STOP (R57): Writing 0 to TE_CTRL.RUN stops issue at the next yield point. -/
  | engineStop (m : Master) (k : EngineId)
  /-- PROGRAM_LOAD (R116): The Cluster Control Core loads and checks a program image into a stopped drawer. -/
  | programLoad (k : EngineId) (d : Fin 8)
  /-- JOB_START (R268): SCH starts a job: it writes ARG, clears INFO and begins issue at the entry on every rank. -/
  | jobStart (c : CabId)
  /-- CONTEXT_WAITING (R264): A context whose ranks have only waited or halted for 2 µs becomes WAITING. -/
  | contextWaiting (c : CabId)
  /-- SLICE_END (R273): A shared cabinet's slice ends and SCH switches to another READY context of equal priority. -/
  | sliceEnd (c : CabId)
  /-- CONTEXT_SWITCH (R274): After the drain, SCH saves an evicted context, loads the program, restores the incoming context and activates it. -/
  | contextSwitch (c : CabId)
  /-- CT_ENTRY_FIRE (R269): A cyclic-table entry fires at its offset after the opening pulse and submits its job. -/
  | ctEntryFire (c : CabId) (j : Nat)
  /-- DEADLINE_MISS (R284): A job not ended by its deadline logs a deadline-miss record and raises the interrupt. -/
  | deadlineMiss (c : CabId) (x : CtxId)
  /-- ABORT_FABRIC_ABANDON (R281): A fabric access of an aborted drawer still outstanding after 1 ms is abandoned. -/
  | abortFabricAbandon (c : CabId)
  /-- RECOVERY (R304): The Cores restore a context from its last common checkpoint and restart issue on every rank. -/
  | recovery (c : CabId)
  /-- FENCE (R310): A Cluster Control Core fences an engine, PMC powers its domain off and SCH removes it from its cabinet. -/
  | fence (k : EngineId)
  /-- CABINET_REMAP (R312): SCH remaps a cabinet after a fence from its N−1 remap record. -/
  | cabinetRemap (c : CabId)
  /-- ARB_CFG_EN (R319): Setting ARB_CFG.EN starts the control cycles. -/
  | arbCfgEn (m : Master) (v : Nat)
  /-- FS_READY (R324): Writing ARB_RAISE.FS_READY marks Footstool's command of the cycle ready. -/
  | fsReady (m : Master)
  /-- MAIN_READY (R320): Writing ARB_RAISE.MAIN_READY marks the main-path command of the cycle ready. -/
  | mainReady (m : Master)
  /-- CHECKER (R318): Writing ARB_RAISE.CHECKER raises the CHECKER doubt flag. -/
  | checker (m : Master)
  /-- SOFTWARE (R320): Writing ARB_RAISE.SOFTWARE raises the SOFTWARE doubt flag. -/
  | software (m : Master)
  /-- ERROR_INJECTION (R328): The island, with CC0–CC3, injects faults into every checker and records the outcomes in ARB_MECH. -/
  | errorInjection (o : Injection)
  /-- ISL_WDOG_KICK (R428): A master kicks an island watchdog, or kicks it too early within MIN. -/
  | islWdogKick (m : Option Master) (v : Nat) (early : Bool)
  /-- ISL_WDOG_EXPIRE (R428): A watchdog period passes without a kick; the watchdog sets its bit, raises WATCHDOG and restarts. -/
  | islWdogExpire (n : Fin 7)
  /-- PAIR_STORE_COMPARE (R422): ISL-B's store is compared with ISL-A's buffered store and performed once on agreement. -/
  | pairStoreCompare (core : Fin 2) (a : Nat) (data : List Byte)
  /-- ISL_SYNC (R422): A write of ISL_SYNC records or compares the register-file signature of the pair. -/
  | islSync (core : Fin 2) (crc : Word)
  /-- WORLD_CSR_WRITE (R460): Machine-mode Secure code writes the world CSR 0x7C0 of an island core. -/
  | worldCsrWrite (core : Fin 2) (v : Nat)
  /-- LOCKER_CODE_FETCH (R471): An island core's fetch into or out of a Locker code part takes, keeps or clears its tag, or faults. -/
  | lockerCodeFetch (core : Fin 2) (a : Nat)
  /-- SECURE_INTERRUPT (R477): A Secure interrupt traps an island core into the Secure world and clears any Locker tag. -/
  | secureInterrupt (core : Fin 2) (source : Fin 64) (count : Nat)
  /-- LPDDR5X_READ (R386): A read of LPDDR5X is served with its inline CRC-16 checked. -/
  | lpddr5xRead (m : Master) (a : Nat) (n : Nat) (load : PortLoad)
  /-- LPDDR5X_WRITE (R387): A write of LPDDR5X updates its CRC, by read, merge and write for a partial line. -/
  | lpddr5xWrite (m : Master) (a : Nat) (data : List Byte) (load : PortLoad)
  /-- UNMAPPED_ACCESS (R381): An access to an unmapped address or from an unnamed master receives an error response and is logged RANGE. -/
  | unmappedAccess (m : Master) (write : Bool) (a : Nat) (n : Nat)
  /-- POWERED_OFF_ACCESS (R382): An access to an unpowered memory or block receives an error response within 1 µs and is logged POWER. -/
  | poweredOffAccess (m : Master) (write : Bool) (a : Nat) (n : Nat)
  /-- SBUF_READ (R397): A fabric read of the Stream Buffer is served by its slice port. -/
  | sbufRead (m : Master) (a : Nat) (n : Nat)
  /-- SBUF_WRITE (R651): A fabric write of the Stream Buffer, with read and check for partial words. -/
  | sbufWrite (m : Master) (a : Nat) (data : List Byte)
  /-- ISLAND_SRAM_WRITE (R651): A write of island SRAM, with read and check for partial words. -/
  | islandSramWrite (m : Master) (a : Nat) (data : List Byte)
  /-- HYPERRAM_READ (R298): A HyperRAM read is checked by CRC-16 and repeated once on a detection. -/
  | hyperramRead (m : Master) (a : Nat) (n : Nat) (transient : Bool)
  /-- HYPERRAM_WRITE (R394): A HyperRAM write, by read, merge and write for a partial granule. -/
  | hyperramWrite (m : Master) (a : Nat) (data : HyperData)
  /-- BUDGET_WINDOW_START (R404): A new budget window begins, charges reset, GUAR is checked and misses of the closed window are reported. -/
  | budgetWindowStart (waiting : BitVec 40)
  /-- SBUF_SLICE_INIT (R398): A powered-up Stream Buffer slice finishes zeroing and sets READY. -/
  | sbufSliceInit (j : Fin 4)
  /-- SBUF_SHARE_ENABLE (R400): Setting EN of a Stream Buffer share enables it or refuses an overlap. -/
  | sbufShareEnable (m : Master) (c : CabId) (v : Nat)
  /-- MEM_INJ_ARM (R415): Writing MEM_INJ.ARM corrupts the code of the next whole write to the selected target. -/
  | memInjArm (m : Master) (v : Nat)
  /-- CMU_SHARE_ENABLE (R198): Setting EN of a CMU share enables it, or refuses it and sets OVERCOMMIT. -/
  | cmuShareEnable (m : Master) (n : Fin 8) (v : Nat)
  /-- CMU_SHARE_DISABLE (R201): Clearing EN of a CMU share discards its entries and Reject Log count. -/
  | cmuShareDisable (m : Master) (n : Fin 8)
  /-- QUEUE_ENABLE (R258): Setting EN of a stream queue enables it unless DEPTH is 0. -/
  | queueEnable (m : Master) (q : Fin 32) (v : Nat)
  /-- QUEUE_DISABLE (R245): Clearing EN of a stream queue discards its contents. -/
  | queueDisable (m : Master) (q : Fin 32)
  /-- CSI_FRAME_START (R341): A frame start packet makes a stream slot take its next free buffer, or drop the frame. -/
  | csiFrameStart (r : Fin 4) (vc : Nat) (hdrOk : Bool)
  /-- CSI_LONG_PACKET (R339): A long packet is checked and written as a line of the current frame. -/
  | csiLongPacket (r : Fin 4) (vc : Nat) (dt : Nat) (data : List Byte) (hdrOk : Bool) (crcOk : Bool)
  /-- CSI_FRAME_END (R342): A frame end packet makes the slot write the frame record, FCNT last. -/
  | csiFrameEnd (r : Fin 4) (vc : Nat) (hdrOk : Bool)
  /-- SLOT_ENABLE (R340): Setting EN of a stream slot enables it, or refuses a duplicate and sets SLOT_DUP. -/
  | slotEnable (m : Master) (n : Fin 16) (v : Nat)
  /-- MIRROR_FRAME_START (R346): An output starts a frame DELAY after a new good source frame, reading its descriptor and checking the source. -/
  | mirrorFrameStart (o : Fin 2)
  /-- MIRROR_REPEAT (R346): No new good frame within REPEAT_US starts a repeat of the last good frame. -/
  | mirrorRepeat (o : Fin 2)
  /-- MIRROR_ENABLE (R344): Setting EN of a DSI output enables it unless its source is RAW. -/
  | mirrorEnable (m : Master) (o : Fin 2) (v : Nat)
  /-- MTU_ADJ (R351): A write of MTU_ADJ adds signed nanoseconds to the MTU. -/
  | mtuAdj (m : Master) (v : Nat)
  /-- MTU_SET (R351): A high-word write of MTU_SET replaces the MTU time. -/
  | mtuSet (m : Master) (t : Nat)
  /-- ITU_RATE_WRITE (R354): A write of ITU_RATE folds the accrued correction into ITU_OFFSET and rebases. -/
  | ituRateWrite (m : Master) (v : Nat)
  /-- TIMED_PULSE_FIRE (R356): A timed pulse fires at its due time, drives its pin and feeds cyclic tables and the Grid Aligner. -/
  | timedPulseFire (n : Fin 8)
  /-- TIMED_PULSE_WIDTH_END (R356): The pin of a timed pulse returns WIDTH µs after the firing. -/
  | timedPulseWidthEnd (n : Fin 8)
  /-- TIMED_PULSE_ARM (R357): A write of TPn_START arms the pulse with the written due time. -/
  | timedPulseArm (m : Master) (n : Fin 8) (t : Nat)
  /-- CAPTURE_EDGE (R358): A selected edge on TCIn latches the MTU time into the capture queue, or overflows. -/
  | captureEdge (n : Fin 16) (rising : Bool)
  /-- CAPTURE_READ (R358): Reading the high word of CAPn_TS removes the oldest entry. -/
  | captureRead (n : Fin 16)
  /-- GA_ENABLE (R379): Setting GA_CFG.EN starts the Grid Aligner and Track Unit. -/
  | gaEnable (m : Master) (v : Nat)
  /-- CAN_FRAME_RECEIVE (R434): A CAN controller receives and stamps a frame into its ring, or counts an overrun. -/
  | canFrameReceive (n : Fin 12) (w : Nat) (data : List Byte)
  /-- CAN_TX_REQ (R434): Writing CAN_TX_REQ makes transmit buffers ready for arbitration. -/
  | canTxReq (m : Master) (n : Fin 12) (v : Nat)
  /-- CAN_FRAME_SENT (R434): A CAN frame has been sent and its buffer is marked done. -/
  | canFrameSent (n : Fin 12)
  /-- CAN_TX_ABORT (R617): Writing CAN_TX_ABORT withdraws transmit buffers. -/
  | canTxAbort (m : Master) (n : Fin 12) (v : Nat)
  /-- CAN_RESTART (R434): Writing CAN_CTRL.RESTART restarts a bus-off controller. -/
  | canRestart (m : Master) (n : Fin 12)
  /-- CAN_BUS_OFF (R434): A CAN controller goes bus-off and holds its output recessive. -/
  | canBusOff (n : Fin 12)
  /-- CAN_BUS_OFF_RECOVERY (R434): After 128 occurrences of 11 recessive bits a controller with AUTO_RECOV recovers. -/
  | canBusOffRecovery (n : Fin 12)
  /-- LIN_START (R435): Writing LIN_START begins a LIN frame. -/
  | linStart (m : Master) (n : Fin 4)
  /-- LIN_DONE (R435): A LIN frame ends and its status is recorded. -/
  | linDone (n : Fin 4) (breakOk : Bool) (syncOk : Bool) (pid : Nat) (data : List Byte) (chk : Nat)
  /-- LIN_RESPONSE_TIMEOUT (R435): A LIN response does not arrive in time and TIMEOUT is set. -/
  | linResponseTimeout (n : Fin 4)
  /-- GPIO_EDGE (R436): A debounced GPIO input edge raises its interrupt. -/
  | gpioEdge (n : Fin 32) (rising : Bool)
  /-- ISLAND_TIMER_EXPIRE (R436): An island timer reaches its compare value and raises its interrupt. -/
  | islandTimerExpire (n : Fin 8)
  /-- CABIN_BUS_TIMEOUT (R419): A Cabin Bus monitor ends an access unanswered for 1,024 island-clock cycles. -/
  | cabinBusTimeout (m : Master) (write : Bool) (a : Nat)
  /-- BB_POSTED_WRITE (R438): A posted write is accepted into the Body Bridge queue and later performed on the Cabin Bus. -/
  | bbPostedWrite (perform : Bool) (m : Master) (a : Nat) (data : List Byte)
  /-- BB_NONPOSTED_ACCESS (R439): A non-posted bridge access completes with the target's response or an error per COMPAT_ERR. -/
  | bbNonpostedAccess (m : Master) (write : Bool) (a : Nat) (n : Nat) (data : List Byte) (lk : BusLock)
  /-- BB_LOCK_BREAK (R442): A Cabin Bus lock held 64 island-clock cycles is broken. -/
  | bbLockBreak (a : Nat)
  /-- BB_OUTBOUND_ACCESS (R443): An island master's access passes the bridge to the main fabric as master port 36. -/
  | bbOutboundAccess (m : Master) (write : Bool) (a : Nat) (n : Nat) (data : List Byte)
  /-- SWITCH_FRAME_RECEIVE (R448): The TSN switch forwards a received frame or discards and counts it. -/
  | switchFrameReceive (p : Fin 12) (data : List Byte) (blocked : Bool) (full : BitVec 12)
  /-- GCL_CHANGE (R630): Writing SW_Pp_GCL_CHANGE.GO arms the switch to the administrative gate list. -/
  | gclChange (m : Master) (p : Fin 12)
  /-- GCL_SWITCH (R447): At the programmed base time the administrative gate list becomes operational. -/
  | gclSwitch (p : Fin 12)
  /-- FDB_READ (R630): A forwarding table read command. -/
  | fdbRead (m : Master) (idx : Nat)
  /-- FDB_WRITE (R630): A forwarding table write command. -/
  | fdbWrite (m : Master) (idx : Nat)
  /-- FDB_DELETE (R630): A forwarding table delete command. -/
  | fdbDelete (m : Master) (idx : Nat)
  /-- FDB_FLUSH (R630): A forwarding table flush command. -/
  | fdbFlush (m : Master) (idx : Nat)
  /-- VLAN_READ (R630): A VLAN table read command. -/
  | vlanRead (m : Master) (vid : Nat)
  /-- VLAN_WRITE (R630): A VLAN table write command. -/
  | vlanWrite (m : Master) (vid : Nat)
  /-- VLAN_DELETE (R630): A VLAN table delete command. -/
  | vlanDelete (m : Master) (vid : Nat)
  /-- VLAN_FLUSH (R630): A VLAN table flush command. -/
  | vlanFlush (m : Master) (vid : Nat)
  /-- SWITCH_TABLE_COMMAND (R630): A command on a stream filter, gate, meter, 802.1CB or MACsec table entry. -/
  | switchTableCommand (m : Master) (t : Fin 5) (op : Fin 4) (idx : Nat)
  /-- ETH_FRAME_SEND (R628): The island Ethernet MAC sends a frame from its transmit ring. -/
  | ethFrameSend (blocked : Bool) (full : BitVec 12)
  /-- TRESTLE_FRAME_RECEIVE (R450): A Trestle frame is received, checked and delivered or asked for again. -/
  | trestleFrameReceive (seq : Nat) (f : TrsFrame) (crcOk : Bool)
  /-- TRESTLE_LINK_UP (R451): The Trestle link comes up and the roles are decided. -/
  | trestleLinkUp (peer : Fin 3)
  /-- MIRROR_IMAGE_COMPLETE (R454): The standby receives a complete image with a good CRC and raises the mirror interrupt. -/
  | mirrorImageComplete (crcOk : Bool)
  /-- SEC_MBOX_REQ (R483): A write of SEC_MBOXn_REQ enqueues a service request, or sets OVF. -/
  | secMboxReq (m : Master) (n : Fin 8) (a : Nat)
  /-- HASH (R485): SEC computes the SHA-512 of a range. -/
  | hash (n : Fin 4)
  /-- VERIFY (R490): SEC verifies an RSA-4096 signature. -/
  | verify (n : Fin 4)
  /-- WRAP (R485): SEC wraps a key under a derived device key. -/
  | wrap (n : Fin 4)
  /-- UNWRAP (R485): SEC unwraps a key under a derived device key. -/
  | unwrap (n : Fin 4)
  /-- QUOTE (R500): SEC writes a signed quote of the measurement log. -/
  | quote (n : Fin 4)
  /-- LOCKER_SEAL (R473): SEC creates a Locker, applies its checks and measures its code part. -/
  | lockerSeal (n : Fin 4)
  /-- LOCKER_FREE (R474): SEC zeroes and releases a Locker not bound to a cabinet. -/
  | lockerFree (n : Fin 4)
  /-- BIND_CABINET (R462): SEC writes SEC_CABc with the cabinet's world and Locker. -/
  | bindCabinet (n : Fin 4)
  /-- COUNTER_READ (R501): SEC reads the rollback counters from RPMB. -/
  | counterRead (n : Fin 4)
  /-- COUNTER_COMMIT (R502): SEC raises a rollback counter to the accepted images' SVN. -/
  | counterCommit (n : Fin 4)
  /-- LOG_READ (R485): SEC returns the measurement log. -/
  | logRead (n : Fin 4)
  /-- SERVICE_HANG (R486): A request past twice its bound plus 1 ms completes SERVICE_UNAVAILABLE and its service restarts. -/
  | serviceHang (n : Fin 4)
  /-- SERVICE_RESTART_DONE (R486): A restarted service returns to service and its queued Secure requests run. -/
  | serviceRestartDone (code : Fin 12)
  /-- SEC_CORE_WATCHDOG (R487): 10 ms without a supervisor kick restarts the SEC core along the warm path. -/
  | secCoreWatchdog (busy : BitVec 4) (recent : Bool)
  /-- ISLAND_RELEASE (R550): SEC writes the island images and releases the island, SCH and CC0–CC3. -/
  | islandRelease (hyper : Bool)
  /-- LPDDR5X_TRAINING_DONE (R573): LPDDR5X training completes. -/
  | lpddr5xTrainingDone (ok : Bool)
  /-- MANIFEST_LAUNCH (R553): After injection SCH loads, verifies and launches each Boot Manifest entry. -/
  | manifestLaunch (emmc : Bool)
  /-- RECOVERY_WRITE (R562): BOOT_RCV.GO makes SEC check the host's slot and write it to flash as slot A. -/
  | recoveryWrite (flashOk : Bool)
  /-- XSPI_READ (R624): An xSPI read command. -/
  | xspiRead (m : Master) (cmd : Nat)
  /-- XSPI_WRITE (R624): An xSPI write command without a data range. -/
  | xspiWrite (m : Master) (cmd : Nat)
  /-- XSPI_PROGRAM (R625): An xSPI program command, refused over the protected range. -/
  | xspiProgram (m : Master) (cmd : Nat)
  /-- XSPI_ERASE (R625): An xSPI erase command, refused over the protected range. -/
  | xspiErase (m : Master) (cmd : Nat)
  /-- EMMC_COMMAND (R626): An eMMC command is sent, or refused when it touches RPMB from a master other than SEC. -/
  | emmcCommand (m : Master) (cmd : Nat)
  /-- EMMC_DONE (R626): An eMMC command and its data transfer complete. -/
  | emmcDone (timeout : Bool) (cmdCrc : Bool) (dataCrc : Bool)
  /-- CAN_WAKE (R581): A low level of 5 µs on an enabled CAN receive pin wakes the device. -/
  | canWake (n : Fin 12)
  /-- WARN_CROSSING (R588): A rail below WARN for 1 µs sets its WARN bit. -/
  | warnCrossing (r : Fin 8)
  /-- BROWN_CROSSING (R588): A rail below BROWN stops the fast clocks it feeds. -/
  | brownCrossing (r : Fin 8)
  /-- BROWN_RECOVERY (R588): A rail above WARN for 10 µs restarts the stopped clocks. -/
  | brownRecovery (r : Fin 8)
  /-- LONG_DIP (R588): A rail not back above WARN 100 µs after BROWN causes a device reset. -/
  | longDip (r : Fin 8)
  /-- UV_OV (R588): UV or OV on a rail causes a device or power-on reset. -/
  | uvOv (r : Fin 8) (high : Bool)
  /-- THERMAL_WARN (R589): Tj at or above PMC_THERM.WARN sets THERM_WARN. -/
  | thermalWarn (tj : Int)
  /-- THERMAL_HOLD (R589): Tj at 135 °C holds the device in reset. -/
  | thermalHold (tj : Int)
  /-- THERMAL_RELEASE (R589): Tj back at 120 °C releases the thermal hold and start-up runs. -/
  | thermalRelease (tj : Int)
  /-- PLL_LOCK_LOSS (R583): A PLL that loses lock has its outputs gated. -/
  | pllLockLoss (p : Fin 3)
  /-- PLL_RELOCK (R583): A PLL relocks and its units continue, or failing to relock resets the device. -/
  | pllRelock (p : Fin 3) (ok : Bool)
  /-- AVS_STEP (R586): PMC sends a PMBus VOUT_COMMAND step to adapt VDD_CORE. -/
  | avsStep (target : Nat) (ack : Bool)
  /-- INBOUND_REQUEST (R508): A PCI Express inbound request enters the fabric as master port 26 or completes with an error. -/
  | inboundRequest (f : Fin 32) (q : Inbound)
  /-- OUTBOUND_REQUEST (R513): A request to the outbound window is sent to host memory with its function's requester ID. -/
  | outboundRequest (m : Master) (write : Bool) (a : Nat) (n : Nat) (data : List Byte)
  /-- OUTBOUND_TIMEOUT (R506): An outbound read without completion for 10 ms times out. -/
  | outboundTimeout (m : Master) (a : Nat) (n : Nat)
  /-- HIF_ATTACH (R516): A write of HIF_ATTACH with OP = 0 checks the version and record and opens the rings, or refuses. -/
  | hifAttach (f : Fin 33) (core : Fin 2) (a : Nat)
  /-- HIF_DETACH (R518): A write of HIF_ATTACH with OP = 1 closes the rings. -/
  | hifDetach (f : Fin 33) (core : Fin 2)
  /-- SUBMISSION_TAIL (R521): A doorbell moves the submission tail and makes commands visible. -/
  | submissionTail (f : Fin 33) (core : Fin 2) (idx : Nat)
  /-- COMPLETION_HEAD (R522): A doorbell returns completion ring slots. -/
  | completionHead (f : Fin 33) (core : Fin 2) (idx : Nat)
  /-- EVENT_HEAD (R522): A doorbell returns event ring slots. -/
  | eventHead (f : Fin 33) (core : Fin 2) (idx : Nat)
  /-- HEARTBEAT (R531): A PF heartbeat doorbell starts or refreshes heartbeat monitoring. -/
  | heartbeat (f : Fin 33) (core : Fin 2)
  /-- CMD_NOP (R524): The NOP command completes with no effect. -/
  | cmdNop (f : Fin 33)
  /-- CABINET_CREATE (R527): The PF creates a host cabinet from a cabinet record. -/
  | cabinetCreate (f : Fin 33)
  /-- CABINET_DESTROY (R525): The PF aborts and destroys a host cabinet and frees its resources. -/
  | cabinetDestroy (f : Fin 33)
  /-- CONTEXT_CREATE (R263): A context is created from a context record and its endpoints are bound. -/
  | contextCreate (f : Fin 33)
  /-- CONTEXT_DESTROY (R525): A context is aborted and destroyed. -/
  | contextDestroy (f : Fin 33)
  /-- JOB_SUBMIT (R267): A job descriptor is checked and queued on its context. -/
  | jobSubmit (f : Fin 33)
  /-- ABORT (R281): An abort stops and destroys a context or every context of a cabinet. -/
  | abort (f : Fin 33)
  /-- SET_VF_WINDOW (R510): The PF assigns or withdraws a VF's LPDDR5X window. -/
  | setVfWindow (f : Fin 33)
  /-- LOG_DIRTY_START (R536): The PF starts dirty logging for a VF. -/
  | logDirtyStart (f : Fin 33)
  /-- LOG_DIRTY_SYNC (R537): The PF swaps the active dirty bitmap. -/
  | logDirtySync (f : Fin 33)
  /-- LOG_DIRTY_STOP (R536): The PF stops dirty logging for a VF. -/
  | logDirtyStop (f : Fin 33)
  /-- VF_QUIESCE (R538): A VF is quiesced and its contexts are stored. -/
  | vfQuiesce (f : Fin 33)
  /-- VF_UNQUIESCE (R538): A quiesced VF resumes its rings and recorded doorbells. -/
  | vfUnquiesce (f : Fin 33)
  /-- SAVE_VF_STATE (R539): The PF writes a quiesced VF's state to a host buffer. -/
  | saveVfState (f : Fin 33)
  /-- RESTORE_VF_STATE (R540): The PF re-creates a VF's saved cabinets on the destination. -/
  | restoreVfState (f : Fin 33) (image : VfImage)
  /-- SEC_SERVICE (R524): The PF enqueues a SEC request in mailbox 3. -/
  | secService (f : Fin 33)
  /-- POWER_REQUEST (R524): A host function relays a power request to PMC as a Normal request. -/
  | powerRequest (f : Fin 33)
  /-- CABINET_STOP (R288): Island software stops a flash-launched cabinet and stores its contexts. -/
  | cabinetStop (f : Fin 33)
  /-- CABINET_START (R288): Island software resumes a stopped flash-launched cabinet. -/
  | cabinetStart (f : Fin 33)
  /-- CABINET_RESTART (R288): Island software aborts and re-creates a flash-launched cabinet from its manifest entry. -/
  | cabinetRestart (f : Fin 33)
  /-- VF_FLR (R534): A function-level reset of a VF aborts its contexts and returns its page to reset. -/
  | vfFlr (f : Fin 33)
  /-- COUNTER_OVERFLOW (R599): A performance counter wraps and sets its OVF bit. -/
  | counterOverflow (shared : Bool) (k : Nat) (n : Fin 8)
  /-- PERF_FREEZE (R606): Writing PERF_FREEZE stops or restarts every engine and shared counter together. -/
  | perfFreeze (m : Master) (on : Bool)
  /-- IE_JOB (R618): Writing IE_JOB with START loads a program into the Island Engine and starts a job. -/
  | ieJob (m : Master) (a : Nat)
  /-- LOW_WORD_READ (R5): Reading the low word of a 64-bit register latches its high word. -/
  | lowWordRead (m : Master) (a : Nat)
  /-- REGISTER_WRITE (R11): A write to a register without a row of its own sets its fields by access code and class. -/
  | registerWrite (m : Master) (a : Nat) (data : List Byte)
  /-- MIRROR_FRAME_END (R346): The last line of an output frame that uses a source buffer is sent, and the compositor stops holding that buffer. -/
  | mirrorFrameEnd (o : Fin 2)
  /-- FLIT_REACHES_QUEUE (R229): A flit sent on a queue-bound endpoint reaches the Stream Buffer queue and fills its granted slot. -/
  | flitReachesQueue (j : Nat)
  /-- PAIR_LOAD_COMPARE (R425): In Paired mode ISL-B executes a load, takes its value from the input log and has its load address compared with the logged address. -/
  | pairLoadCompare (core : Fin 2) (a : Nat) (n : Nat)
  /-- LIN_WAKE_UP (R435): A LIN controller detects a wake-up on its bus while PD3 is powered. -/
  | linWakeUp (n : Fin 4)
  /-- CONTROL_BOUNDARY (R322): At every 20 ms control boundary the Arbiter Unit closes the cycle and chooses the source of the next. -/
  | controlBoundary
  /-- ARBITER_LOCKSTEP_MISMATCH (R330): The two copies of the Arbiter Unit disagree and FAULT_N asserts. -/
  | arbiterLockstepMismatch
  /-- ALIVE_TOGGLE (R331): ALIVE toggles every 500 µs while FAULT_N is deasserted and FS_READY was written. -/
  | aliveToggle
  /-- PAIR_COMPARE_TIMEOUT (R425): A compare buffer entry waiting 8,192 island-clock cycles without its match is a mismatch. -/
  | pairCompareTimeout
  /-- SAMPLE_POLL (R363): Every 100 µs the Grid Aligner checks each sensor's next slot and accepts a new sample. -/
  | samplePoll
  /-- FUSION_CLOSE (R364): A fusion cycle closes, its samples are fixed and the merge starts. -/
  | fusionClose
  /-- GRID_RELEASE (R370): After merge and track stage the Aligner writes the cycle record, raises the release interrupt and sets CYCLE. -/
  | gridRelease
  /-- ETH_FRAME_RECEIVE (R628): The island Ethernet MAC writes a received frame through its receive ring. -/
  | ethFrameReceive
  /-- TRESTLE_HEARTBEAT_SEND (R450): Every 100 µs a device sends a heartbeat frame with its role, ARB_STATUS and FAULT_N. -/
  | trestleHeartbeatSend
  /-- TRESTLE_LINK_DOWN (R450): The link goes down on lost training, four failures or 300 µs of silence. -/
  | trestleLinkDown
  /-- ROLE_DECISION_TIMEOUT (R451): A device without a link decides its role 100 ms or 1 s after POWER_GOOD. -/
  | roleDecisionTimeout
  /-- MIRROR_IMAGE_SEND (R453): The active device sends its mirror image OFFSET µs after its control boundary. -/
  | mirrorImageSend
  /-- PARTNER_ALIVE_EDGE (R455): An edge arrives on PARTNER_ALIVE. -/
  | partnerAliveEdge
  /-- PARTNER_SILENT (R455): No PARTNER_ALIVE edge for 2 ms makes the standby decide on its partner. -/
  | partnerSilent
  /-- SEC_WARM_RESTART_DONE (R487): The warm restart ends and every service returns to service. -/
  | secWarmRestartDone
  /-- POWER_GOOD_RISE (R550): The rise of POWER_GOOD releases SEC to run mask ROM, verify the chain and release PMC. -/
  | powerGoodRise
  /-- PLL_F_LOCK (R567): PLL_F locks and the hardware switches SEC, PD59 and PD61 from the boot oscillator. -/
  | pllFLock
  /-- XSPI_DONE (R624): An xSPI command completes and sets DONE. -/
  | xspiDone
  /-- DOMAIN_ON (R573): PMC powers and clocks a domain with its prerequisites. -/
  | domainOn
  /-- DOMAIN_OFF (R572): PMC powers a domain and its dependents off. -/
  | domainOff
  /-- STATE (R575): PMC moves the device to a state of the ladder. -/
  | state
  /-- DEVICE_RESET (R590): A DEVICE_RESET request resets every domain except PD0. -/
  | deviceReset
  /-- AUTO_IDLE_ENTRY (R576): With AUTO_IDLE set, PMC enters IDLE when all engines are stopped and nothing is READY. -/
  | autoIdleEntry
  /-- WAKE_N_WAKE (R581): A low level of 1 ms on WAKE_N wakes the device. -/
  | wakeNWake
  /-- ITU_WAKE (R581): ITU_COUNT reaching PMC_WAKE_ITU wakes WATCH. -/
  | ituWake
  /-- REFERENCE_LOSS (R583): Loss of the reference clock causes a device reset. -/
  | referenceLoss
  /-- XTAL32_FAIL (R583): Loss of the 32.768 kHz crystal switches PMC to the RC oscillator. -/
  | xtal32Fail
  /-- RESET_N (R590): RESET_N low for 1 µs causes a device reset. -/
  | resetN
  /-- POWER_GOOD_FALL (R590): POWER_GOOD falling causes a device reset. -/
  | powerGoodFall
  /-- POWER_ON_RESET (R590): VDD_AO rising through UV resets everything including PD0. -/
  | powerOnReset
  /-- HEARTBEAT_TIMEOUT (R531): 300 ms without a PF heartbeat enters HOST_LOST. -/
  | heartbeatTimeout
  /-- PCIE_LINK_DOWN (R531): The PCI Express link goes down, entering HOST_LOST. -/
  | pcieLinkDown
  /-- HOST_STATE_DISCARD (R532): 10 s after HOST_LOST without a resume, firmware aborts and destroys the host state. -/
  | hostStateDiscard
  /-- PF_FLR (R535): A function-level reset of the PF discards every VF's host state and enters HOST_LOST. -/
  | pfFlr
  /-- VF_ENABLE_CLEAR (R507): Clearing VF Enable discards the host state of every VF. -/
  | vfEnableClear
  /-- PERST_N_DEASSERT (R594): PERST_N rises and the PCI Express endpoint leaves reset. -/
  | perstNDeassert
  deriving DecidableEq, Repr

end Sys2Proof
end

