-- ==== Sys2Proof/Decode.lean ====
section
/-! DEFINITION. The table gives no row any bits, so no word spells a command: a command is sent as a term of `Instr`. -/

namespace Sys2Proof

/-- The command that a word spells by the table's bits: none (notes/assumptions/6.md). -/
def decodeTableWord (_nbits _w : Nat) : Option Instr := none

end Sys2Proof
end

