-- ==== Sys2Proof/Machine/Crypto.lean ====
section
/-! DEFINITION. The cryptographic functions SEC computes, each after the standard that the spec names: SHA-512 and HKDF-SHA-512
(14 R497), RSASSA-PSS (14 R490), and the RFC 5649 key wrap with AES-256 (14 R485, R497). -/

namespace Sys2Proof.Machine

/-! ### SHA-512 -/

/-- The largest root of degree `e` that is at most the root of `v`, tried bit by bit from bit `n`. -/
def iroot (e v : Nat) : Nat → Nat → Nat
  | 0, r => r
  | n + 1, r => let t := r + 2 ^ n; iroot e v n (if t ^ e ≤ v then t else r)

/-- The primes below 410: the first 80. -/
def primes80 : List Nat := (List.range 410).filter (fun p => decide (2 ≤ p) && (List.range p).all (fun d => d < 2 || p % d != 0))

/-- The 80 round constants: the first 64 fraction bits of the cube roots of the first 80 primes. -/
def shaK : List Nat := primes80.map (fun p => iroot 3 (p * 2 ^ 192) 70 0 % 2 ^ 64)

/-- The start value: the first 64 fraction bits of the square roots of the first 8 primes. -/
def shaH : List Nat := (primes80.take 8).map (fun p => iroot 2 (p * 2 ^ 128) 70 0 % 2 ^ 64)

/-- Rotation of a 64-bit word to the right. -/
def rotr (n x : Nat) : Nat := (x >>> n) + (x <<< (64 - n)) % 2 ^ 64

def shaS0 (x : Nat) : Nat := rotr 28 x ^^^ rotr 34 x ^^^ rotr 39 x
def shaS1 (x : Nat) : Nat := rotr 14 x ^^^ rotr 18 x ^^^ rotr 41 x
def shaG0 (x : Nat) : Nat := rotr 1 x ^^^ rotr 8 x ^^^ (x >>> 7)
def shaG1 (x : Nat) : Nat := rotr 19 x ^^^ rotr 61 x ^^^ (x >>> 6)

/-- The message schedule, newest word first, extended by `n` words. -/
def shaW : Nat → List Nat → List Nat
  | 0, w => w
  | n + 1, w => shaW n ((shaG1 (nth 0 w 1) + nth 0 w 6 + shaG0 (nth 0 w 14) + nth 0 w 15) % 2 ^ 64 :: w)

/-- One round on the eight working words. -/
def shaRound (v : List Nat) (kw : Nat) : List Nat :=
  let g := fun i => nth 0 v i
  let ch := (g 4 &&& g 5) ^^^ ((2 ^ 64 - 1 - g 4) &&& g 6)
  let maj := (g 0 &&& g 1) ^^^ (g 0 &&& g 2) ^^^ (g 1 &&& g 2)
  let t1 := g 7 + shaS1 (g 4) + ch + kw
  let t2 := shaS0 (g 0) + maj
  [(t1 + t2) % 2 ^ 64, g 0, g 1, g 2, (g 3 + t1) % 2 ^ 64, g 4, g 5, g 6]

/-- One block of 128 bytes. -/
def shaBlock (h : List Nat) (l : List Byte) : List Nat :=
  let w := (List.range 16).map (fun i => ofBytesBE ((l.drop (8 * i)).take 8))
  let ws := (shaW 64 w.reverse).reverse
  let v := (shaK.zip ws).foldl (fun v p => shaRound v (p.1 + p.2)) h
  (h.zip v).map (fun p => (p.1 + p.2) % 2 ^ 64)

/-- SHA-512 of some bytes, 64 bytes. -/
def sha512 (l : List Byte) : List Byte :=
  let pad := 1 + (239 - l.length % 128) % 128
  let m := l ++ (BitVec.ofNat 8 128 :: List.replicate (pad - 1) 0) ++ beBytes (8 * l.length) 16
  let h := (List.range (m.length / 128)).foldl (fun h i => shaBlock h ((m.drop (128 * i)).take 128)) shaH
  h.flatMap (fun x => beBytes x 8)

/-- Exclusive or of two byte strings. -/
def xorBytes (a b : List Byte) : List Byte := (a.zip b).map (fun p => p.1 ^^^ p.2)

/-- HMAC-SHA-512 (RFC 2104) with a key of at most 128 bytes. -/
def hmac512 (key msg : List Byte) : List Byte :=
  let k := key ++ List.replicate (128 - key.length) 0
  sha512 (xorBytes k (List.replicate 128 (BitVec.ofNat 8 0x5C)) ++ sha512 (xorBytes k (List.replicate 128 (BitVec.ofNat 8 0x36)) ++ msg))

/-- HKDF-SHA-512 (RFC 5869) without a salt, 32 bytes of output (14 R497). -/
def hkdf32 (secret info : List Byte) : List Byte :=
  (hmac512 (hmac512 (List.replicate 64 0) secret) (info ++ [1])).take 32

/-! ### RSASSA-PSS (14 R490) -/

/-- b^e modulo m, over `n` bits of e from the least significant one. -/
def powMod (m : Nat) : Nat → Nat → Nat → Nat → Nat
  | 0, _, _, r => r
  | n + 1, b, e, r => powMod m n (b * b % m) (e / 2) (if e % 2 = 1 then r * b % m else r)

/-- MGF1 with SHA-512. -/
def mgf1 (seed : List Byte) (n : Nat) : List Byte :=
  ((List.range (cdiv n 64)).flatMap (fun i => sha512 (seed ++ beBytes i 4))).take n

/-- The hash that the encoded message ends with. -/
def pssHash (digest salt : List Byte) : List Byte := sha512 (List.replicate 8 0 ++ digest ++ salt)

/-- A mask's first bit, which EMSA-PSS clears: the encoding has one bit less than the 512 bytes. -/
def clearTop : List Byte → List Byte
  | [] => []
  | b :: l => (b &&& BitVec.ofNat 8 0x7F) :: l

/-- EMSA-PSS encoding of a digest for a 4,096-bit modulus. -/
def pssEncode (digest salt : List Byte) : List Byte :=
  let h := pssHash digest salt
  let db := List.replicate 382 0 ++ [1] ++ salt
  clearTop (xorBytes db (mgf1 h 447)) ++ h ++ [BitVec.ofNat 8 0xBC]

/-- EMSA-PSS verification. -/
def pssCheck (digest em : List Byte) : Bool :=
  let masked := em.take 447
  let h := (em.drop 447).take 64
  let db := clearTop (xorBytes masked (mgf1 h 447))
  let salt := db.drop 383
  em.length == 512 && em.drop 511 == [BitVec.ofNat 8 0xBC] && (masked.headD 0) &&& BitVec.ofNat 8 0x80 == 0
    && db.take 382 == List.replicate 382 0 && (db.drop 382).take 1 == [1] && pssHash digest salt == h

/-- Whether a key blob has the form of 14 R490: a 4,096-bit modulus, exponent 65,537, 12 zero bytes. -/
def blobOk (key : List Byte) : Bool :=
  key.length == 528 && ofBytesBE ((key.drop 512).take 4) == 65537 && key.drop 516 == List.replicate 12 0
    && decide (2 ^ 4095 ≤ ofBytesBE (key.take 512))

/-- Whether a signature of a digest verifies under a key blob. -/
def sigOk (key digest sig : List Byte) : Bool :=
  let n := ofBytesBE (key.take 512)
  let v := ofBytesBE sig
  blobOk key && sig.length == 512 && decide (v < n) && pssCheck digest (beBytes (powMod n 17 v 65537 1) 512)

/-- A signature with a modulus, a private exponent and a salt. -/
def signWith (n d : Nat) (digest salt : List Byte) : List Byte :=
  beBytes (powMod n 4096 (ofBytesBE (pssEncode digest salt)) d 1) 512

/-! ### AES-256 and the RFC 5649 key wrap -/

/-- Multiplication by x in the field of AES. -/
def xtime (a : Nat) : Nat := if 128 ≤ a then (2 * a % 256) ^^^ 0x1B else 2 * a

/-- A product in the field of AES, over `n` bits of the second factor. -/
def gmulN : Nat → Nat → Nat → Nat
  | 0, _, _ => 0
  | n + 1, a, b => (if b % 2 = 1 then a else 0) ^^^ gmulN n (xtime a) (b / 2)

def gmul (a b : Nat) : Nat := gmulN 8 a b

/-- The inverse, a to the power 254; 0 for 0. -/
def ginv (a : Nat) : Nat :=
  let a2 := gmul a a
  let a4 := gmul a2 a2
  let a8 := gmul a4 a4
  let a16 := gmul a8 a8
  let a32 := gmul a16 a16
  let a64 := gmul a32 a32
  let a128 := gmul a64 a64
  gmul a2 (gmul a4 (gmul a8 (gmul a16 (gmul a32 (gmul a64 a128)))))

/-- Rotation of a byte to the left. -/
def rotl8 (n x : Nat) : Nat := (x <<< n) % 256 + (x >>> (8 - n))

/-- The S-box. -/
def sbox (x : Nat) : Nat := let b := ginv x; b ^^^ rotl8 1 b ^^^ rotl8 2 b ^^^ rotl8 3 b ^^^ rotl8 4 b ^^^ 0x63

/-- The inverse S-box. -/
def invSbox (y : Nat) : Nat := ginv (rotl8 1 y ^^^ rotl8 3 y ^^^ rotl8 6 y ^^^ 0x05)

/-- Round constants. -/
def rcon : Nat → Nat
  | 0 => 1
  | n + 1 => xtime (rcon n)

/-- The key schedule: `n` further words after the last eight, each a list of four bytes, in order. -/
def aesExpand (ws : List (List Nat)) : Nat → List (List Nat)
  | 0 => ws
  | n + 1 =>
    let i := ws.length
    let t := nth [] ws (i - 1)
    let t := if i % 8 = 0 then
        (let r := (t.drop 1 ++ t.take 1).map sbox; (nth 0 r 0 ^^^ rcon (i / 8 - 1)) :: r.drop 1)
      else if i % 8 = 4 then t.map sbox else t
    aesExpand (ws ++ [((nth [] ws (i - 8)).zip t).map (fun p => p.1 ^^^ p.2)]) n

/-- The 15 round keys of 16 bytes. -/
def aesKeys (key : List Byte) : List (List Nat) :=
  let ws := aesExpand ((List.range 8).map (fun i => ((key.drop (4 * i)).take 4).map (fun b => b.toNat))) 52
  (List.range 15).map (fun r => ((ws.drop (4 * r)).take 4).flatMap id)

def xorNats (a b : List Nat) : List Nat := (a.zip b).map (fun p => p.1 ^^^ p.2)

/-- The column mix with coefficients. -/
def mixCols (c : List Nat) (s : List Nat) : List Nat :=
  (List.range 16).map (fun i =>
    let col := i / 4 * 4
    (List.range 4).foldl (fun a k => a ^^^ gmul (nth 0 c ((k + 4 - i % 4) % 4)) (nth 0 s (col + k))) 0)

/-- Rows shifted by `f` of the row number. -/
def shiftRows (f : Nat → Nat) (s : List Nat) : List Nat :=
  (List.range 16).map (fun i => nth 0 s ((i / 4 + f (i % 4)) % 4 * 4 + i % 4))

/-- AES-256 encryption of one block. -/
def aesEnc (key blk : List Byte) : List Byte :=
  let ks := aesKeys key
  let s := xorNats (blk.map (fun b => b.toNat)) (nth [] ks 0)
  let s := (List.range 14).foldl (fun s r =>
    let s := shiftRows (fun n => n) (s.map sbox)
    let s := if r = 13 then s else mixCols [2, 3, 1, 1] s
    xorNats s (nth [] ks (r + 1))) s
  s.map (fun n => BitVec.ofNat 8 n)

/-- AES-256 decryption of one block. -/
def aesDec (key blk : List Byte) : List Byte :=
  let ks := aesKeys key
  let s := (List.range 14).foldl (fun s r =>
    let s := xorNats s (nth [] ks (14 - r))
    let s := if r = 0 then s else mixCols [14, 11, 13, 9] s
    (shiftRows (fun n => 4 - n) s).map invSbox) (blk.map (fun b => b.toNat))
  (xorNats s (nth [] ks 0)).map (fun n => BitVec.ofNat 8 n)

/-- One step of the wrap on the register A and semiblock `i` of `n`, in round `j`. -/
def wrapStep (key : List Byte) (n : Nat) (acc : List Byte × List (List Byte)) (t : Nat) : List Byte × List (List Byte) :=
  let i := t % n
  let b := aesEnc key (acc.1 ++ nth [] acc.2 i)
  (xorBytes (b.take 8) (beBytes (t + 1) 8), modAt (fun _ => b.drop 8) i acc.2)

/-- The reverse of a step. -/
def unwrapStep (key : List Byte) (n : Nat) (acc : List Byte × List (List Byte)) (t : Nat) : List Byte × List (List Byte) :=
  let i := t % n
  let b := aesDec key (xorBytes acc.1 (beBytes (t + 1) 8) ++ nth [] acc.2 i)
  (b.take 8, modAt (fun _ => b.drop 8) i acc.2)

/-- The semiblocks of some bytes. -/
def semis (l : List Byte) : List (List Byte) := (List.range (l.length / 8)).map (fun i => (l.drop (8 * i)).take 8)

/-- The fixed half of the alternative initial value. -/
def aiv : List Byte := [0xA6, 0x59, 0x59, 0xA6]

/-- RFC 5649 key wrap with padding. -/
def keyWrap (key l : List Byte) : List Byte :=
  let p := l ++ List.replicate ((8 - l.length % 8) % 8) 0
  let a := aiv ++ beBytes l.length 4
  let n := p.length / 8
  if n = 1 then aesEnc key (a ++ p)
  else
    let (a, r) := (List.range (6 * n)).foldl (wrapStep key n) (a, semis p)
    a ++ r.flatMap id

/-- RFC 5649 key unwrap; none where the check fails. -/
def keyUnwrap (key l : List Byte) : Option (List Byte) :=
  let n := l.length / 8 - 1
  let (a, p) :=
    if n = 1 then (let b := aesDec key l; (b.take 8, b.drop 8))
    else
      let (a, r) := (List.range (6 * n)).reverse.foldl (unwrapStep key n) (l.take 8, (semis l).drop 1)
      (a, r.flatMap id)
  let m := ofBytesBE (a.drop 4)
  if a.take 4 = aiv ∧ 8 * (n - 1) < m ∧ m ≤ 8 * n ∧ (p.drop m).all (fun b => b == 0) then some (p.take m) else none

end Sys2Proof.Machine
end

