-- ==== Sys2Proof/Machine/Crc.lean ====
section
/-! DEFINITION. CRC-32 of IEEE 802.3, reflected (04 R115, 11 R342), and the CRC-16 of LPDDR5X lines and HyperRAM granules
(10 R296). -/

namespace Sys2Proof.Machine

/-- One bit of the reflected CRC-32. -/
def crcBit (c : Nat) : Nat := if c % 2 = 1 then Nat.xor (c / 2) 0xEDB88320 else c / 2

/-- One byte of the CRC-32. -/
def crcByte (c : Nat) (b : Byte) : Nat :=
  let x := Nat.xor c b.toNat
  crcBit (crcBit (crcBit (crcBit (crcBit (crcBit (crcBit (crcBit x)))))))

/-- The CRC register after some bytes, from a start value. -/
def crcRun (c : Nat) (l : List Byte) : Nat := l.foldl crcByte c

/-- CRC-32: initial value all ones, final inversion. -/
def crc32 (l : List Byte) : Nat := Nat.xor (crcRun 0xFFFFFFFF l) 0xFFFFFFFF

/-- One step of the CRC-16 of 10 R296: x^16 + x^12 + x^5 + 1. -/
def crc16Bit (c : Nat) : Nat := if 0x8000 ≤ c then Nat.xor (2 * c % 65536) 0x1021 else 2 * c

/-- One byte of the CRC-16, its highest bit first (notes/assumptions/130.md). -/
def crc16Byte (c : Nat) (b : Byte) : Nat :=
  let x := Nat.xor c (b.toNat * 256)
  crc16Bit (crc16Bit (crc16Bit (crc16Bit (crc16Bit (crc16Bit (crc16Bit (crc16Bit x)))))))

/-- The CRC-16 of 10 R296: initial value 0xFFFF, no final inversion. -/
def crc16 (l : List Byte) : Nat := l.foldl crc16Byte 0xFFFF

end Sys2Proof.Machine
end

