-- ==== Sys2Proof/Machine/Float.lean ====
section
/-! DEFINITION. Floating-point values, exactly, and their roundings (03_arithmetic.md R71-R74, 06 R191).
A finite value is a sign and a magnitude counted in units of 2^-300, which every operand format and every
product of two operands is a whole number of. -/

namespace Sys2Proof.Machine

/-- A floating-point value before rounding: NaN, an infinity with its sign, or a sign and a magnitude in
units of 2^-300 (the sign of a zero counts, 03 R72). -/
inductive FV where
  | nan
  | inf (neg : Bool)
  | fin (neg : Bool) (mag : Nat)
  deriving DecidableEq, Repr

/-- The value of a number with `eb` exponent bits, `fb` fraction bits and a bias, without special codes.
`flush` takes subnormals as zero (03 R72 step 1 for BF16). -/
def fvFin (eb fb bias : Nat) (flush : Bool) (w : Nat) : FV :=
  let neg := bit w (eb + fb)
  let e := bits w (eb + fb - 1) fb
  let f := bits w (fb - 1) 0
  if e = 0 then .fin neg (if flush then 0 else f <<< (301 - bias - fb))
  else .fin neg ((2 ^ fb + f) <<< (300 + e - bias - fb))

/-- An FP32 value; subnormals at their true value. -/
def fvF32 (w : Nat) : FV :=
  if bits w 30 23 = 255 then (if bits w 22 0 = 0 then .inf (bit w 31) else .nan)
  else fvFin 8 23 127 false w

/-- An FP32 value with subnormals taken as zero of the same sign (07 R222). -/
def fvF32z (w : Nat) : FV :=
  if bits w 30 23 = 255 then (if bits w 22 0 = 0 then .inf (bit w 31) else .nan)
  else fvFin 8 23 127 true w

/-- A BF16 value: the upper half of an FP32 one, subnormals as zero (03 R71, R72 step 1). -/
def fvBf16 (w : Nat) : FV :=
  if bits w 14 7 = 255 then (if bits w 6 0 = 0 then .inf (bit w 15) else .nan)
  else fvFin 8 7 127 true w

/-- An E4M3 value (03 R71): no infinity, NaN when exponent and fraction are all ones. -/
def fvE4M3 (w : Nat) : FV := if bits w 6 0 = 127 then .nan else fvFin 4 3 7 false w

/-- An E5M2 value (03 R71). -/
def fvE5M2 (w : Nat) : FV :=
  if bits w 6 2 = 31 then (if bits w 1 0 = 0 then .inf (bit w 7) else .nan) else fvFin 5 2 15 false w

/-- The sign of a value that is not NaN. -/
def FV.neg : FV → Bool
  | .nan => false
  | .inf n => n
  | .fin n _ => n

/-- A value as a signed number of units of 2^-300, where it is finite. -/
def FV.units : FV → Int
  | .fin n m => if n then -(m : Int) else m
  | _ => 0

/-- The value with its sign reversed. -/
def FV.negate : FV → FV
  | .nan => .nan
  | .inf n => .inf (!n)
  | .fin n m => .fin (!n) m

/-- The canonical FP32 NaN (03 R73). -/
def nan32 : Nat := 0x7FC00000

/-- Magnitude `num / den` (in units of 2^-300) rounded to `p` significant bits, to nearest with ties to even,
with an unbounded exponent: the significand below 2^p and the power of two of its unit (03 R72 step 3). -/
def roundSig (p num den : Nat) : Nat × Int :=
  let n := num <<< 64
  let q := n / den
  let sticky := n % den ≠ 0
  let b := Nat.log2 q + 1
  if b ≤ p then (q, -364)
  else
    let sh := b - p
    let m := q >>> sh
    let r := q % 2 ^ sh
    let half := 2 ^ (sh - 1)
    let up := r > half ∨ (r = half ∧ (sticky ∨ m % 2 = 1))
    let m' := if up then m + 1 else m
    if m' = 2 ^ p then (2 ^ (p - 1), (sh : Int) + 1 - 364) else (m', (sh : Int) - 364)

/-- Steps 3 and 4 of 03 R72: round to 24 significant bits, flush below 2^-126, overflow to infinity;
the FP32 bits of sign `neg` and magnitude `num / den`. -/
def round32 (neg : Bool) (num den : Nat) : Nat :=
  let sgn := b2n neg <<< 31
  if num = 0 then sgn
  else
    let (m, u) := roundSig 24 num den
    let e : Int := u + 23
    if m < 2 ^ 23 ∨ e < -126 then sgn
    else if e > 127 then sgn + 0x7F800000
    else sgn + ((e + 127).toNat <<< 23) + (m - 2 ^ 23)

/-- The FP32 bits of a value after steps 3 and 4 of 03 R72, NaN canonical. -/
def FV.toF32 : FV → Nat
  | .nan => nan32
  | .inf n => (b2n n <<< 31) + 0x7F800000
  | .fin n m => round32 n m 1

/-- The exact product of two values, with the special values of 03 R73. -/
def FV.mul : FV → FV → FV
  | .nan, _ => .nan
  | _, .nan => .nan
  | .inf a, .inf b => .inf (a != b)
  | .inf a, .fin b m => if m = 0 then .nan else .inf (a != b)
  | .fin a m, .inf b => if m = 0 then .nan else .inf (a != b)
  | .fin a m, .fin b n => .fin (a != b) ((m * n) >>> 300)

/-- The exact sum of a list of addends (03 R72 step 2, R73). -/
def fvSum (l : List FV) : FV :=
  if l.any (· == .nan) then .nan
  else
    let pi := l.any (· == .inf false)
    let ni := l.any (· == .inf true)
    if pi && ni then .nan else if pi then .inf false else if ni then .inf true
    else
      let z : Int := l.foldl (fun a v => a + v.units) 0
      if z = 0 then .fin (l.all (fun v => v == .fin true 0)) 0
      else .fin (decide (z < 0)) z.natAbs

/-- The quotient of two values rounded once to FP32 (06 R191). -/
def FV.divF32 : FV → FV → Nat
  | .nan, _ => nan32
  | _, .nan => nan32
  | .inf _, .inf _ => nan32
  | .inf a, .fin b _ => (b2n (a != b) <<< 31) + 0x7F800000
  | .fin a _, .inf b => b2n (a != b) <<< 31
  | .fin a m, .fin b n =>
    if n = 0 then (if m = 0 then nan32 else (b2n (a != b) <<< 31) + 0x7F800000)
    else round32 (a != b) (m <<< 300) n

/-- FP32 addition, subtraction, multiplication and division of bits, each rounded once (06 R191). -/
def f32add (a b : Nat) : Nat := (fvSum [fvF32 a, fvF32 b]).toF32
/-- FP32 subtraction. -/
def f32sub (a b : Nat) : Nat := (fvSum [fvF32 a, (fvF32 b).negate]).toF32
/-- FP32 multiplication. -/
def f32mul (a b : Nat) : Nat := ((fvF32 a).mul (fvF32 b)).toF32
/-- FP32 division. -/
def f32div (a b : Nat) : Nat := (fvF32 a).divF32 (fvF32 b)
/-- The integer square root of `n`, of `b` bits, from the highest bit down. -/
def isqrt (n b : Nat) : Nat :=
  (List.range b).foldl (fun r i =>
    let t := r + 2 ^ (b - 1 - i)
    if t * t ≤ n then t else r) 0

/-- An FP32 value within 1 unit in the last place of a positive magnitude in units of 2^-300, results flushed as step 4 of 03 R72
does (06 R191): of the two it lies between, or of the three around an exact one, the one that `choice` names. -/
def nearF32 (mag : Nat) (exact : Bool) (choice : Nat) : Nat :=
  let b := Nat.log2 mag + 1
  let e : Int := (b : Int) - 301
  if e < -126 then 0
  else if e > 127 then 0x7F800000
  else
    let q := if b ≤ 24 then mag <<< (24 - b) else mag >>> (b - 24)
    let c := ((e + 127).toNat <<< 23) + (q - 2 ^ 23)
    let c := if exact && q * 2 ^ b == mag * 2 ^ 24 then c - 1 + choice % 3 else c + choice % 2
    if c < 0x800000 then 0 else c

/-- e^x of a magnitude below 128 in units of 2^-300, in the same units, by the series of e^(x / 256) in steps of 2^-320, squared
eight times. -/
def expMag (m : Nat) : Nat :=
  let one := 2 ^ 320
  let z := m <<< 12
  let (sum, _) := (List.range 64).foldl (fun (acc : Nat × Nat) n =>
    let t := acc.2 * z / one / (n + 1)
    (acc.1 + t, t)) (one, one)
  (iter (fun _ v => v * v / one) 8 sum) >>> 20

/-- exp on FP32 (06 R191). -/
def f32exp (a : Nat) : Nat :=
  match fvF32 a with
  | .nan => nan32
  | .inf n => if n then 0 else 0x7F800000
  | .fin n m =>
    let c := Config.ulpChoice 0 (BitVec.ofNat 32 a)
    if 128 * 2 ^ 300 ≤ m then (if n then 0 else 0x7F800000)
    else if n then nearF32 (2 ^ 600 / expMag m) (m == 0) c else nearF32 (expMag m) (m == 0) c

/-- sqrt on FP32 (06 R191). -/
def f32sqrt (a : Nat) : Nat :=
  match fvF32 a with
  | .nan => nan32
  | .inf n => if n then nan32 else a
  | .fin n m =>
    if m = 0 then a
    else if n then nan32
    else
      let r := isqrt (m <<< 300) 370
      nearF32 r (r * r == m <<< 300) (Config.ulpChoice 1 (BitVec.ofNat 32 a))

/-- FP32 sign reversal. -/
def f32neg (a : Nat) : Nat := putBits a 31 31 (1 - bits a 31 31)
/-- Whether FP32 bits are a NaN. -/
def f32isNan (a : Nat) : Bool := fvF32 a == .nan
/-- Whether FP32 bits are finite. -/
def f32finite (a : Nat) : Bool := decide (bits a 30 23 ≠ 255)

/-- The order of values that are not NaN: infinities at the ends, zeros equal. -/
def FV.lt : FV → FV → Bool
  | .nan, _ => false
  | _, .nan => false
  | .inf a, .inf b => a && !b
  | .inf a, .fin _ _ => a
  | .fin _ _, .inf b => !b
  | .fin a m, .fin b n => decide ((FV.fin a m).units < (FV.fin b n).units)

/-- FP32 less-than on bits (false where a NaN takes part). -/
def f32lt (a b : Nat) : Bool := (fvF32 a).lt (fvF32 b)
/-- FP32 minimum; the first where equal. -/
def f32min (a b : Nat) : Nat := if f32lt b a then b else a
/-- FP32 maximum; the first where equal. -/
def f32max (a b : Nat) : Nat := if f32lt a b then b else a

/-- The order that puts −0 below +0, for maxima (07 R222). -/
def FV.ltz (a b : FV) : Bool := a.lt b || (!b.lt a && a.neg && !b.neg)

/-- A magnitude rounded to the nearest integer, ties to even (03 R74). -/
def FV.toIntNear : FV → Int
  | .fin n m =>
    let q := m >>> 300
    let r := m % 2 ^ 300
    let h := 2 ^ 299
    let q' := if r > h ∨ (r = h ∧ q % 2 = 1) then q + 1 else q
    if n then -(q' : Int) else q'
  | _ => 0

/-- FP32 to a signed integer of `w` bits: to nearest, saturating; NaN becomes 0 (03 R74). -/
def f32ToInt (w : Nat) (a : Nat) : Int :=
  match fvF32 a with
  | .nan => 0
  | .inf n => satS w (if n then -(2 ^ 70 : Nat) else ((2 ^ 70 : Nat) : Int))
  | v => satS w v.toIntNear

/-- A signed integer to FP32, to nearest (03 R74). -/
def intToF32 (z : Int) : Nat := round32 (decide (z < 0)) (z.natAbs <<< 300) 1

/-- FP32 to BF16 (03 R74): nearest, infinity on overflow, subnormal results zero, NaN 0x7FC0. It rounds at 8 significant bits with an
unbounded exponent and flushes only a rounded result below 2^-126, which R74 leaves open (notes/assumptions/16.md). -/
def f32ToBf16 (a : Nat) : Nat :=
  match fvF32 a with
  | .nan => 0x7FC0
  | .inf n => (b2n n <<< 15) + 0x7F80
  | .fin n m =>
    let sgn := b2n n <<< 15
    if m = 0 then sgn
    else
      let (q, u) := roundSig 8 m 1
      let e : Int := u + 7
      if q < 2 ^ 7 ∨ e < -126 then sgn
      else if e > 127 then sgn + 0x7F80
      else sgn + ((e + 127).toNat <<< 7) + (q - 2 ^ 7)

/-- A magnitude rounded to a narrow format with gradual underflow: the code without its sign, which may pass
the largest finite code; `emin` is the exponent of the smallest normal. -/
def narrowCode (fb : Nat) (emin : Int) (m : Nat) : Nat :=
  let (q, u) := roundSig (fb + 1) m 1
  let e : Int := u + fb
  if m ≠ 0 ∧ 2 ^ fb ≤ q ∧ emin ≤ e then ((e - emin + 1).toNat <<< fb) + (q - 2 ^ fb)
  else
    -- subnormal spacing 2^(emin - fb)
    let sh := (300 + emin - fb).toNat
    let k := m >>> sh
    let r := m % 2 ^ sh
    let h := 2 ^ (sh - 1)
    if r > h ∨ (r = h ∧ k % 2 = 1) then k + 1 else k

/-- FP32 to E4M3 (03 R74): saturates to ±448, NaN 0x7F. -/
def f32ToE4M3 (a : Nat) : Nat :=
  match fvF32 a with
  | .nan => 0x7F
  | .inf n => (b2n n <<< 7) + 0x7E
  | .fin n m => (b2n n <<< 7) + min 0x7E (narrowCode 3 (-6) m)

/-- FP32 to E5M2 (03 R74): finite values saturate to ±57,344, infinity stays, NaN 0x7E. -/
def f32ToE5M2 (a : Nat) : Nat :=
  match fvF32 a with
  | .nan => 0x7E
  | .inf n => (b2n n <<< 7) + 0x7C
  | .fin n m => (b2n n <<< 7) + min 0x7B (narrowCode 2 (-14) m)

end Sys2Proof.Machine
end

