-- ==== Sys2Proof/Machine/RegMap.lean ====
section
/-! DEFINITION. The register map: one definition per register of the spec's field tables (its block, base address,
copies and strides, width, and its fields with access code, class, reset value and legal encodings: 00 R6-R13, R7;
19 R609, R616 and each block's chapter), and one name per field. Made from the spec's own tables. -/

namespace Sys2Proof.Machine

/-- Access codes (00 R6). -/
inductive Acc where
  | rw | ro | w1c | wo | rws
  deriving DecidableEq, Repr

/-- Field classes (00 R10). -/
inductive Cls where
  | live | shadowed | static
  deriving DecidableEq, Repr

/-- Register blocks (19 R609, R616). -/
inductive Blk where
  | glob | boot | sec | pmc | mem | sch | cmu | sn | vid | ga | time | trs | xspi | emmc | gperf | dbg | te | tep
  | sw | islc | arb | bb | can | lin | gpio | tmr | ie | hb | eth | hif
  deriving DecidableEq, Repr

/-- One field: bits, access, class, Reset column, and the encodings that are not reserved (00 R9; none: all). -/
structure FieldDef where
  hi : Nat
  lo : Nat
  acc : Acc
  cls : Cls
  reset : Nat
  legal : List (Nat × Nat)
  deriving DecidableEq, Repr

/-- One register: block, base address, first and second index (count and stride), width, fields. -/
structure RegDef where
  blk : Blk
  base : Nat
  n1 : Nat
  s1 : Nat
  n2 : Nat
  s2 : Nat
  wide : Bool
  fields : List FieldDef
  deriving DecidableEq, Repr

/-- A named field of a register. -/
structure Fld where
  reg : RegDef
  hi : Nat
  lo : Nat
  deriving DecidableEq, Repr

/-- Base address of the register block of engine `k`; index 16 is the Island Engine's (19 R618). -/
def RegDef.addr (r : RegDef) (i j : Nat) : Nat :=
  if r.blk = .te ∧ i = 16 then 0x20023000 + (r.base - 0x40100000) + j * r.s2
  else r.base + i * r.s1 + j * r.s2

/-- The value after reset: the Reset column of every field (00 R7). -/
def RegDef.resetVal (r : RegDef) : Nat := r.fields.foldl (fun a f => a + (f.reset <<< f.lo)) 0

/-- The indices of the copy of `r` whose low word, or for a wide register whose high word, lies at `a`. -/
def RegDef.at? (r : RegDef) (a : Nat) : Option (Nat × Nat × Bool) :=
  let d := a - r.base
  let i := if r.s1 = 0 then 0 else if r.s2 * r.n2 > r.s1 then 0 else d / r.s1
  let e := d - i * r.s1
  let j := if r.s2 = 0 then 0 else e / r.s2
  let f := e - j * r.s2
  if a < r.base then none
  else if i < r.n1 ∧ j < r.n2 ∧ (f = 0 ∨ (f = 4 ∧ r.wide)) ∧ ¬ (r.blk = .te ∧ i = 16) then some (i, j, f = 4) else none

/-- TE_CTRL. -/
def R.TE_CTRL : RegDef := ⟨.te, 0x40100000, 17, 0x10000, 1, 0x0, false,
  [⟨2, 2, .wo, .static, 0, []⟩,
   ⟨1, 1, .rw, .shadowed, 0, []⟩,
   ⟨0, 0, .rw, .live, 0, []⟩]⟩
/-- TE_CTRL.LM_INIT. -/
def F.TE_CTRL_LM_INIT : Fld := ⟨R.TE_CTRL, 2, 2⟩
/-- TE_CTRL.CHK_FORCE. -/
def F.TE_CTRL_CHK_FORCE : Fld := ⟨R.TE_CTRL, 1, 1⟩
/-- TE_CTRL.RUN. -/
def F.TE_CTRL_RUN : Fld := ⟨R.TE_CTRL, 0, 0⟩
/-- TE_STATUS. -/
def R.TE_STATUS : RegDef := ⟨.te, 0x40100004, 17, 0x10000, 1, 0x0, false,
  [⟨24, 16, .ro, .live, 0, []⟩,
   ⟨11, 11, .ro, .live, 0, []⟩,
   ⟨10, 8, .ro, .live, 0, []⟩,
   ⟨2, 0, .ro, .live, 0, []⟩]⟩
/-- TE_STATUS.SB_USED. -/
def F.TE_STATUS_SB_USED : Fld := ⟨R.TE_STATUS, 24, 16⟩
/-- TE_STATUS.DRW_VALID. -/
def F.TE_STATUS_DRW_VALID : Fld := ⟨R.TE_STATUS, 11, 11⟩
/-- TE_STATUS.ACT_DRAWER. -/
def F.TE_STATUS_ACT_DRAWER : Fld := ⟨R.TE_STATUS, 10, 8⟩
/-- TE_STATUS.STATE. -/
def F.TE_STATUS_STATE : Fld := ⟨R.TE_STATUS, 2, 0⟩
/-- TE_ERR. -/
def R.TE_ERR : RegDef := ⟨.te, 0x40100008, 17, 0x10000, 1, 0x0, false,
  [⟨5, 5, .w1c, .live, 0, []⟩,
   ⟨4, 4, .w1c, .live, 0, []⟩,
   ⟨3, 3, .w1c, .live, 0, []⟩,
   ⟨2, 2, .w1c, .live, 0, []⟩,
   ⟨1, 1, .w1c, .live, 0, []⟩,
   ⟨0, 0, .w1c, .live, 0, []⟩]⟩
/-- TE_ERR.CFG_WHILE_RUN. -/
def F.TE_ERR_CFG_WHILE_RUN : Fld := ⟨R.TE_ERR, 5, 5⟩
/-- TE_ERR.LM_BOUNDS. -/
def F.TE_ERR_LM_BOUNDS : Fld := ⟨R.TE_ERR, 4, 4⟩
/-- TE_ERR.CHECK_FAIL. -/
def F.TE_ERR_CHECK_FAIL : Fld := ⟨R.TE_ERR, 3, 3⟩
/-- TE_ERR.ACC_DETECT. -/
def F.TE_ERR_ACC_DETECT : Fld := ⟨R.TE_ERR, 2, 2⟩
/-- TE_ERR.IB_DETECT. -/
def F.TE_ERR_IB_DETECT : Fld := ⟨R.TE_ERR, 1, 1⟩
/-- TE_ERR.LM_DETECT. -/
def F.TE_ERR_LM_DETECT : Fld := ⟨R.TE_ERR, 0, 0⟩
/-- TE_DRW_LM. -/
def R.TE_DRW_LM : RegDef := ⟨.te, 0x40100010, 17, 0x10000, 8, 0x4, false,
  [⟨24, 16, .rw, .static, 0, [(0, 256)]⟩,
   ⟨7, 0, .rw, .static, 0, []⟩]⟩
/-- TE_DRW_LM.PAGES. -/
def F.TE_DRW_LM_PAGES : Fld := ⟨R.TE_DRW_LM, 24, 16⟩
/-- TE_DRW_LM.BASE_PAGE. -/
def F.TE_DRW_LM_BASE_PAGE : Fld := ⟨R.TE_DRW_LM, 7, 0⟩
/-- TE_DRW_IB. -/
def R.TE_DRW_IB : RegDef := ⟨.te, 0x40100030, 17, 0x10000, 8, 0x4, false,
  [⟨13, 8, .rw, .static, 0, [(0, 32)]⟩,
   ⟨4, 0, .rw, .static, 0, []⟩]⟩
/-- TE_DRW_IB.BLKS. -/
def F.TE_DRW_IB_BLKS : Fld := ⟨R.TE_DRW_IB, 13, 8⟩
/-- TE_DRW_IB.BASE_BLK. -/
def F.TE_DRW_IB_BASE_BLK : Fld := ⟨R.TE_DRW_IB, 4, 0⟩
/-- TE_DRW_FLT. -/
def R.TE_DRW_FLT : RegDef := ⟨.te, 0x40100050, 17, 0x10000, 8, 0x4, false,
  [⟨31, 31, .ro, .live, 0, []⟩,
   ⟨27, 16, .ro, .live, 0, []⟩,
   ⟨15, 8, .ro, .live, 0, []⟩,
   ⟨7, 0, .ro, .live, 0, []⟩]⟩
/-- TE_DRW_FLT.VALID. -/
def F.TE_DRW_FLT_VALID : Fld := ⟨R.TE_DRW_FLT, 31, 31⟩
/-- TE_DRW_FLT.WORD. -/
def F.TE_DRW_FLT_WORD : Fld := ⟨R.TE_DRW_FLT, 27, 16⟩
/-- TE_DRW_FLT.EXTRA. -/
def F.TE_DRW_FLT_EXTRA : Fld := ⟨R.TE_DRW_FLT, 15, 8⟩
/-- TE_DRW_FLT.STATUS. -/
def F.TE_DRW_FLT_STATUS : Fld := ⟨R.TE_DRW_FLT, 7, 0⟩
/-- CMU_ERR. -/
def R.CMU_ERR : RegDef := ⟨.cmu, 0x40060000, 1, 0x0, 1, 0x0, false,
  [⟨3, 3, .w1c, .live, 0, []⟩,
   ⟨2, 2, .w1c, .live, 0, []⟩,
   ⟨1, 1, .w1c, .live, 0, []⟩,
   ⟨0, 0, .w1c, .live, 0, []⟩]⟩
/-- CMU_ERR.CFG_WHILE_RUN. -/
def F.CMU_ERR_CFG_WHILE_RUN : Fld := ⟨R.CMU_ERR, 3, 3⟩
/-- CMU_ERR.RLOG_FABRIC. -/
def F.CMU_ERR_RLOG_FABRIC : Fld := ⟨R.CMU_ERR, 2, 2⟩
/-- CMU_ERR.DETECT. -/
def F.CMU_ERR_DETECT : Fld := ⟨R.CMU_ERR, 1, 1⟩
/-- CMU_ERR.OVERCOMMIT. -/
def F.CMU_ERR_OVERCOMMIT : Fld := ⟨R.CMU_ERR, 0, 0⟩
/-- CMU_SHARE_CFG. -/
def R.CMU_SHARE_CFG : RegDef := ⟨.cmu, 0x40060100, 8, 0x20, 1, 0x0, false,
  [⟨31, 31, .rw, .live, 0, []⟩,
   ⟨24, 22, .rw, .static, 0, []⟩,
   ⟨21, 0, .rw, .static, 0, [(0, 2097152)]⟩]⟩
/-- CMU_SHARE_CFG.EN. -/
def F.CMU_SHARE_CFG_EN : Fld := ⟨R.CMU_SHARE_CFG, 31, 31⟩
/-- CMU_SHARE_CFG.CABINET. -/
def F.CMU_SHARE_CFG_CABINET : Fld := ⟨R.CMU_SHARE_CFG, 24, 22⟩
/-- CMU_SHARE_CFG.LIMIT. -/
def F.CMU_SHARE_CFG_LIMIT : Fld := ⟨R.CMU_SHARE_CFG, 21, 0⟩
/-- CMU_SHARE_STAT. -/
def R.CMU_SHARE_STAT : RegDef := ⟨.cmu, 0x40060104, 8, 0x20, 1, 0x0, false,
  [⟨31, 29, .ro, .live, 0, []⟩,
   ⟨21, 0, .ro, .live, 0, []⟩]⟩
/-- CMU_SHARE_STAT.STATE. -/
def F.CMU_SHARE_STAT_STATE : Fld := ⟨R.CMU_SHARE_STAT, 31, 29⟩
/-- CMU_SHARE_STAT.COUNT. -/
def F.CMU_SHARE_STAT_COUNT : Fld := ⟨R.CMU_SHARE_STAT, 21, 0⟩
/-- CMU_SHARE_RLOG. -/
def R.CMU_SHARE_RLOG : RegDef := ⟨.cmu, 0x40060108, 8, 0x20, 1, 0x0, true,
  [⟨47, 0, .rw, .static, 0, []⟩]⟩
/-- CMU_SHARE_RLOG.ADDR. -/
def F.CMU_SHARE_RLOG_ADDR : Fld := ⟨R.CMU_SHARE_RLOG, 47, 0⟩
/-- CMU_SHARE_RLOG_LEN. -/
def R.CMU_SHARE_RLOG_LEN : RegDef := ⟨.cmu, 0x40060110, 8, 0x20, 1, 0x0, false,
  [⟨19, 0, .rw, .static, 0, []⟩]⟩
/-- CMU_SHARE_RLOG_LEN.LEN. -/
def F.CMU_SHARE_RLOG_LEN_LEN : Fld := ⟨R.CMU_SHARE_RLOG_LEN, 19, 0⟩
/-- CMU_SHARE_RLOG_CNT. -/
def R.CMU_SHARE_RLOG_CNT : RegDef := ⟨.cmu, 0x40060114, 8, 0x20, 1, 0x0, false,
  [⟨31, 0, .ro, .live, 0, []⟩]⟩
/-- CMU_SHARE_RLOG_CNT.CNT. -/
def F.CMU_SHARE_RLOG_CNT_CNT : Fld := ⟨R.CMU_SHARE_RLOG_CNT, 31, 0⟩
/-- SN_ERR. -/
def R.SN_ERR : RegDef := ⟨.sn, 0x40070000, 1, 0x0, 1, 0x0, false,
  [⟨3, 3, .w1c, .live, 0, []⟩,
   ⟨2, 2, .w1c, .live, 0, []⟩,
   ⟨1, 1, .w1c, .live, 0, []⟩,
   ⟨0, 0, .w1c, .live, 0, []⟩]⟩
/-- SN_ERR.CFG_WHILE_RUN. -/
def F.SN_ERR_CFG_WHILE_RUN : Fld := ⟨R.SN_ERR, 3, 3⟩
/-- SN_ERR.POISON. -/
def F.SN_ERR_POISON : Fld := ⟨R.SN_ERR, 2, 2⟩
/-- SN_ERR.STALL. -/
def F.SN_ERR_STALL : Fld := ⟨R.SN_ERR, 1, 1⟩
/-- SN_ERR.MISROUTE. -/
def F.SN_ERR_MISROUTE : Fld := ⟨R.SN_ERR, 0, 0⟩
/-- SN_CAB_CFG. -/
def R.SN_CAB_CFG : RegDef := ⟨.sn, 0x40070100, 8, 0x10, 1, 0x0, false,
  [⟨20, 16, .rw, .static, 0, [(0, 16)]⟩,
   ⟨15, 0, .rw, .live, 0, []⟩]⟩
/-- SN_CAB_CFG.SIZE. -/
def F.SN_CAB_CFG_SIZE : Fld := ⟨R.SN_CAB_CFG, 20, 16⟩
/-- SN_CAB_CFG.WDOG. -/
def F.SN_CAB_CFG_WDOG : Fld := ⟨R.SN_CAB_CFG, 15, 0⟩
/-- SN_CAB_RANKMAP. -/
def R.SN_CAB_RANKMAP : RegDef := ⟨.sn, 0x40070108, 8, 0x10, 1, 0x0, true,
  [⟨63, 0, .rw, .static, 0, []⟩]⟩
/-- SN_CAB_RANKMAP.MAP. -/
def F.SN_CAB_RANKMAP_MAP : Fld := ⟨R.SN_CAB_RANKMAP, 63, 0⟩
/-- SN_Q_CFG. -/
def R.SN_Q_CFG : RegDef := ⟨.sn, 0x40070200, 32, 0x10, 1, 0x0, false,
  [⟨31, 31, .rw, .live, 0, []⟩,
   ⟨30, 30, .rw, .static, 0, []⟩,
   ⟨29, 27, .rw, .static, 0, []⟩]⟩
/-- SN_Q_CFG.EN. -/
def F.SN_Q_CFG_EN : Fld := ⟨R.SN_Q_CFG, 31, 31⟩
/-- SN_Q_CFG.MULTI. -/
def F.SN_Q_CFG_MULTI : Fld := ⟨R.SN_Q_CFG, 30, 30⟩
/-- SN_Q_CFG.CABINET. -/
def F.SN_Q_CFG_CABINET : Fld := ⟨R.SN_Q_CFG, 29, 27⟩
/-- SN_Q_GEOM. -/
def R.SN_Q_GEOM : RegDef := ⟨.sn, 0x40070204, 32, 0x10, 1, 0x0, false,
  [⟨28, 16, .rw, .static, 0, []⟩,
   ⟨8, 0, .rw, .static, 0, [(1, 256)]⟩]⟩
/-- SN_Q_GEOM.BASE. -/
def F.SN_Q_GEOM_BASE : Fld := ⟨R.SN_Q_GEOM, 28, 16⟩
/-- SN_Q_GEOM.DEPTH. -/
def F.SN_Q_GEOM_DEPTH : Fld := ⟨R.SN_Q_GEOM, 8, 0⟩
/-- SN_Q_STAT. -/
def R.SN_Q_STAT : RegDef := ⟨.sn, 0x40070208, 32, 0x10, 1, 0x0, false,
  [⟨30, 16, .ro, .live, 0, []⟩,
   ⟨14, 0, .ro, .live, 0, []⟩]⟩
/-- SN_Q_STAT.FILLED. -/
def F.SN_Q_STAT_FILLED : Fld := ⟨R.SN_Q_STAT, 30, 16⟩
/-- SN_Q_STAT.GRANTED. -/
def F.SN_Q_STAT_GRANTED : Fld := ⟨R.SN_Q_STAT, 14, 0⟩
/-- SCH_ERR. -/
def R.SCH_ERR : RegDef := ⟨.sch, 0x40050000, 1, 0x0, 1, 0x0, false,
  [⟨3, 3, .w1c, .live, 0, []⟩,
   ⟨2, 2, .w1c, .live, 0, []⟩,
   ⟨1, 1, .w1c, .live, 0, []⟩,
   ⟨0, 0, .w1c, .live, 0, []⟩]⟩
/-- SCH_ERR.CFG_WHILE_RUN. -/
def F.SCH_ERR_CFG_WHILE_RUN : Fld := ⟨R.SCH_ERR, 3, 3⟩
/-- SCH_ERR.DEADLINE_MISS. -/
def F.SCH_ERR_DEADLINE_MISS : Fld := ⟨R.SCH_ERR, 2, 2⟩
/-- SCH_ERR.EVICT_BLOCKED. -/
def F.SCH_ERR_EVICT_BLOCKED : Fld := ⟨R.SCH_ERR, 1, 1⟩
/-- SCH_ERR.OVERRUN. -/
def F.SCH_ERR_OVERRUN : Fld := ⟨R.SCH_ERR, 0, 0⟩
/-- SCH_DLM_LAST. -/
def R.SCH_DLM_LAST : RegDef := ⟨.sch, 0x40050010, 1, 0x0, 1, 0x0, false,
  [⟨31, 29, .ro, .live, 0, []⟩,
   ⟨28, 22, .ro, .live, 0, []⟩,
   ⟨21, 20, .ro, .live, 0, []⟩,
   ⟨15, 0, .ro, .live, 0, []⟩]⟩
/-- SCH_DLM_LAST.CAB. -/
def F.SCH_DLM_LAST_CAB : Fld := ⟨R.SCH_DLM_LAST, 31, 29⟩
/-- SCH_DLM_LAST.CTX. -/
def F.SCH_DLM_LAST_CTX : Fld := ⟨R.SCH_DLM_LAST, 28, 22⟩
/-- SCH_DLM_LAST.CAUSE. -/
def F.SCH_DLM_LAST_CAUSE : Fld := ⟨R.SCH_DLM_LAST, 21, 20⟩
/-- SCH_DLM_LAST.COUNT. -/
def F.SCH_DLM_LAST_COUNT : Fld := ⟨R.SCH_DLM_LAST, 15, 0⟩
/-- SCH_CAB_CFG. -/
def R.SCH_CAB_CFG : RegDef := ⟨.sch, 0x40050100, 8, 0x20, 1, 0x0, false,
  [⟨31, 31, .rw, .live, 0, []⟩,
   ⟨30, 30, .rw, .static, 0, []⟩,
   ⟨29, 26, .rw, .static, 0, [(1, 8)]⟩,
   ⟨25, 20, .rw, .static, 0, [(1, 32)]⟩,
   ⟨19, 11, .rw, .static, 0, [(1, 256)]⟩,
   ⟨10, 1, .rw, .shadowed, 0, [(1, 1000)]⟩]⟩
/-- SCH_CAB_CFG.EN. -/
def F.SCH_CAB_CFG_EN : Fld := ⟨R.SCH_CAB_CFG, 31, 31⟩
/-- SCH_CAB_CFG.KIND. -/
def F.SCH_CAB_CFG_KIND : Fld := ⟨R.SCH_CAB_CFG, 30, 30⟩
/-- SCH_CAB_CFG.RES_MAX. -/
def F.SCH_CAB_CFG_RES_MAX : Fld := ⟨R.SCH_CAB_CFG, 29, 26⟩
/-- SCH_CAB_CFG.IB_BLKS. -/
def F.SCH_CAB_CFG_IB_BLKS : Fld := ⟨R.SCH_CAB_CFG, 25, 20⟩
/-- SCH_CAB_CFG.WIN_PAGES. -/
def F.SCH_CAB_CFG_WIN_PAGES : Fld := ⟨R.SCH_CAB_CFG, 19, 11⟩
/-- SCH_CAB_CFG.SLICE. -/
def F.SCH_CAB_CFG_SLICE : Fld := ⟨R.SCH_CAB_CFG, 10, 1⟩
/-- SCH_CAB_ENG. -/
def R.SCH_CAB_ENG : RegDef := ⟨.sch, 0x40050104, 8, 0x20, 1, 0x0, false,
  [⟨15, 0, .rw, .static, 0, []⟩]⟩
/-- SCH_CAB_ENG.ENGINES. -/
def F.SCH_CAB_ENG_ENGINES : Fld := ⟨R.SCH_CAB_ENG, 15, 0⟩
/-- SCH_CAB_SEMLOCK. -/
def R.SCH_CAB_SEMLOCK : RegDef := ⟨.sch, 0x40050108, 8, 0x20, 1, 0x0, true,
  [⟨63, 0, .rw, .static, 0, []⟩]⟩
/-- SCH_CAB_SEMLOCK.LOCK. -/
def F.SCH_CAB_SEMLOCK_LOCK : Fld := ⟨R.SCH_CAB_SEMLOCK, 63, 0⟩
/-- SCH_CAB_CT. -/
def R.SCH_CAB_CT : RegDef := ⟨.sch, 0x40050110, 8, 0x20, 1, 0x0, true,
  [⟨58, 56, .rw, .static, 0, []⟩,
   ⟨54, 48, .rw, .shadowed, 0, [(0, 64)]⟩,
   ⟨47, 0, .rw, .shadowed, 0, []⟩]⟩
/-- SCH_CAB_CT.TRIG. -/
def F.SCH_CAB_CT_TRIG : Fld := ⟨R.SCH_CAB_CT, 58, 56⟩
/-- SCH_CAB_CT.ENTRIES. -/
def F.SCH_CAB_CT_ENTRIES : Fld := ⟨R.SCH_CAB_CT, 54, 48⟩
/-- SCH_CAB_CT.ADDR. -/
def F.SCH_CAB_CT_ADDR : Fld := ⟨R.SCH_CAB_CT, 47, 0⟩
/-- TE_CHK_TOL. -/
def R.TE_CHK_TOL : RegDef := ⟨.te, 0x40100070, 17, 0x10000, 1, 0x0, false,
  [⟨23, 16, .rw, .shadowed, 0, []⟩,
   ⟨4, 0, .rw, .shadowed, 0xc, [(1, 23)]⟩]⟩
/-- TE_CHK_TOL.ABS_EXP. -/
def F.TE_CHK_TOL_ABS_EXP : Fld := ⟨R.TE_CHK_TOL, 23, 16⟩
/-- TE_CHK_TOL.REL_EXP. -/
def F.TE_CHK_TOL_REL_EXP : Fld := ⟨R.TE_CHK_TOL, 4, 0⟩
/-- ARB_CFG. -/
def R.ARB_CFG : RegDef := ⟨.arb, 0x20001000, 1, 0x0, 1, 0x0, false,
  [⟨31, 31, .rw, .live, 0, []⟩,
   ⟨23, 16, .rw, .static, 0, []⟩,
   ⟨15, 8, .rw, .static, 0x32, []⟩]⟩
/-- ARB_CFG.EN. -/
def F.ARB_CFG_EN : Fld := ⟨R.ARB_CFG, 31, 31⟩
/-- ARB_CFG.SAFE_CABS. -/
def F.ARB_CFG_SAFE_CABS : Fld := ⟨R.ARB_CFG, 23, 16⟩
/-- ARB_CFG.PERSIST_MAX. -/
def F.ARB_CFG_PERSIST_MAX : Fld := ⟨R.ARB_CFG, 15, 8⟩
/-- ARB_STATUS. -/
def R.ARB_STATUS : RegDef := ⟨.arb, 0x20001004, 1, 0x0, 1, 0x0, false,
  [⟨31, 30, .ro, .live, 0, []⟩,
   ⟨29, 28, .ro, .live, 1, []⟩,
   ⟨27, 24, .ro, .live, 0, []⟩,
   ⟨23, 22, .ro, .live, 0, []⟩,
   ⟨16, 16, .ro, .live, 1, []⟩,
   ⟨15, 0, .ro, .live, 0, []⟩]⟩
/-- ARB_STATUS.STATE. -/
def F.ARB_STATUS_STATE : Fld := ⟨R.ARB_STATUS, 31, 30⟩
/-- ARB_STATUS.SOURCE. -/
def F.ARB_STATUS_SOURCE : Fld := ⟨R.ARB_STATUS, 29, 28⟩
/-- ARB_STATUS.AGREE. -/
def F.ARB_STATUS_AGREE : Fld := ⟨R.ARB_STATUS, 27, 24⟩
/-- ARB_STATUS.EVENTS. -/
def F.ARB_STATUS_EVENTS : Fld := ⟨R.ARB_STATUS, 23, 22⟩
/-- ARB_STATUS.FAULT_N. -/
def F.ARB_STATUS_FAULT_N : Fld := ⟨R.ARB_STATUS, 16, 16⟩
/-- ARB_STATUS.CYCLE. -/
def F.ARB_STATUS_CYCLE : Fld := ⟨R.ARB_STATUS, 15, 0⟩
/-- ARB_DOUBT. -/
def R.ARB_DOUBT : RegDef := ⟨.arb, 0x20001008, 1, 0x0, 1, 0x0, false,
  [⟨22, 16, .ro, .live, 0, []⟩,
   ⟨6, 0, .ro, .live, 0, []⟩]⟩
/-- ARB_DOUBT.LAST. -/
def F.ARB_DOUBT_LAST : Fld := ⟨R.ARB_DOUBT, 22, 16⟩
/-- ARB_DOUBT.CUR. -/
def F.ARB_DOUBT_CUR : Fld := ⟨R.ARB_DOUBT, 6, 0⟩
/-- ARB_RAISE. -/
def R.ARB_RAISE : RegDef := ⟨.arb, 0x2000100c, 1, 0x0, 1, 0x0, false,
  [⟨17, 17, .wo, .live, 0, []⟩,
   ⟨16, 16, .wo, .live, 0, []⟩,
   ⟨6, 6, .wo, .live, 0, []⟩,
   ⟨0, 0, .wo, .live, 0, []⟩]⟩
/-- ARB_RAISE.FS_READY. -/
def F.ARB_RAISE_FS_READY : Fld := ⟨R.ARB_RAISE, 17, 17⟩
/-- ARB_RAISE.MAIN_READY. -/
def F.ARB_RAISE_MAIN_READY : Fld := ⟨R.ARB_RAISE, 16, 16⟩
/-- ARB_RAISE.SOFTWARE. -/
def F.ARB_RAISE_SOFTWARE : Fld := ⟨R.ARB_RAISE, 6, 6⟩
/-- ARB_RAISE.CHECKER. -/
def F.ARB_RAISE_CHECKER : Fld := ⟨R.ARB_RAISE, 0, 0⟩
/-- ARB_ENG. -/
def R.ARB_ENG : RegDef := ⟨.arb, 0x20001010, 1, 0x0, 1, 0x0, false,
  [⟨31, 0, .ro, .live, 0xffffffff, []⟩]⟩
/-- ARB_ENG.STATE. -/
def F.ARB_ENG_STATE : Fld := ⟨R.ARB_ENG, 31, 0⟩
/-- ARB_MECH. -/
def R.ARB_MECH : RegDef := ⟨.arb, 0x20001014, 1, 0x0, 1, 0x0, false,
  [⟨31, 31, .ro, .live, 0, []⟩,
   ⟨9, 9, .ro, .live, 0, []⟩,
   ⟨8, 8, .ro, .live, 0, []⟩,
   ⟨7, 7, .ro, .live, 0, []⟩,
   ⟨6, 6, .ro, .live, 0, []⟩,
   ⟨5, 5, .ro, .live, 0, []⟩,
   ⟨1, 1, .ro, .live, 0, []⟩,
   ⟨0, 0, .ro, .live, 0, []⟩]⟩
/-- ARB_MECH.INJ_DONE. -/
def F.ARB_MECH_INJ_DONE : Fld := ⟨R.ARB_MECH, 31, 31⟩
/-- ARB_MECH.ARBITER. -/
def F.ARB_MECH_ARBITER : Fld := ⟨R.ARB_MECH, 9, 9⟩
/-- ARB_MECH.ISL_CHECKS. -/
def F.ARB_MECH_ISL_CHECKS : Fld := ⟨R.ARB_MECH, 8, 8⟩
/-- ARB_MECH.BRIDGE. -/
def F.ARB_MECH_BRIDGE : Fld := ⟨R.ARB_MECH, 7, 7⟩
/-- ARB_MECH.LPDDR_CRC. -/
def F.ARB_MECH_LPDDR_CRC : Fld := ⟨R.ARB_MECH, 6, 6⟩
/-- ARB_MECH.SHARED_CODES. -/
def F.ARB_MECH_SHARED_CODES : Fld := ⟨R.ARB_MECH, 5, 5⟩
/-- ARB_MECH.CHECKSUM. -/
def F.ARB_MECH_CHECKSUM : Fld := ⟨R.ARB_MECH, 1, 1⟩
/-- ARB_MECH.ENGINE_CODES. -/
def F.ARB_MECH_ENGINE_CODES : Fld := ⟨R.ARB_MECH, 0, 0⟩
/-- ARB_LOG. -/
def R.ARB_LOG : RegDef := ⟨.arb, 0x2000101c, 1, 0x0, 1, 0x0, false,
  [⟨31, 16, .ro, .live, 0, []⟩,
   ⟨9, 0, .ro, .live, 0, []⟩]⟩
/-- ARB_LOG.TOTAL. -/
def F.ARB_LOG_TOTAL : Fld := ⟨R.ARB_LOG, 31, 16⟩
/-- ARB_LOG.NEXT. -/
def F.ARB_LOG_NEXT : Fld := ⟨R.ARB_LOG, 9, 0⟩
/-- CSI_S_CFG. -/
def R.CSI_S_CFG : RegDef := ⟨.vid, 0x40080000, 16, 0x10, 1, 0x0, false,
  [⟨31, 31, .rw, .live, 0, []⟩,
   ⟨19, 16, .rw, .static, 0, [(1, 15)]⟩,
   ⟨15, 14, .rw, .static, 0, []⟩,
   ⟨13, 10, .rw, .static, 0, []⟩,
   ⟨5, 0, .rw, .static, 0, [(24, 24), (30, 30), (36, 36), (42, 42), (43, 43), (44, 44)]⟩]⟩
/-- CSI_S_CFG.EN. -/
def F.CSI_S_CFG_EN : Fld := ⟨R.CSI_S_CFG, 31, 31⟩
/-- CSI_S_CFG.NBUF. -/
def F.CSI_S_CFG_NBUF : Fld := ⟨R.CSI_S_CFG, 19, 16⟩
/-- CSI_S_CFG.RECV. -/
def F.CSI_S_CFG_RECV : Fld := ⟨R.CSI_S_CFG, 15, 14⟩
/-- CSI_S_CFG.VC. -/
def F.CSI_S_CFG_VC : Fld := ⟨R.CSI_S_CFG, 13, 10⟩
/-- CSI_S_CFG.DT. -/
def F.CSI_S_CFG_DT : Fld := ⟨R.CSI_S_CFG, 5, 0⟩
/-- CSI_S_BUF. -/
def R.CSI_S_BUF : RegDef := ⟨.vid, 0x40080008, 16, 0x10, 1, 0x0, true,
  [⟨59, 48, .rw, .static, 0, []⟩,
   ⟨47, 0, .rw, .static, 0, []⟩]⟩
/-- CSI_S_BUF.BUFSZ. -/
def F.CSI_S_BUF_BUFSZ : Fld := ⟨R.CSI_S_BUF, 59, 48⟩
/-- CSI_S_BUF.ADDR. -/
def F.CSI_S_BUF_ADDR : Fld := ⟨R.CSI_S_BUF, 47, 0⟩
/-- CSI_S_HOLD. -/
def R.CSI_S_HOLD : RegDef := ⟨.vid, 0x40080004, 16, 0x10, 1, 0x0, false,
  [⟨15, 0, .rw, .live, 0, []⟩]⟩
/-- CSI_S_HOLD.HOLD. -/
def F.CSI_S_HOLD_HOLD : Fld := ⟨R.CSI_S_HOLD, 15, 0⟩
/-- MIR_O_CFG. -/
def R.MIR_O_CFG : RegDef := ⟨.vid, 0x40080100, 2, 0x10, 1, 0x0, false,
  [⟨31, 31, .rw, .live, 0, []⟩,
   ⟨30, 30, .rw, .live, 0, []⟩,
   ⟨19, 16, .rw, .shadowed, 2, []⟩,
   ⟨15, 8, .rw, .shadowed, 0x28, [(5, 80)]⟩,
   ⟨3, 0, .rw, .static, 0, []⟩]⟩
/-- MIR_O_CFG.EN. -/
def F.MIR_O_CFG_EN : Fld := ⟨R.MIR_O_CFG, 31, 31⟩
/-- MIR_O_CFG.ON_FAULT. -/
def F.MIR_O_CFG_ON_FAULT : Fld := ⟨R.MIR_O_CFG, 30, 30⟩
/-- MIR_O_CFG.FREEZE_MAX. -/
def F.MIR_O_CFG_FREEZE_MAX : Fld := ⟨R.MIR_O_CFG, 19, 16⟩
/-- MIR_O_CFG.DELAY. -/
def F.MIR_O_CFG_DELAY : Fld := ⟨R.MIR_O_CFG, 15, 8⟩
/-- MIR_O_CFG.SRC. -/
def F.MIR_O_CFG_SRC : Fld := ⟨R.MIR_O_CFG, 3, 0⟩
/-- MIR_O_DESC. -/
def R.MIR_O_DESC : RegDef := ⟨.vid, 0x40080108, 2, 0x10, 1, 0x0, true,
  [⟨47, 0, .rw, .shadowed, 0, []⟩]⟩
/-- MIR_O_DESC.ADDR. -/
def F.MIR_O_DESC_ADDR : Fld := ⟨R.MIR_O_DESC, 47, 0⟩
/-- VIO_ERR. -/
def R.VIO_ERR : RegDef := ⟨.vid, 0x40080200, 1, 0x0, 1, 0x0, false,
  [⟨7, 7, .w1c, .live, 0, []⟩,
   ⟨6, 6, .w1c, .live, 0, []⟩,
   ⟨5, 5, .w1c, .live, 0, []⟩,
   ⟨4, 4, .w1c, .live, 0, []⟩,
   ⟨3, 3, .w1c, .live, 0, []⟩,
   ⟨2, 2, .w1c, .live, 0, []⟩,
   ⟨1, 1, .w1c, .live, 0, []⟩,
   ⟨0, 0, .w1c, .live, 0, []⟩]⟩
/-- VIO_ERR.CFG_WHILE_RUN. -/
def F.VIO_ERR_CFG_WHILE_RUN : Fld := ⟨R.VIO_ERR, 7, 7⟩
/-- VIO_ERR.DESC. -/
def F.VIO_ERR_DESC : Fld := ⟨R.VIO_ERR, 6, 6⟩
/-- VIO_ERR.SLOT_DUP. -/
def F.VIO_ERR_SLOT_DUP : Fld := ⟨R.VIO_ERR, 5, 5⟩
/-- VIO_ERR.SRC_FORMAT. -/
def F.VIO_ERR_SRC_FORMAT : Fld := ⟨R.VIO_ERR, 4, 4⟩
/-- VIO_ERR.FREEZE1. -/
def F.VIO_ERR_FREEZE1 : Fld := ⟨R.VIO_ERR, 3, 3⟩
/-- VIO_ERR.WRONG1. -/
def F.VIO_ERR_WRONG1 : Fld := ⟨R.VIO_ERR, 2, 2⟩
/-- VIO_ERR.FREEZE0. -/
def F.VIO_ERR_FREEZE0 : Fld := ⟨R.VIO_ERR, 1, 1⟩
/-- VIO_ERR.WRONG0. -/
def F.VIO_ERR_WRONG0 : Fld := ⟨R.VIO_ERR, 0, 0⟩
/-- MTU_INCR. -/
def R.MTU_INCR : RegDef := ⟨.time, 0x40090000, 1, 0x0, 1, 0x0, true,
  [⟨39, 32, .rw, .live, 1, []⟩,
   ⟨31, 0, .rw, .live, 0, []⟩]⟩
/-- MTU_INCR.NS. -/
def F.MTU_INCR_NS : Fld := ⟨R.MTU_INCR, 39, 32⟩
/-- MTU_INCR.FRAC. -/
def F.MTU_INCR_FRAC : Fld := ⟨R.MTU_INCR, 31, 0⟩
/-- MTU_ADJ. -/
def R.MTU_ADJ : RegDef := ⟨.time, 0x40090008, 1, 0x0, 1, 0x0, false,
  [⟨31, 0, .wo, .live, 0, []⟩]⟩
/-- MTU_ADJ.DELTA. -/
def F.MTU_ADJ_DELTA : Fld := ⟨R.MTU_ADJ, 31, 0⟩
/-- MTU_SET. -/
def R.MTU_SET : RegDef := ⟨.time, 0x40090010, 1, 0x0, 1, 0x0, true,
  [⟨63, 0, .wo, .live, 0, []⟩]⟩
/-- MTU_SET.TIME. -/
def F.MTU_SET_TIME : Fld := ⟨R.MTU_SET, 63, 0⟩
/-- MTU_NOW. -/
def R.MTU_NOW : RegDef := ⟨.time, 0x40090018, 1, 0x0, 1, 0x0, true,
  [⟨63, 0, .ro, .live, 0, []⟩]⟩
/-- MTU_NOW.TIME. -/
def F.MTU_NOW_TIME : Fld := ⟨R.MTU_NOW, 63, 0⟩
/-- MTU_NOW_SUB. -/
def R.MTU_NOW_SUB : RegDef := ⟨.time, 0x40090020, 1, 0x0, 1, 0x0, false,
  [⟨15, 0, .ro, .live, 0, []⟩]⟩
/-- MTU_NOW_SUB.SUBNS. -/
def F.MTU_NOW_SUB_SUBNS : Fld := ⟨R.MTU_NOW_SUB, 15, 0⟩
/-- MTU_NOW_SEC. -/
def R.MTU_NOW_SEC : RegDef := ⟨.time, 0x40090028, 1, 0x0, 1, 0x0, true,
  [⟨47, 0, .ro, .live, 0, []⟩]⟩
/-- MTU_NOW_SEC.SEC. -/
def F.MTU_NOW_SEC_SEC : Fld := ⟨R.MTU_NOW_SEC, 47, 0⟩
/-- MTU_CTRL. -/
def R.MTU_CTRL : RegDef := ⟨.time, 0x40090030, 1, 0x0, 1, 0x0, false,
  [⟨0, 0, .w1c, .live, 1, []⟩]⟩
/-- MTU_CTRL.LOST. -/
def F.MTU_CTRL_LOST : Fld := ⟨R.MTU_CTRL, 0, 0⟩
/-- ITU_COUNT. -/
def R.ITU_COUNT : RegDef := ⟨.time, 0x40090040, 1, 0x0, 1, 0x0, true,
  [⟨63, 0, .ro, .live, 0, []⟩]⟩
/-- ITU_COUNT.COUNT. -/
def F.ITU_COUNT_COUNT : Fld := ⟨R.ITU_COUNT, 63, 0⟩
/-- ITU_OFFSET. -/
def R.ITU_OFFSET : RegDef := ⟨.time, 0x40090048, 1, 0x0, 1, 0x0, true,
  [⟨63, 0, .rw, .live, 0, []⟩]⟩
/-- ITU_OFFSET.OFFSET. -/
def F.ITU_OFFSET_OFFSET : Fld := ⟨R.ITU_OFFSET, 63, 0⟩
/-- ITU_RATE. -/
def R.ITU_RATE : RegDef := ⟨.time, 0x40090050, 1, 0x0, 1, 0x0, false,
  [⟨31, 0, .rw, .live, 0, []⟩]⟩
/-- ITU_RATE.RATE. -/
def F.ITU_RATE_RATE : Fld := ⟨R.ITU_RATE, 31, 0⟩
/-- ITU_TIME. -/
def R.ITU_TIME : RegDef := ⟨.time, 0x40090058, 1, 0x0, 1, 0x0, true,
  [⟨63, 0, .ro, .live, 0, []⟩]⟩
/-- ITU_TIME.TIME. -/
def F.ITU_TIME_TIME : Fld := ⟨R.ITU_TIME, 63, 0⟩
/-- TP_CFG. -/
def R.TP_CFG : RegDef := ⟨.time, 0x40090080, 8, 0x10, 1, 0x0, false,
  [⟨31, 31, .rw, .live, 0, []⟩,
   ⟨30, 30, .rw, .live, 0, []⟩,
   ⟨29, 29, .rw, .live, 0, []⟩,
   ⟨28, 21, .rw, .shadowed, 1, []⟩,
   ⟨20, 0, .rw, .shadowed, 0, []⟩]⟩
/-- TP_CFG.EN. -/
def F.TP_CFG_EN : Fld := ⟨R.TP_CFG, 31, 31⟩
/-- TP_CFG.PIN_EN. -/
def F.TP_CFG_PIN_EN : Fld := ⟨R.TP_CFG, 30, 30⟩
/-- TP_CFG.POL. -/
def F.TP_CFG_POL : Fld := ⟨R.TP_CFG, 29, 29⟩
/-- TP_CFG.WIDTH. -/
def F.TP_CFG_WIDTH : Fld := ⟨R.TP_CFG, 28, 21⟩
/-- TP_CFG.PERIOD. -/
def F.TP_CFG_PERIOD : Fld := ⟨R.TP_CFG, 20, 0⟩
/-- TP_START. -/
def R.TP_START : RegDef := ⟨.time, 0x40090088, 8, 0x10, 1, 0x0, true,
  [⟨63, 0, .rw, .live, 0, []⟩]⟩
/-- TP_START.TIME. -/
def F.TP_START_TIME : Fld := ⟨R.TP_START, 63, 0⟩
/-- CAP_CFG. -/
def R.CAP_CFG : RegDef := ⟨.time, 0x40090100, 16, 0x10, 1, 0x0, false,
  [⟨31, 31, .rw, .live, 0, []⟩,
   ⟨30, 29, .rw, .live, 0, [(0, 2)]⟩,
   ⟨8, 8, .w1c, .live, 0, []⟩,
   ⟨2, 0, .ro, .live, 0, []⟩]⟩
/-- CAP_CFG.EN. -/
def F.CAP_CFG_EN : Fld := ⟨R.CAP_CFG, 31, 31⟩
/-- CAP_CFG.EDGE. -/
def F.CAP_CFG_EDGE : Fld := ⟨R.CAP_CFG, 30, 29⟩
/-- CAP_CFG.OVF. -/
def F.CAP_CFG_OVF : Fld := ⟨R.CAP_CFG, 8, 8⟩
/-- CAP_CFG.LEVEL. -/
def F.CAP_CFG_LEVEL : Fld := ⟨R.CAP_CFG, 2, 0⟩
/-- CAP_TS. -/
def R.CAP_TS : RegDef := ⟨.time, 0x40090108, 16, 0x10, 1, 0x0, true,
  [⟨63, 0, .ro, .live, 0, []⟩]⟩
/-- CAP_TS.TIME. -/
def F.CAP_TS_TIME : Fld := ⟨R.CAP_TS, 63, 0⟩
/-- GA_CFG. -/
def R.GA_CFG : RegDef := ⟨.ga, 0x40080300, 1, 0x0, 1, 0x0, false,
  [⟨31, 31, .rw, .live, 0, []⟩,
   ⟨26, 24, .rw, .static, 0, []⟩,
   ⟨16, 0, .rw, .shadowed, 0x9470, []⟩]⟩
/-- GA_CFG.EN. -/
def F.GA_CFG_EN : Fld := ⟨R.GA_CFG, 31, 31⟩
/-- GA_CFG.TRIG. -/
def F.GA_CFG_TRIG : Fld := ⟨R.GA_CFG, 26, 24⟩
/-- GA_CFG.CLOSE_US. -/
def F.GA_CFG_CLOSE_US : Fld := ⟨R.GA_CFG, 16, 0⟩
/-- GA_BLOCK. -/
def R.GA_BLOCK : RegDef := ⟨.ga, 0x40080308, 1, 0x0, 1, 0x0, true,
  [⟨47, 0, .rw, .shadowed, 0, []⟩]⟩
/-- GA_BLOCK.ADDR. -/
def F.GA_BLOCK_ADDR : Fld := ⟨R.GA_BLOCK, 47, 0⟩
/-- GA_LIE. -/
def R.GA_LIE : RegDef := ⟨.ga, 0x40080310, 1, 0x0, 1, 0x0, false,
  [⟨15, 0, .rw, .shadowed, 0, []⟩]⟩
/-- GA_LIE.LIE. -/
def F.GA_LIE_LIE : Fld := ⟨R.GA_LIE, 15, 0⟩
/-- GA_STAT. -/
def R.GA_STAT : RegDef := ⟨.ga, 0x40080314, 1, 0x0, 1, 0x0, false,
  [⟨31, 16, .ro, .live, 0, []⟩,
   ⟨15, 0, .ro, .live, 0, []⟩]⟩
/-- GA_STAT.LATE_MASK. -/
def F.GA_STAT_LATE_MASK : Fld := ⟨R.GA_STAT, 31, 16⟩
/-- GA_STAT.CYCLE. -/
def F.GA_STAT_CYCLE : Fld := ⟨R.GA_STAT, 15, 0⟩
/-- GA_EGO_HEAD. -/
def R.GA_EGO_HEAD : RegDef := ⟨.ga, 0x40080318, 1, 0x0, 1, 0x0, false,
  [⟨11, 0, .rw, .live, 0, []⟩]⟩
/-- GA_EGO_HEAD.HEAD. -/
def F.GA_EGO_HEAD_HEAD : Fld := ⟨R.GA_EGO_HEAD, 11, 0⟩
/-- GA_ERR. -/
def R.GA_ERR : RegDef := ⟨.ga, 0x4008031c, 1, 0x0, 1, 0x0, false,
  [⟨2, 2, .w1c, .live, 0, []⟩,
   ⟨1, 1, .w1c, .live, 0, []⟩,
   ⟨0, 0, .w1c, .live, 0, []⟩]⟩
/-- GA_ERR.CFG_WHILE_RUN. -/
def F.GA_ERR_CFG_WHILE_RUN : Fld := ⟨R.GA_ERR, 2, 2⟩
/-- GA_ERR.BLOCK. -/
def F.GA_ERR_BLOCK : Fld := ⟨R.GA_ERR, 1, 1⟩
/-- GA_ERR.EGO_STALE. -/
def F.GA_ERR_EGO_STALE : Fld := ⟨R.GA_ERR, 0, 0⟩
/-- MEM_CFG. -/
def R.MEM_CFG : RegDef := ⟨.mem, 0x40040000, 1, 0x0, 1, 0x0, false,
  [⟨31, 31, .rw, .live, 0, []⟩,
   ⟨7, 5, .rw, .static, 0, [(0, 4)]⟩,
   ⟨4, 2, .rw, .static, 0, [(0, 4)]⟩,
   ⟨1, 0, .rw, .static, 0, []⟩]⟩
/-- MEM_CFG.EN. -/
def F.MEM_CFG_EN : Fld := ⟨R.MEM_CFG, 31, 31⟩
/-- MEM_CFG.HYP1. -/
def F.MEM_CFG_HYP1 : Fld := ⟨R.MEM_CFG, 7, 5⟩
/-- MEM_CFG.HYP0. -/
def F.MEM_CFG_HYP0 : Fld := ⟨R.MEM_CFG, 4, 2⟩
/-- MEM_CFG.CAP. -/
def F.MEM_CFG_CAP : Fld := ⟨R.MEM_CFG, 1, 0⟩
/-- MEM_ERR. -/
def R.MEM_ERR : RegDef := ⟨.mem, 0x40040004, 1, 0x0, 1, 0x0, false,
  [⟨6, 6, .w1c, .live, 0, []⟩,
   ⟨5, 5, .w1c, .live, 0, []⟩,
   ⟨4, 4, .w1c, .live, 0, []⟩,
   ⟨3, 3, .w1c, .live, 0, []⟩,
   ⟨2, 2, .w1c, .live, 0, []⟩,
   ⟨1, 1, .w1c, .live, 0, []⟩,
   ⟨0, 0, .w1c, .live, 0, []⟩]⟩
/-- MEM_ERR.CFG_WHILE_RUN. -/
def F.MEM_ERR_CFG_WHILE_RUN : Fld := ⟨R.MEM_ERR, 6, 6⟩
/-- MEM_ERR.QOS_OVER. -/
def F.MEM_ERR_QOS_OVER : Fld := ⟨R.MEM_ERR, 5, 5⟩
/-- MEM_ERR.SB_OVERLAP. -/
def F.MEM_ERR_SB_OVERLAP : Fld := ⟨R.MEM_ERR, 4, 4⟩
/-- MEM_ERR.RMW. -/
def F.MEM_ERR_RMW : Fld := ⟨R.MEM_ERR, 3, 3⟩
/-- MEM_ERR.POWER. -/
def F.MEM_ERR_POWER : Fld := ⟨R.MEM_ERR, 2, 2⟩
/-- MEM_ERR.RANGE. -/
def F.MEM_ERR_RANGE : Fld := ⟨R.MEM_ERR, 1, 1⟩
/-- MEM_ERR.DETECT. -/
def F.MEM_ERR_DETECT : Fld := ⟨R.MEM_ERR, 0, 0⟩
/-- MEM_ERR_ADDR. -/
def R.MEM_ERR_ADDR : RegDef := ⟨.mem, 0x40040008, 1, 0x0, 1, 0x0, true,
  [⟨63, 63, .w1c, .live, 0, []⟩,
   ⟨47, 0, .ro, .live, 0, []⟩]⟩
/-- MEM_ERR_ADDR.VALID. -/
def F.MEM_ERR_ADDR_VALID : Fld := ⟨R.MEM_ERR_ADDR, 63, 63⟩
/-- MEM_ERR_ADDR.ADDR. -/
def F.MEM_ERR_ADDR_ADDR : Fld := ⟨R.MEM_ERR_ADDR, 47, 0⟩
/-- MEM_ERR_INFO. -/
def R.MEM_ERR_INFO : RegDef := ⟨.mem, 0x40040010, 1, 0x0, 1, 0x0, false,
  [⟨31, 16, .ro, .live, 0, []⟩,
   ⟨13, 8, .ro, .live, 0, []⟩,
   ⟨7, 5, .ro, .live, 0, []⟩,
   ⟨4, 0, .ro, .live, 0, []⟩]⟩
/-- MEM_ERR_INFO.COUNT. -/
def F.MEM_ERR_INFO_COUNT : Fld := ⟨R.MEM_ERR_INFO, 31, 16⟩
/-- MEM_ERR_INFO.MASTER. -/
def F.MEM_ERR_INFO_MASTER : Fld := ⟨R.MEM_ERR_INFO, 13, 8⟩
/-- MEM_ERR_INFO.KIND. -/
def F.MEM_ERR_INFO_KIND : Fld := ⟨R.MEM_ERR_INFO, 7, 5⟩
/-- MEM_ERR_INFO.CH. -/
def F.MEM_ERR_INFO_CH : Fld := ⟨R.MEM_ERR_INFO, 4, 0⟩
/-- MEM_LINK_CNT. -/
def R.MEM_LINK_CNT : RegDef := ⟨.mem, 0x40040014, 1, 0x0, 1, 0x0, false,
  [⟨31, 0, .rw, .live, 0, []⟩]⟩
/-- MEM_LINK_CNT.COUNT. -/
def F.MEM_LINK_CNT_COUNT : Fld := ⟨R.MEM_LINK_CNT, 31, 0⟩
/-- MEM_INJ. -/
def R.MEM_INJ : RegDef := ⟨.mem, 0x40040018, 1, 0x0, 1, 0x0, false,
  [⟨31, 31, .wo, .live, 0, []⟩,
   ⟨30, 29, .wo, .live, 0, [(0, 1)]⟩,
   ⟨4, 0, .wo, .live, 0, []⟩]⟩
/-- MEM_INJ.ARM. -/
def F.MEM_INJ_ARM : Fld := ⟨R.MEM_INJ, 31, 31⟩
/-- MEM_INJ.TARGET. -/
def F.MEM_INJ_TARGET : Fld := ⟨R.MEM_INJ, 30, 29⟩
/-- MEM_INJ.SEL. -/
def F.MEM_INJ_SEL : Fld := ⟨R.MEM_INJ, 4, 0⟩
/-- SBUF_SHARE. -/
def R.SBUF_SHARE : RegDef := ⟨.mem, 0x40040100, 8, 0x8, 1, 0x0, true,
  [⟨63, 63, .rw, .live, 0, []⟩,
   ⟨45, 32, .rw, .static, 0, [(1, 8192)]⟩,
   ⟨12, 0, .rw, .static, 0, []⟩]⟩
/-- SBUF_SHARE.EN. -/
def F.SBUF_SHARE_EN : Fld := ⟨R.SBUF_SHARE, 63, 63⟩
/-- SBUF_SHARE.SIZE. -/
def F.SBUF_SHARE_SIZE : Fld := ⟨R.SBUF_SHARE, 45, 32⟩
/-- SBUF_SHARE.BASE. -/
def F.SBUF_SHARE_BASE : Fld := ⟨R.SBUF_SHARE, 12, 0⟩
/-- SBUF_STAT. -/
def R.SBUF_STAT : RegDef := ⟨.mem, 0x40040180, 1, 0x0, 1, 0x0, false,
  [⟨3, 0, .ro, .live, 0, []⟩]⟩
/-- SBUF_STAT.READY. -/
def F.SBUF_STAT_READY : Fld := ⟨R.SBUF_STAT, 3, 0⟩
/-- QOS_WIN. -/
def R.QOS_WIN : RegDef := ⟨.mem, 0x40040200, 1, 0x0, 1, 0x0, false,
  [⟨10, 0, .rw, .shadowed, 0x64, [(1, 1024)]⟩]⟩
/-- QOS_WIN.LEN. -/
def F.QOS_WIN_LEN : Fld := ⟨R.QOS_WIN, 10, 0⟩
/-- QOS_WCNT. -/
def R.QOS_WCNT : RegDef := ⟨.mem, 0x40040204, 1, 0x0, 1, 0x0, false,
  [⟨31, 0, .ro, .live, 0, []⟩]⟩
/-- QOS_WCNT.WINDOW. -/
def F.QOS_WCNT_WINDOW : Fld := ⟨R.QOS_WCNT, 31, 0⟩
/-- QOS_MISS. -/
def R.QOS_MISS : RegDef := ⟨.mem, 0x40040208, 1, 0x0, 1, 0x0, true,
  [⟨39, 0, .w1c, .live, 0, []⟩]⟩
/-- QOS_MISS.MISS. -/
def F.QOS_MISS_MISS : Fld := ⟨R.QOS_MISS, 39, 0⟩
/-- QOS_MISS_LAST. -/
def R.QOS_MISS_LAST : RegDef := ⟨.mem, 0x40040210, 1, 0x0, 1, 0x0, false,
  [⟨31, 26, .ro, .live, 0, []⟩,
   ⟨25, 0, .ro, .live, 0, []⟩]⟩
/-- QOS_MISS_LAST.MASTER. -/
def F.QOS_MISS_LAST_MASTER : Fld := ⟨R.QOS_MISS_LAST, 31, 26⟩
/-- QOS_MISS_LAST.WINDOW. -/
def F.QOS_MISS_LAST_WINDOW : Fld := ⟨R.QOS_MISS_LAST, 25, 0⟩
/-- QOS_M_CFG. -/
def R.QOS_M_CFG : RegDef := ⟨.mem, 0x40041000, 40, 0x10, 1, 0x0, false,
  [⟨31, 29, .rw, .live, 0, []⟩,
   ⟨11, 8, .rw, .live, 0, []⟩,
   ⟨7, 4, .rw, .live, 0, []⟩,
   ⟨3, 0, .rw, .live, 0, []⟩]⟩
/-- QOS_M_CFG.CLASS. -/
def F.QOS_M_CFG_CLASS : Fld := ⟨R.QOS_M_CFG, 31, 29⟩
/-- QOS_M_CFG.T3. -/
def F.QOS_M_CFG_T3 : Fld := ⟨R.QOS_M_CFG, 11, 8⟩
/-- QOS_M_CFG.T2. -/
def F.QOS_M_CFG_T2 : Fld := ⟨R.QOS_M_CFG, 7, 4⟩
/-- QOS_M_CFG.T1. -/
def F.QOS_M_CFG_T1 : Fld := ⟨R.QOS_M_CFG, 3, 0⟩
/-- QOS_M_USED. -/
def R.QOS_M_USED : RegDef := ⟨.mem, 0x40041004, 40, 0x10, 1, 0x0, false,
  [⟨31, 0, .ro, .live, 0, []⟩]⟩
/-- QOS_M_USED.USED. -/
def F.QOS_M_USED_USED : Fld := ⟨R.QOS_M_USED, 31, 0⟩
/-- QOS_M_BUDGET. -/
def R.QOS_M_BUDGET : RegDef := ⟨.mem, 0x40041008, 40, 0x10, 1, 0x0, true,
  [⟨55, 32, .rw, .shadowed, 0, []⟩,
   ⟨23, 0, .rw, .shadowed, 0, []⟩]⟩
/-- QOS_M_BUDGET.LIMIT. -/
def F.QOS_M_BUDGET_LIMIT : Fld := ⟨R.QOS_M_BUDGET, 55, 32⟩
/-- QOS_M_BUDGET.GUAR. -/
def F.QOS_M_BUDGET_GUAR : Fld := ⟨R.QOS_M_BUDGET, 23, 0⟩
/-- ISL_PAIR_STAT. -/
def R.ISL_PAIR_STAT : RegDef := ⟨.islc, 0x20000000, 1, 0x0, 1, 0x0, false,
  [⟨31, 31, .ro, .live, 0, []⟩,
   ⟨30, 30, .ro, .live, 0, []⟩,
   ⟨29, 28, .ro, .live, 0, []⟩,
   ⟨27, 16, .ro, .live, 0, []⟩,
   ⟨12, 0, .ro, .live, 0, []⟩]⟩
/-- ISL_PAIR_STAT.MODE. -/
def F.ISL_PAIR_STAT_MODE : Fld := ⟨R.ISL_PAIR_STAT, 31, 31⟩
/-- ISL_PAIR_STAT.MISMATCH. -/
def F.ISL_PAIR_STAT_MISMATCH : Fld := ⟨R.ISL_PAIR_STAT, 30, 30⟩
/-- ISL_PAIR_STAT.CAUSE. -/
def F.ISL_PAIR_STAT_CAUSE : Fld := ⟨R.ISL_PAIR_STAT, 29, 28⟩
/-- ISL_PAIR_STAT.CMP_FILL. -/
def F.ISL_PAIR_STAT_CMP_FILL : Fld := ⟨R.ISL_PAIR_STAT, 27, 16⟩
/-- ISL_PAIR_STAT.LOG_FILL. -/
def F.ISL_PAIR_STAT_LOG_FILL : Fld := ⟨R.ISL_PAIR_STAT, 12, 0⟩
/-- ISL_WDOG_CFG. -/
def R.ISL_WDOG_CFG : RegDef := ⟨.islc, 0x20000010, 7, 0x4, 1, 0x0, false,
  [⟨31, 31, .rw, .live, 0, []⟩,
   ⟨30, 16, .rw, .shadowed, 0, []⟩,
   ⟨15, 0, .rw, .shadowed, 0, [(1, 65535)]⟩]⟩
/-- ISL_WDOG_CFG.EN. -/
def F.ISL_WDOG_CFG_EN : Fld := ⟨R.ISL_WDOG_CFG, 31, 31⟩
/-- ISL_WDOG_CFG.MIN. -/
def F.ISL_WDOG_CFG_MIN : Fld := ⟨R.ISL_WDOG_CFG, 30, 16⟩
/-- ISL_WDOG_CFG.PERIOD. -/
def F.ISL_WDOG_CFG_PERIOD : Fld := ⟨R.ISL_WDOG_CFG, 15, 0⟩
/-- ISL_WDOG_KICK. -/
def R.ISL_WDOG_KICK : RegDef := ⟨.islc, 0x20000030, 1, 0x0, 1, 0x0, false,
  [⟨6, 0, .wo, .live, 0, []⟩]⟩
/-- ISL_WDOG_KICK.KICK. -/
def F.ISL_WDOG_KICK_KICK : Fld := ⟨R.ISL_WDOG_KICK, 6, 0⟩
/-- ISL_WDOG_STAT. -/
def R.ISL_WDOG_STAT : RegDef := ⟨.islc, 0x20000034, 1, 0x0, 1, 0x0, false,
  [⟨6, 0, .w1c, .live, 0, []⟩]⟩
/-- ISL_WDOG_STAT.EXPIRED. -/
def F.ISL_WDOG_STAT_EXPIRED : Fld := ⟨R.ISL_WDOG_STAT, 6, 0⟩
/-- BB_RANGE. -/
def R.BB_RANGE : RegDef := ⟨.bb, 0x20002000, 8, 0x8, 1, 0x0, true,
  [⟨63, 63, .rw, .live, 0, []⟩,
   ⟨62, 62, .rw, .static, 0, []⟩,
   ⟨61, 61, .rw, .static, 0, []⟩,
   ⟨60, 56, .rw, .static, 0, []⟩,
   ⟨46, 32, .rw, .static, 0, [(1, 16384)]⟩,
   ⟨13, 0, .rw, .static, 0, []⟩]⟩
/-- BB_RANGE.EN. -/
def F.BB_RANGE_EN : Fld := ⟨R.BB_RANGE, 63, 63⟩
/-- BB_RANGE.POSTED. -/
def F.BB_RANGE_POSTED : Fld := ⟨R.BB_RANGE, 62, 62⟩
/-- BB_RANGE.COMPAT_ERR. -/
def F.BB_RANGE_COMPAT_ERR : Fld := ⟨R.BB_RANGE, 61, 61⟩
/-- BB_RANGE.MASTERS. -/
def F.BB_RANGE_MASTERS : Fld := ⟨R.BB_RANGE, 60, 56⟩
/-- BB_RANGE.SIZE. -/
def F.BB_RANGE_SIZE : Fld := ⟨R.BB_RANGE, 46, 32⟩
/-- BB_RANGE.BASE. -/
def F.BB_RANGE_BASE : Fld := ⟨R.BB_RANGE, 13, 0⟩
/-- BB_ERR. -/
def R.BB_ERR : RegDef := ⟨.bb, 0x20002040, 1, 0x0, 1, 0x0, false,
  [⟨4, 4, .w1c, .live, 0, []⟩,
   ⟨3, 3, .w1c, .live, 0, []⟩,
   ⟨2, 2, .w1c, .live, 0, []⟩,
   ⟨1, 1, .w1c, .live, 0, []⟩,
   ⟨0, 0, .w1c, .live, 0, []⟩]⟩
/-- BB_ERR.CFG_WHILE_RUN. -/
def F.BB_ERR_CFG_WHILE_RUN : Fld := ⟨R.BB_ERR, 4, 4⟩
/-- BB_ERR.LOCK_BROKEN. -/
def F.BB_ERR_LOCK_BROKEN : Fld := ⟨R.BB_ERR, 3, 3⟩
/-- BB_ERR.TIMEOUT. -/
def F.BB_ERR_TIMEOUT : Fld := ⟨R.BB_ERR, 2, 2⟩
/-- BB_ERR.NP_ERR. -/
def F.BB_ERR_NP_ERR : Fld := ⟨R.BB_ERR, 1, 1⟩
/-- BB_ERR.POSTED_ERR. -/
def F.BB_ERR_POSTED_ERR : Fld := ⟨R.BB_ERR, 0, 0⟩
/-- BB_ERR_LOG. -/
def R.BB_ERR_LOG : RegDef := ⟨.bb, 0x20002048, 1, 0x0, 1, 0x0, true,
  [⟨63, 63, .w1c, .live, 0, []⟩,
   ⟨55, 50, .ro, .live, 0, []⟩,
   ⟨49, 48, .ro, .live, 0, []⟩,
   ⟨25, 0, .ro, .live, 0, []⟩]⟩
/-- BB_ERR_LOG.VALID. -/
def F.BB_ERR_LOG_VALID : Fld := ⟨R.BB_ERR_LOG, 63, 63⟩
/-- BB_ERR_LOG.MASTER. -/
def F.BB_ERR_LOG_MASTER : Fld := ⟨R.BB_ERR_LOG, 55, 50⟩
/-- BB_ERR_LOG.KIND. -/
def F.BB_ERR_LOG_KIND : Fld := ⟨R.BB_ERR_LOG, 49, 48⟩
/-- BB_ERR_LOG.OFFSET. -/
def F.BB_ERR_LOG_OFFSET : Fld := ⟨R.BB_ERR_LOG, 25, 0⟩
/-- TRS_CFG. -/
def R.TRS_CFG : RegDef := ⟨.trs, 0x400a0000, 1, 0x0, 1, 0x0, false,
  [⟨31, 31, .rw, .live, 0, []⟩,
   ⟨14, 0, .rw, .shadowed, 0x3e8, []⟩]⟩
/-- TRS_CFG.EN. -/
def F.TRS_CFG_EN : Fld := ⟨R.TRS_CFG, 31, 31⟩
/-- TRS_CFG.OFFSET. -/
def F.TRS_CFG_OFFSET : Fld := ⟨R.TRS_CFG, 14, 0⟩
/-- TRS_STAT. -/
def R.TRS_STAT : RegDef := ⟨.trs, 0x400a0004, 1, 0x0, 1, 0x0, false,
  [⟨31, 30, .ro, .live, 0, []⟩,
   ⟨29, 29, .ro, .live, 0, []⟩,
   ⟨28, 28, .ro, .live, 0, []⟩,
   ⟨27, 27, .w1c, .live, 0, []⟩,
   ⟨26, 26, .w1c, .live, 0, []⟩,
   ⟨25, 25, .w1c, .live, 0, []⟩,
   ⟨24, 24, .ro, .live, 0, []⟩,
   ⟨15, 0, .ro, .live, 0, []⟩]⟩
/-- TRS_STAT.ROLE. -/
def F.TRS_STAT_ROLE : Fld := ⟨R.TRS_STAT, 31, 30⟩
/-- TRS_STAT.LINK_UP. -/
def F.TRS_STAT_LINK_UP : Fld := ⟨R.TRS_STAT, 29, 29⟩
/-- TRS_STAT.ALONE. -/
def F.TRS_STAT_ALONE : Fld := ⟨R.TRS_STAT, 28, 28⟩
/-- TRS_STAT.SPLIT. -/
def F.TRS_STAT_SPLIT : Fld := ⟨R.TRS_STAT, 27, 27⟩
/-- TRS_STAT.WIRE. -/
def F.TRS_STAT_WIRE : Fld := ⟨R.TRS_STAT, 26, 26⟩
/-- TRS_STAT.LIST_ERR. -/
def F.TRS_STAT_LIST_ERR : Fld := ⟨R.TRS_STAT, 25, 25⟩
/-- TRS_STAT.RX_HALF. -/
def F.TRS_STAT_RX_HALF : Fld := ⟨R.TRS_STAT, 24, 24⟩
/-- TRS_STAT.MIRROR_LATE. -/
def F.TRS_STAT_MIRROR_LATE : Fld := ⟨R.TRS_STAT, 15, 0⟩
/-- TRS_MIRROR. -/
def R.TRS_MIRROR : RegDef := ⟨.trs, 0x400a0008, 1, 0x0, 1, 0x0, true,
  [⟨47, 0, .rw, .shadowed, 0, []⟩]⟩
/-- TRS_MIRROR.ADDR. -/
def F.TRS_MIRROR_ADDR : Fld := ⟨R.TRS_MIRROR, 47, 0⟩
/-- TRS_RXBUF. -/
def R.TRS_RXBUF : RegDef := ⟨.trs, 0x400a0010, 1, 0x0, 1, 0x0, true,
  [⟨47, 0, .rw, .shadowed, 0, []⟩]⟩
/-- TRS_RXBUF.ADDR. -/
def F.TRS_RXBUF_ADDR : Fld := ⟨R.TRS_RXBUF, 47, 0⟩
/-- SEC_CFG. -/
def R.SEC_CFG : RegDef := ⟨.sec, 0x40020000, 1, 0x0, 1, 0x0, false,
  [⟨31, 31, .rw, .live, 0, []⟩,
   ⟨30, 30, .rw, .live, 0, []⟩,
   ⟨1, 0, .rw, .live, 1, [(1, 3)]⟩]⟩
/-- SEC_CFG.LOCK. -/
def F.SEC_CFG_LOCK : Fld := ⟨R.SEC_CFG, 31, 31⟩
/-- SEC_CFG.SEC_DEBUG. -/
def F.SEC_CFG_SEC_DEBUG : Fld := ⟨R.SEC_CFG, 30, 30⟩
/-- SEC_CFG.MODE. -/
def F.SEC_CFG_MODE : Fld := ⟨R.SEC_CFG, 1, 0⟩
/-- SEC_WM. -/
def R.SEC_WM : RegDef := ⟨.sec, 0x40020010, 4, 0x4, 1, 0x0, false,
  [⟨31, 31, .rw, .live, 0, []⟩,
   ⟨23, 0, .rw, .live, 0, []⟩]⟩
/-- SEC_WM.LOCK. -/
def F.SEC_WM_LOCK : Fld := ⟨R.SEC_WM, 31, 31⟩
/-- SEC_WM.LIMIT. -/
def F.SEC_WM_LIMIT : Fld := ⟨R.SEC_WM, 23, 0⟩
/-- SEC_MWORLD. -/
def R.SEC_MWORLD : RegDef := ⟨.sec, 0x40020020, 1, 0x0, 1, 0x0, true,
  [⟨39, 0, .rw, .live, 0, []⟩]⟩
/-- SEC_MWORLD.SECURE. -/
def F.SEC_MWORLD_SECURE : Fld := ⟨R.SEC_MWORLD, 39, 0⟩
/-- SEC_CAB. -/
def R.SEC_CAB : RegDef := ⟨.sec, 0x40020040, 8, 0x4, 1, 0x0, false,
  [⟨31, 31, .rw, .static, 0, []⟩,
   ⟨30, 30, .rw, .static, 0, []⟩,
   ⟨3, 0, .rw, .static, 0, []⟩]⟩
/-- SEC_CAB.SECURE. -/
def F.SEC_CAB_SECURE : Fld := ⟨R.SEC_CAB, 31, 31⟩
/-- SEC_CAB.LKR_VALID. -/
def F.SEC_CAB_LKR_VALID : Fld := ⟨R.SEC_CAB, 30, 30⟩
/-- SEC_CAB.LOCKER. -/
def F.SEC_CAB_LOCKER : Fld := ⟨R.SEC_CAB, 3, 0⟩
/-- SEC_LKR_BASE. -/
def R.SEC_LKR_BASE : RegDef := ⟨.sec, 0x40020100, 16, 0x10, 1, 0x0, true,
  [⟨63, 63, .rw, .live, 0, []⟩,
   ⟨47, 12, .rw, .static, 0, []⟩]⟩
/-- SEC_LKR_BASE.VALID. -/
def F.SEC_LKR_BASE_VALID : Fld := ⟨R.SEC_LKR_BASE, 63, 63⟩
/-- SEC_LKR_BASE.BASE. -/
def F.SEC_LKR_BASE_BASE : Fld := ⟨R.SEC_LKR_BASE, 47, 12⟩
/-- SEC_LKR_SIZE. -/
def R.SEC_LKR_SIZE : RegDef := ⟨.sec, 0x40020108, 16, 0x10, 1, 0x0, true,
  [⟨52, 32, .rw, .static, 0, []⟩,
   ⟨20, 0, .rw, .static, 0, []⟩]⟩
/-- SEC_LKR_SIZE.CODE. -/
def F.SEC_LKR_SIZE_CODE : Fld := ⟨R.SEC_LKR_SIZE, 52, 32⟩
/-- SEC_LKR_SIZE.SIZE. -/
def F.SEC_LKR_SIZE_SIZE : Fld := ⟨R.SEC_LKR_SIZE, 20, 0⟩
/-- SEC_ERR. -/
def R.SEC_ERR : RegDef := ⟨.sec, 0x40020200, 1, 0x0, 1, 0x0, false,
  [⟨3, 3, .w1c, .live, 0, []⟩,
   ⟨2, 2, .w1c, .live, 0, []⟩,
   ⟨1, 1, .w1c, .live, 0, []⟩,
   ⟨0, 0, .w1c, .live, 0, []⟩]⟩
/-- SEC_ERR.CFG_WHILE_RUN. -/
def F.SEC_ERR_CFG_WHILE_RUN : Fld := ⟨R.SEC_ERR, 3, 3⟩
/-- SEC_ERR.VIOL. -/
def F.SEC_ERR_VIOL : Fld := ⟨R.SEC_ERR, 2, 2⟩
/-- SEC_ERR.SVC_RESTART. -/
def F.SEC_ERR_SVC_RESTART : Fld := ⟨R.SEC_ERR, 1, 1⟩
/-- SEC_ERR.CORE_RESTART. -/
def F.SEC_ERR_CORE_RESTART : Fld := ⟨R.SEC_ERR, 0, 0⟩
/-- SEC_STATUS. -/
def R.SEC_STATUS : RegDef := ⟨.sec, 0x40020204, 1, 0x0, 1, 0x0, false,
  [⟨31, 31, .ro, .live, 0, []⟩,
   ⟨30, 30, .ro, .live, 0, []⟩,
   ⟨29, 29, .ro, .live, 0, []⟩,
   ⟨28, 28, .ro, .live, 0, []⟩,
   ⟨7, 0, .ro, .live, 0, []⟩]⟩
/-- SEC_STATUS.HALTED. -/
def F.SEC_STATUS_HALTED : Fld := ⟨R.SEC_STATUS, 31, 31⟩
/-- SEC_STATUS.ROLLBACK_ABSENT. -/
def F.SEC_STATUS_ROLLBACK_ABSENT : Fld := ⟨R.SEC_STATUS, 30, 30⟩
/-- SEC_STATUS.ROLLBACK_FAILED. -/
def F.SEC_STATUS_ROLLBACK_FAILED : Fld := ⟨R.SEC_STATUS, 29, 29⟩
/-- SEC_STATUS.NO_IDENTITY. -/
def F.SEC_STATUS_NO_IDENTITY : Fld := ⟨R.SEC_STATUS, 28, 28⟩
/-- SEC_STATUS.RESTARTS. -/
def F.SEC_STATUS_RESTARTS : Fld := ⟨R.SEC_STATUS, 7, 0⟩
/-- SEC_VIOL_ADDR. -/
def R.SEC_VIOL_ADDR : RegDef := ⟨.sec, 0x40020210, 1, 0x0, 1, 0x0, true,
  [⟨63, 63, .w1c, .live, 0, []⟩,
   ⟨47, 0, .ro, .live, 0, []⟩]⟩
/-- SEC_VIOL_ADDR.VALID. -/
def F.SEC_VIOL_ADDR_VALID : Fld := ⟨R.SEC_VIOL_ADDR, 63, 63⟩
/-- SEC_VIOL_ADDR.ADDR. -/
def F.SEC_VIOL_ADDR_ADDR : Fld := ⟨R.SEC_VIOL_ADDR, 47, 0⟩
/-- SEC_VIOL_INFO. -/
def R.SEC_VIOL_INFO : RegDef := ⟨.sec, 0x40020218, 1, 0x0, 1, 0x0, false,
  [⟨31, 16, .ro, .live, 0, []⟩,
   ⟨13, 8, .ro, .live, 0, []⟩,
   ⟨7, 7, .ro, .live, 0, []⟩,
   ⟨6, 6, .ro, .live, 0, []⟩,
   ⟨5, 2, .ro, .live, 0, []⟩,
   ⟨1, 0, .ro, .live, 0, []⟩]⟩
/-- SEC_VIOL_INFO.COUNT. -/
def F.SEC_VIOL_INFO_COUNT : Fld := ⟨R.SEC_VIOL_INFO, 31, 16⟩
/-- SEC_VIOL_INFO.MASTER. -/
def F.SEC_VIOL_INFO_MASTER : Fld := ⟨R.SEC_VIOL_INFO, 13, 8⟩
/-- SEC_VIOL_INFO.WORLD. -/
def F.SEC_VIOL_INFO_WORLD : Fld := ⟨R.SEC_VIOL_INFO, 7, 7⟩
/-- SEC_VIOL_INFO.LKR_VALID. -/
def F.SEC_VIOL_INFO_LKR_VALID : Fld := ⟨R.SEC_VIOL_INFO, 6, 6⟩
/-- SEC_VIOL_INFO.LOCKER. -/
def F.SEC_VIOL_INFO_LOCKER : Fld := ⟨R.SEC_VIOL_INFO, 5, 2⟩
/-- SEC_VIOL_INFO.KIND. -/
def F.SEC_VIOL_INFO_KIND : Fld := ⟨R.SEC_VIOL_INFO, 1, 0⟩
/-- SEC_MBOX_REQ. -/
def R.SEC_MBOX_REQ : RegDef := ⟨.sec, 0x40020300, 8, 0x10, 1, 0x0, true,
  [⟨47, 0, .wo, .live, 0, []⟩]⟩
/-- SEC_MBOX_REQ.ADDR. -/
def F.SEC_MBOX_REQ_ADDR : Fld := ⟨R.SEC_MBOX_REQ, 47, 0⟩
/-- SEC_MBOX_STAT. -/
def R.SEC_MBOX_STAT : RegDef := ⟨.sec, 0x40020308, 8, 0x10, 1, 0x0, false,
  [⟨31, 31, .w1c, .live, 0, []⟩,
   ⟨4, 0, .ro, .live, 0, []⟩]⟩
/-- SEC_MBOX_STAT.OVF. -/
def F.SEC_MBOX_STAT_OVF : Fld := ⟨R.SEC_MBOX_STAT, 31, 31⟩
/-- SEC_MBOX_STAT.QUEUED. -/
def F.SEC_MBOX_STAT_QUEUED : Fld := ⟨R.SEC_MBOX_STAT, 4, 0⟩
/-- ISL_INT_WORLD. -/
def R.ISL_INT_WORLD : RegDef := ⟨.islc, 0x20000040, 1, 0x0, 1, 0x0, true,
  [⟨63, 0, .rw, .live, 0xffffffffffffffff, []⟩]⟩
/-- ISL_INT_WORLD.SECURE. -/
def F.ISL_INT_WORLD_SECURE : Fld := ⟨R.ISL_INT_WORLD, 63, 0⟩
/-- PMC_SEC_INUSE. -/
def R.PMC_SEC_INUSE : RegDef := ⟨.pmc, 0x40030080, 1, 0x0, 1, 0x0, true,
  [⟨63, 0, .rw, .live, 0x10000000f, []⟩]⟩
/-- PMC_SEC_INUSE.INUSE. -/
def F.PMC_SEC_INUSE_INUSE : Fld := ⟨R.PMC_SEC_INUSE, 63, 0⟩
/-- HIF_VERSION. -/
def R.HIF_VERSION : RegDef := ⟨.hif, 0x1000000000000, 33, 0x1000, 1, 0x0, false,
  [⟨31, 24, .ro, .live, 1, []⟩,
   ⟨23, 16, .ro, .live, 4, []⟩,
   ⟨15, 8, .rw, .static, 0, []⟩,
   ⟨7, 0, .rw, .static, 0, []⟩]⟩
/-- HIF_VERSION.FW_MAJOR. -/
def F.HIF_VERSION_FW_MAJOR : Fld := ⟨R.HIF_VERSION, 31, 24⟩
/-- HIF_VERSION.FW_MINOR. -/
def F.HIF_VERSION_FW_MINOR : Fld := ⟨R.HIF_VERSION, 23, 16⟩
/-- HIF_VERSION.DRV_MAJOR. -/
def F.HIF_VERSION_DRV_MAJOR : Fld := ⟨R.HIF_VERSION, 15, 8⟩
/-- HIF_VERSION.DRV_MINOR. -/
def F.HIF_VERSION_DRV_MINOR : Fld := ⟨R.HIF_VERSION, 7, 0⟩
/-- HIF_STATUS. -/
def R.HIF_STATUS : RegDef := ⟨.hif, 0x1000000000004, 33, 0x1000, 1, 0x0, false,
  [⟨31, 29, .ro, .live, 0, []⟩,
   ⟨28, 26, .ro, .live, 0, []⟩,
   ⟨25, 25, .w1c, .live, 0, []⟩,
   ⟨24, 24, .w1c, .live, 0, []⟩,
   ⟨15, 0, .ro, .live, 0, []⟩]⟩
/-- HIF_STATUS.STATE. -/
def F.HIF_STATUS_STATE : Fld := ⟨R.HIF_STATUS, 31, 29⟩
/-- HIF_STATUS.REASON. -/
def F.HIF_STATUS_REASON : Fld := ⟨R.HIF_STATUS, 28, 26⟩
/-- HIF_STATUS.CFG_WHILE_RUN. -/
def F.HIF_STATUS_CFG_WHILE_RUN : Fld := ⟨R.HIF_STATUS, 25, 25⟩
/-- HIF_STATUS.DB_ERR. -/
def F.HIF_STATUS_DB_ERR : Fld := ⟨R.HIF_STATUS, 24, 24⟩
/-- HIF_STATUS.EV_LOST. -/
def F.HIF_STATUS_EV_LOST : Fld := ⟨R.HIF_STATUS, 15, 0⟩
/-- HIF_ATTACH. -/
def R.HIF_ATTACH : RegDef := ⟨.hif, 0x1000000000008, 33, 0x1000, 1, 0x0, true,
  [⟨63, 63, .wo, .live, 0, []⟩,
   ⟨47, 0, .wo, .live, 0, []⟩]⟩
/-- HIF_ATTACH.OP. -/
def F.HIF_ATTACH_OP : Fld := ⟨R.HIF_ATTACH, 63, 63⟩
/-- HIF_ATTACH.ADDR. -/
def F.HIF_ATTACH_ADDR : Fld := ⟨R.HIF_ATTACH, 47, 0⟩
/-- HIF_DOORBELL. -/
def R.HIF_DOORBELL : RegDef := ⟨.hif, 0x1000000000010, 33, 0x1000, 1, 0x0, false,
  [⟨31, 30, .wo, .live, 0, []⟩,
   ⟨11, 0, .wo, .live, 0, []⟩]⟩
/-- HIF_DOORBELL.KIND. -/
def F.HIF_DOORBELL_KIND : Fld := ⟨R.HIF_DOORBELL, 31, 30⟩
/-- HIF_DOORBELL.INDEX. -/
def F.HIF_DOORBELL_INDEX : Fld := ⟨R.HIF_DOORBELL, 11, 0⟩
/-- HIF_WIN. -/
def R.HIF_WIN : RegDef := ⟨.hif, 0x1000000000018, 33, 0x1000, 1, 0x0, true,
  [⟨63, 63, .ro, .live, 0, []⟩,
   ⟨55, 48, .ro, .live, 0, []⟩,
   ⟨47, 0, .ro, .live, 0, []⟩]⟩
/-- HIF_WIN.VALID. -/
def F.HIF_WIN_VALID : Fld := ⟨R.HIF_WIN, 63, 63⟩
/-- HIF_WIN.SIZE_LOG2. -/
def F.HIF_WIN_SIZE_LOG2 : Fld := ⟨R.HIF_WIN, 55, 48⟩
/-- HIF_WIN.BASE. -/
def F.HIF_WIN_BASE : Fld := ⟨R.HIF_WIN, 47, 0⟩
/-- BOOT_STATUS. -/
def R.BOOT_STATUS : RegDef := ⟨.boot, 0x40010000, 1, 0x0, 1, 0x0, false,
  [⟨31, 28, .ro, .live, 0, []⟩,
   ⟨27, 26, .ro, .live, 0, []⟩,
   ⟨25, 25, .ro, .live, 0, []⟩,
   ⟨23, 16, .ro, .live, 0, []⟩,
   ⟨15, 8, .ro, .live, 0xff, []⟩,
   ⟨2, 0, .ro, .live, 0, []⟩]⟩
/-- BOOT_STATUS.STAGE. -/
def F.BOOT_STATUS_STAGE : Fld := ⟨R.BOOT_STATUS, 31, 28⟩
/-- BOOT_STATUS.SLOT. -/
def F.BOOT_STATUS_SLOT : Fld := ⟨R.BOOT_STATUS, 27, 26⟩
/-- BOOT_STATUS.TRIAL. -/
def F.BOOT_STATUS_TRIAL : Fld := ⟨R.BOOT_STATUS, 25, 25⟩
/-- BOOT_STATUS.FAIL. -/
def F.BOOT_STATUS_FAIL : Fld := ⟨R.BOOT_STATUS, 23, 16⟩
/-- BOOT_STATUS.ENTRY. -/
def F.BOOT_STATUS_ENTRY : Fld := ⟨R.BOOT_STATUS, 15, 8⟩
/-- BOOT_STATUS.TRIES. -/
def F.BOOT_STATUS_TRIES : Fld := ⟨R.BOOT_STATUS, 2, 0⟩
/-- BOOT_TIMES. -/
def R.BOOT_TIMES : RegDef := ⟨.boot, 0x40010004, 1, 0x0, 1, 0x0, false,
  [⟨31, 16, .ro, .live, 0, []⟩,
   ⟨15, 0, .ro, .live, 0, []⟩]⟩
/-- BOOT_TIMES.MAIN_MS. -/
def F.BOOT_TIMES_MAIN_MS : Fld := ⟨R.BOOT_TIMES, 31, 16⟩
/-- BOOT_TIMES.FS_MS. -/
def F.BOOT_TIMES_FS_MS : Fld := ⟨R.BOOT_TIMES, 15, 0⟩
/-- BOOT_RCV. -/
def R.BOOT_RCV : RegDef := ⟨.boot, 0x40010008, 1, 0x0, 1, 0x0, false,
  [⟨31, 31, .wo, .live, 0, []⟩,
   ⟨30, 28, .ro, .live, 0, []⟩,
   ⟨19, 0, .rw, .live, 0, [(1, 524288)]⟩]⟩
/-- BOOT_RCV.GO. -/
def F.BOOT_RCV_GO : Fld := ⟨R.BOOT_RCV, 31, 31⟩
/-- BOOT_RCV.RESULT. -/
def F.BOOT_RCV_RESULT : Fld := ⟨R.BOOT_RCV, 30, 28⟩
/-- BOOT_RCV.LENGTH. -/
def F.BOOT_RCV_LENGTH : Fld := ⟨R.BOOT_RCV, 19, 0⟩
/-- PMC_STATE. -/
def R.PMC_STATE : RegDef := ⟨.pmc, 0x40030000, 1, 0x0, 1, 0x0, false,
  [⟨31, 29, .ro, .live, 0, []⟩,
   ⟨28, 26, .ro, .live, 0, []⟩]⟩
/-- PMC_STATE.STATE. -/
def F.PMC_STATE_STATE : Fld := ⟨R.PMC_STATE, 31, 29⟩
/-- PMC_STATE.TARGET. -/
def F.PMC_STATE_TARGET : Fld := ⟨R.PMC_STATE, 28, 26⟩
/-- PMC_CFG. -/
def R.PMC_CFG : RegDef := ⟨.pmc, 0x40030004, 1, 0x0, 1, 0x0, false,
  [⟨1, 1, .rw, .live, 1, []⟩,
   ⟨0, 0, .rw, .live, 0, []⟩]⟩
/-- PMC_CFG.AVS_EN. -/
def F.PMC_CFG_AVS_EN : Fld := ⟨R.PMC_CFG, 1, 1⟩
/-- PMC_CFG.AUTO_IDLE. -/
def F.PMC_CFG_AUTO_IDLE : Fld := ⟨R.PMC_CFG, 0, 0⟩
/-- PMC_PD_STAT. -/
def R.PMC_PD_STAT : RegDef := ⟨.pmc, 0x40030008, 1, 0x0, 1, 0x0, true,
  [⟨63, 0, .ro, .live, 1, []⟩]⟩
/-- PMC_PD_STAT.ON. -/
def F.PMC_PD_STAT_ON : Fld := ⟨R.PMC_PD_STAT, 63, 0⟩
/-- PMC_REQ. -/
def R.PMC_REQ : RegDef := ⟨.pmc, 0x40030010, 2, 0x40, 1, 0x0, true,
  [⟨63, 0, .wo, .live, 0, []⟩]⟩
/-- PMC_REQ.REQUEST. -/
def F.PMC_REQ_REQUEST : Fld := ⟨R.PMC_REQ, 63, 0⟩
/-- PMC_RESP. -/
def R.PMC_RESP : RegDef := ⟨.pmc, 0x40030018, 2, 0x40, 1, 0x0, false,
  [⟨31, 31, .ro, .live, 0, []⟩,
   ⟨7, 0, .ro, .live, 0, []⟩]⟩
/-- PMC_RESP.BUSY. -/
def F.PMC_RESP_BUSY : Fld := ⟨R.PMC_RESP, 31, 31⟩
/-- PMC_RESP.STATUS. -/
def F.PMC_RESP_STATUS : Fld := ⟨R.PMC_RESP, 7, 0⟩
/-- PMC_MON. -/
def R.PMC_MON : RegDef := ⟨.pmc, 0x40030020, 1, 0x0, 1, 0x0, false,
  [⟨27, 27, .w1c, .live, 0, []⟩,
   ⟨26, 26, .w1c, .live, 0, []⟩,
   ⟨25, 25, .w1c, .live, 0, []⟩,
   ⟨24, 24, .w1c, .live, 0, []⟩,
   ⟨15, 8, .w1c, .live, 0, []⟩,
   ⟨7, 0, .w1c, .live, 0, []⟩]⟩
/-- PMC_MON.PMBUS. -/
def F.PMC_MON_PMBUS : Fld := ⟨R.PMC_MON, 27, 27⟩
/-- PMC_MON.XTAL32_FAIL. -/
def F.PMC_MON_XTAL32_FAIL : Fld := ⟨R.PMC_MON, 26, 26⟩
/-- PMC_MON.PLL_RELOCK. -/
def F.PMC_MON_PLL_RELOCK : Fld := ⟨R.PMC_MON, 25, 25⟩
/-- PMC_MON.THERM_WARN. -/
def F.PMC_MON_THERM_WARN : Fld := ⟨R.PMC_MON, 24, 24⟩
/-- PMC_MON.BROWN. -/
def F.PMC_MON_BROWN : Fld := ⟨R.PMC_MON, 15, 8⟩
/-- PMC_MON.WARN. -/
def F.PMC_MON_WARN : Fld := ⟨R.PMC_MON, 7, 0⟩
/-- PMC_THERM. -/
def R.PMC_THERM : RegDef := ⟨.pmc, 0x40030024, 1, 0x0, 1, 0x0, false,
  [⟨31, 23, .ro, .live, 0, []⟩,
   ⟨15, 8, .rw, .live, 0x73, [(60, 125)]⟩]⟩
/-- PMC_THERM.TJ. -/
def F.PMC_THERM_TJ : Fld := ⟨R.PMC_THERM, 31, 23⟩
/-- PMC_THERM.WARN. -/
def F.PMC_THERM_WARN : Fld := ⟨R.PMC_THERM, 15, 8⟩
/-- PMC_VCORE. -/
def R.PMC_VCORE : RegDef := ⟨.pmc, 0x40030028, 1, 0x0, 1, 0x0, false,
  [⟨27, 16, .ro, .live, 0, []⟩,
   ⟨11, 0, .ro, .live, 0x2ee, []⟩]⟩
/-- PMC_VCORE.MEASURED. -/
def F.PMC_VCORE_MEASURED : Fld := ⟨R.PMC_VCORE, 27, 16⟩
/-- PMC_VCORE.TARGET. -/
def F.PMC_VCORE_TARGET : Fld := ⟨R.PMC_VCORE, 11, 0⟩
/-- PMC_LOG_HEAD. -/
def R.PMC_LOG_HEAD : RegDef := ⟨.pmc, 0x40030030, 1, 0x0, 1, 0x0, false,
  [⟨31, 16, .ro, .live, 0, []⟩,
   ⟨3, 0, .ro, .live, 0, []⟩]⟩
/-- PMC_LOG_HEAD.TOTAL. -/
def F.PMC_LOG_HEAD_TOTAL : Fld := ⟨R.PMC_LOG_HEAD, 31, 16⟩
/-- PMC_LOG_HEAD.NEXT. -/
def F.PMC_LOG_HEAD_NEXT : Fld := ⟨R.PMC_LOG_HEAD, 3, 0⟩
/-- PMC_WAKE_CFG. -/
def R.PMC_WAKE_CFG : RegDef := ⟨.pmc, 0x40030038, 1, 0x0, 1, 0x0, false,
  [⟨31, 31, .rw, .live, 0, []⟩,
   ⟨30, 30, .rw, .live, 1, []⟩,
   ⟨11, 0, .rw, .live, 0, []⟩]⟩
/-- PMC_WAKE_CFG.ITU_EN. -/
def F.PMC_WAKE_CFG_ITU_EN : Fld := ⟨R.PMC_WAKE_CFG, 31, 31⟩
/-- PMC_WAKE_CFG.PIN_EN. -/
def F.PMC_WAKE_CFG_PIN_EN : Fld := ⟨R.PMC_WAKE_CFG, 30, 30⟩
/-- PMC_WAKE_CFG.CAN. -/
def F.PMC_WAKE_CFG_CAN : Fld := ⟨R.PMC_WAKE_CFG, 11, 0⟩
/-- PMC_WAKE_ITU. -/
def R.PMC_WAKE_ITU : RegDef := ⟨.pmc, 0x40030040, 1, 0x0, 1, 0x0, true,
  [⟨63, 0, .rw, .live, 0, []⟩]⟩
/-- PMC_WAKE_ITU.COUNT. -/
def F.PMC_WAKE_ITU_COUNT : Fld := ⟨R.PMC_WAKE_ITU, 63, 0⟩
/-- PMC_CAUSE. -/
def R.PMC_CAUSE : RegDef := ⟨.pmc, 0x40030048, 1, 0x0, 1, 0x0, false,
  [⟨31, 24, .ro, .live, 0, []⟩,
   ⟨13, 12, .rw, .live, 0, [(0, 2)]⟩,
   ⟨11, 8, .ro, .live, 0, []⟩,
   ⟨7, 0, .ro, .live, 0, []⟩]⟩
/-- PMC_CAUSE.RESET. -/
def F.PMC_CAUSE_RESET : Fld := ⟨R.PMC_CAUSE, 31, 24⟩
/-- PMC_CAUSE.SLOT. -/
def F.PMC_CAUSE_SLOT : Fld := ⟨R.PMC_CAUSE, 13, 12⟩
/-- PMC_CAUSE.CAN. -/
def F.PMC_CAUSE_CAN : Fld := ⟨R.PMC_CAUSE, 11, 8⟩
/-- PMC_CAUSE.WAKE. -/
def F.PMC_CAUSE_WAKE : Fld := ⟨R.PMC_CAUSE, 7, 0⟩
/-- PMC_LOG. -/
def R.PMC_LOG : RegDef := ⟨.pmc, 0x40030100, 16, 0x8, 1, 0x0, true,
  [⟨63, 32, .ro, .live, 0, []⟩,
   ⟨31, 24, .ro, .live, 0, []⟩,
   ⟨23, 16, .ro, .live, 0, []⟩,
   ⟨15, 10, .ro, .live, 0, []⟩,
   ⟨9, 9, .ro, .live, 0, []⟩,
   ⟨7, 0, .ro, .live, 0, []⟩]⟩
/-- PMC_LOG.TIME. -/
def F.PMC_LOG_TIME : Fld := ⟨R.PMC_LOG, 63, 32⟩
/-- PMC_LOG.KIND. -/
def F.PMC_LOG_KIND : Fld := ⟨R.PMC_LOG, 31, 24⟩
/-- PMC_LOG.DETAIL. -/
def F.PMC_LOG_DETAIL : Fld := ⟨R.PMC_LOG, 23, 16⟩
/-- PMC_LOG.MASTER. -/
def F.PMC_LOG_MASTER : Fld := ⟨R.PMC_LOG, 15, 10⟩
/-- PMC_LOG.WORLD. -/
def F.PMC_LOG_WORLD : Fld := ⟨R.PMC_LOG, 9, 9⟩
/-- PMC_LOG.DOMAIN. -/
def F.PMC_LOG_DOMAIN : Fld := ⟨R.PMC_LOG, 7, 0⟩
/-- TE_PERF_CTL. -/
def R.TE_PERF_CTL : RegDef := ⟨.tep, 0x40108000, 16, 0x10000, 1, 0x0, false,
  [⟨8, 8, .rw, .live, 0, []⟩,
   ⟨7, 0, .rw, .live, 0, []⟩]⟩
/-- TE_PERF_CTL.FREEZE. -/
def F.TE_PERF_CTL_FREEZE : Fld := ⟨R.TE_PERF_CTL, 8, 8⟩
/-- TE_PERF_CTL.EN. -/
def F.TE_PERF_CTL_EN : Fld := ⟨R.TE_PERF_CTL, 7, 0⟩
/-- TE_PERF_STAT. -/
def R.TE_PERF_STAT : RegDef := ⟨.tep, 0x40108004, 16, 0x10000, 1, 0x0, false,
  [⟨7, 0, .w1c, .live, 0, []⟩]⟩
/-- TE_PERF_STAT.OVF. -/
def F.TE_PERF_STAT_OVF : Fld := ⟨R.TE_PERF_STAT, 7, 0⟩
/-- TE_PERF_SEL. -/
def R.TE_PERF_SEL : RegDef := ⟨.tep, 0x40108020, 16, 0x10000, 8, 0x4, false,
  [⟨31, 24, .rw, .live, 0xff, []⟩,
   ⟨9, 9, .rw, .live, 0, []⟩,
   ⟨8, 8, .rw, .live, 0, []⟩,
   ⟨7, 0, .rw, .live, 0, [(0, 26)]⟩]⟩
/-- TE_PERF_SEL.DRAWERS. -/
def F.TE_PERF_SEL_DRAWERS : Fld := ⟨R.TE_PERF_SEL, 31, 24⟩
/-- TE_PERF_SEL.OVF_INT. -/
def F.TE_PERF_SEL_OVF_INT : Fld := ⟨R.TE_PERF_SEL, 9, 9⟩
/-- TE_PERF_SEL.MODE. -/
def F.TE_PERF_SEL_MODE : Fld := ⟨R.TE_PERF_SEL, 8, 8⟩
/-- TE_PERF_SEL.EVENT. -/
def F.TE_PERF_SEL_EVENT : Fld := ⟨R.TE_PERF_SEL, 7, 0⟩
/-- TE_PERF_CNT. -/
def R.TE_PERF_CNT : RegDef := ⟨.tep, 0x40108040, 16, 0x10000, 8, 0x8, true,
  [⟨47, 0, .rw, .live, 0, []⟩]⟩
/-- TE_PERF_CNT.COUNT. -/
def F.TE_PERF_CNT_COUNT : Fld := ⟨R.TE_PERF_CNT, 47, 0⟩
/-- TE_PERF_SKID. -/
def R.TE_PERF_SKID : RegDef := ⟨.tep, 0x40108080, 16, 0x10000, 1, 0x0, false,
  [⟨31, 31, .w1c, .live, 0, []⟩,
   ⟨30, 30, .ro, .live, 0, []⟩,
   ⟨29, 27, .ro, .live, 0, []⟩,
   ⟨11, 0, .ro, .live, 0, []⟩]⟩
/-- TE_PERF_SKID.VALID. -/
def F.TE_PERF_SKID_VALID : Fld := ⟨R.TE_PERF_SKID, 31, 31⟩
/-- TE_PERF_SKID.DRAINED. -/
def F.TE_PERF_SKID_DRAINED : Fld := ⟨R.TE_PERF_SKID, 30, 30⟩
/-- TE_PERF_SKID.DRAWER. -/
def F.TE_PERF_SKID_DRAWER : Fld := ⟨R.TE_PERF_SKID, 29, 27⟩
/-- TE_PERF_SKID.WORD. -/
def F.TE_PERF_SKID_WORD : Fld := ⟨R.TE_PERF_SKID, 11, 0⟩
/-- TE_PSB_CFG. -/
def R.TE_PSB_CFG : RegDef := ⟨.tep, 0x40108090, 16, 0x10000, 1, 0x0, false,
  [⟨31, 31, .rw, .live, 0, []⟩,
   ⟨2, 0, .rw, .live, 0, []⟩]⟩
/-- TE_PSB_CFG.EN. -/
def F.TE_PSB_CFG_EN : Fld := ⟨R.TE_PSB_CFG, 31, 31⟩
/-- TE_PSB_CFG.TRIG. -/
def F.TE_PSB_CFG_TRIG : Fld := ⟨R.TE_PSB_CFG, 2, 0⟩
/-- TE_PSB_WR. -/
def R.TE_PSB_WR : RegDef := ⟨.tep, 0x40108094, 16, 0x10000, 1, 0x0, false,
  [⟨8, 0, .ro, .live, 0, []⟩]⟩
/-- TE_PSB_WR.WR. -/
def F.TE_PSB_WR_WR : Fld := ⟨R.TE_PSB_WR, 8, 0⟩
/-- TE_PSB_RD. -/
def R.TE_PSB_RD : RegDef := ⟨.tep, 0x40108098, 16, 0x10000, 1, 0x0, false,
  [⟨8, 0, .rw, .live, 0, []⟩]⟩
/-- TE_PSB_RD.RD. -/
def F.TE_PSB_RD_RD : Fld := ⟨R.TE_PSB_RD, 8, 0⟩
/-- TE_PSB_LOST. -/
def R.TE_PSB_LOST : RegDef := ⟨.tep, 0x4010809c, 16, 0x10000, 1, 0x0, false,
  [⟨31, 0, .rw, .live, 0, []⟩]⟩
/-- TE_PSB_LOST.LOST. -/
def F.TE_PSB_LOST_LOST : Fld := ⟨R.TE_PSB_LOST, 31, 0⟩
/-- TE_PERF_TIME. -/
def R.TE_PERF_TIME : RegDef := ⟨.tep, 0x401080a0, 16, 0x10000, 1, 0x0, true,
  [⟨63, 0, .ro, .live, 0, []⟩]⟩
/-- TE_PERF_TIME.CYCLES. -/
def F.TE_PERF_TIME_CYCLES : Fld := ⟨R.TE_PERF_TIME, 63, 0⟩
/-- DEV_ID. -/
def R.DEV_ID : RegDef := ⟨.glob, 0x40000000, 1, 0x0, 1, 0x0, false,
  [⟨31, 16, .ro, .live, 0x1632, []⟩,
   ⟨15, 8, .ro, .live, 0xa2, []⟩,
   ⟨7, 0, .ro, .live, 1, []⟩]⟩
/-- DEV_ID.PART. -/
def F.DEV_ID_PART : Fld := ⟨R.DEV_ID, 31, 16⟩
/-- DEV_ID.REV. -/
def F.DEV_ID_REV : Fld := ⟨R.DEV_ID, 15, 8⟩
/-- DEV_ID.VARIANT. -/
def F.DEV_ID_VARIANT : Fld := ⟨R.DEV_ID, 7, 0⟩
/-- DEV_FW. -/
def R.DEV_FW : RegDef := ⟨.glob, 0x40000004, 1, 0x0, 1, 0x0, false,
  [⟨31, 24, .ro, .live, 0, []⟩,
   ⟨23, 16, .ro, .live, 0, []⟩,
   ⟨15, 0, .ro, .live, 0, []⟩]⟩
/-- DEV_FW.MAJOR. -/
def F.DEV_FW_MAJOR : Fld := ⟨R.DEV_FW, 31, 24⟩
/-- DEV_FW.MINOR. -/
def F.DEV_FW_MINOR : Fld := ⟨R.DEV_FW, 23, 16⟩
/-- DEV_FW.BUILD. -/
def F.DEV_FW_BUILD : Fld := ⟨R.DEV_FW, 15, 0⟩
/-- DEV_STATUS. -/
def R.DEV_STATUS : RegDef := ⟨.glob, 0x40000008, 1, 0x0, 1, 0x0, false,
  [⟨31, 29, .ro, .live, 0, []⟩,
   ⟨28, 28, .ro, .live, 0, []⟩,
   ⟨27, 27, .ro, .live, 1, []⟩,
   ⟨26, 26, .ro, .live, 0, []⟩,
   ⟨25, 25, .ro, .live, 0, []⟩,
   ⟨24, 24, .ro, .live, 0, []⟩]⟩
/-- DEV_STATUS.PSTATE. -/
def F.DEV_STATUS_PSTATE : Fld := ⟨R.DEV_STATUS, 31, 29⟩
/-- DEV_STATUS.HOST_LOST. -/
def F.DEV_STATUS_HOST_LOST : Fld := ⟨R.DEV_STATUS, 28, 28⟩
/-- DEV_STATUS.FAULT_N. -/
def F.DEV_STATUS_FAULT_N : Fld := ⟨R.DEV_STATUS, 27, 27⟩
/-- DEV_STATUS.ISL_SPLIT. -/
def F.DEV_STATUS_ISL_SPLIT : Fld := ⟨R.DEV_STATUS, 26, 26⟩
/-- DEV_STATUS.WITHHELD. -/
def F.DEV_STATUS_WITHHELD : Fld := ⟨R.DEV_STATUS, 25, 25⟩
/-- DEV_STATUS.RECOVERY. -/
def F.DEV_STATUS_RECOVERY : Fld := ⟨R.DEV_STATUS, 24, 24⟩
/-- DEV_ERR_SUM. -/
def R.DEV_ERR_SUM : RegDef := ⟨.glob, 0x40000010, 1, 0x0, 1, 0x0, false,
  [⟨28, 28, .ro, .live, 0, []⟩,
   ⟨27, 27, .ro, .live, 0, []⟩,
   ⟨26, 26, .ro, .live, 0, []⟩,
   ⟨25, 25, .ro, .live, 0, []⟩,
   ⟨24, 24, .ro, .live, 0, []⟩,
   ⟨23, 23, .ro, .live, 0, []⟩,
   ⟨22, 22, .ro, .live, 0, []⟩,
   ⟨21, 21, .ro, .live, 0, []⟩,
   ⟨20, 20, .ro, .live, 0, []⟩,
   ⟨19, 19, .ro, .live, 0, []⟩,
   ⟨18, 18, .ro, .live, 0, []⟩,
   ⟨17, 17, .ro, .live, 0, []⟩,
   ⟨16, 16, .ro, .live, 0, []⟩,
   ⟨15, 0, .ro, .live, 0, []⟩]⟩
/-- DEV_ERR_SUM.HIF. -/
def F.DEV_ERR_SUM_HIF : Fld := ⟨R.DEV_ERR_SUM, 28, 28⟩
/-- DEV_ERR_SUM.QOS. -/
def F.DEV_ERR_SUM_QOS : Fld := ⟨R.DEV_ERR_SUM, 27, 27⟩
/-- DEV_ERR_SUM.IE. -/
def F.DEV_ERR_SUM_IE : Fld := ⟨R.DEV_ERR_SUM, 26, 26⟩
/-- DEV_ERR_SUM.ARB. -/
def F.DEV_ERR_SUM_ARB : Fld := ⟨R.DEV_ERR_SUM, 25, 25⟩
/-- DEV_ERR_SUM.BB. -/
def F.DEV_ERR_SUM_BB : Fld := ⟨R.DEV_ERR_SUM, 24, 24⟩
/-- DEV_ERR_SUM.PMC. -/
def F.DEV_ERR_SUM_PMC : Fld := ⟨R.DEV_ERR_SUM, 23, 23⟩
/-- DEV_ERR_SUM.GA. -/
def F.DEV_ERR_SUM_GA : Fld := ⟨R.DEV_ERR_SUM, 22, 22⟩
/-- DEV_ERR_SUM.VIO. -/
def F.DEV_ERR_SUM_VIO : Fld := ⟨R.DEV_ERR_SUM, 21, 21⟩
/-- DEV_ERR_SUM.SEC. -/
def F.DEV_ERR_SUM_SEC : Fld := ⟨R.DEV_ERR_SUM, 20, 20⟩
/-- DEV_ERR_SUM.MEM. -/
def F.DEV_ERR_SUM_MEM : Fld := ⟨R.DEV_ERR_SUM, 19, 19⟩
/-- DEV_ERR_SUM.SCH. -/
def F.DEV_ERR_SUM_SCH : Fld := ⟨R.DEV_ERR_SUM, 18, 18⟩
/-- DEV_ERR_SUM.SN. -/
def F.DEV_ERR_SUM_SN : Fld := ⟨R.DEV_ERR_SUM, 17, 17⟩
/-- DEV_ERR_SUM.CMU. -/
def F.DEV_ERR_SUM_CMU : Fld := ⟨R.DEV_ERR_SUM, 16, 16⟩
/-- DEV_ERR_SUM.TE. -/
def F.DEV_ERR_SUM_TE : Fld := ⟨R.DEV_ERR_SUM, 15, 0⟩
/-- DEV_CFGRUN. -/
def R.DEV_CFGRUN : RegDef := ⟨.glob, 0x40000014, 1, 0x0, 1, 0x0, false,
  [⟨28, 28, .ro, .live, 0, []⟩,
   ⟨27, 27, .ro, .live, 0, []⟩,
   ⟨26, 26, .ro, .live, 0, []⟩,
   ⟨25, 25, .ro, .live, 0, []⟩,
   ⟨24, 24, .ro, .live, 0, []⟩,
   ⟨23, 23, .ro, .live, 0, []⟩,
   ⟨22, 22, .ro, .live, 0, []⟩,
   ⟨21, 21, .ro, .live, 0, []⟩,
   ⟨20, 20, .ro, .live, 0, []⟩,
   ⟨19, 19, .ro, .live, 0, []⟩,
   ⟨18, 18, .ro, .live, 0, []⟩,
   ⟨17, 17, .ro, .live, 0, []⟩,
   ⟨16, 16, .ro, .live, 0, []⟩,
   ⟨15, 0, .ro, .live, 0, []⟩]⟩
/-- DEV_CFGRUN.HIF. -/
def F.DEV_CFGRUN_HIF : Fld := ⟨R.DEV_CFGRUN, 28, 28⟩
/-- DEV_CFGRUN.QOS. -/
def F.DEV_CFGRUN_QOS : Fld := ⟨R.DEV_CFGRUN, 27, 27⟩
/-- DEV_CFGRUN.IE. -/
def F.DEV_CFGRUN_IE : Fld := ⟨R.DEV_CFGRUN, 26, 26⟩
/-- DEV_CFGRUN.ARB. -/
def F.DEV_CFGRUN_ARB : Fld := ⟨R.DEV_CFGRUN, 25, 25⟩
/-- DEV_CFGRUN.BB. -/
def F.DEV_CFGRUN_BB : Fld := ⟨R.DEV_CFGRUN, 24, 24⟩
/-- DEV_CFGRUN.PMC. -/
def F.DEV_CFGRUN_PMC : Fld := ⟨R.DEV_CFGRUN, 23, 23⟩
/-- DEV_CFGRUN.GA. -/
def F.DEV_CFGRUN_GA : Fld := ⟨R.DEV_CFGRUN, 22, 22⟩
/-- DEV_CFGRUN.VIO. -/
def F.DEV_CFGRUN_VIO : Fld := ⟨R.DEV_CFGRUN, 21, 21⟩
/-- DEV_CFGRUN.SEC. -/
def F.DEV_CFGRUN_SEC : Fld := ⟨R.DEV_CFGRUN, 20, 20⟩
/-- DEV_CFGRUN.MEM. -/
def F.DEV_CFGRUN_MEM : Fld := ⟨R.DEV_CFGRUN, 19, 19⟩
/-- DEV_CFGRUN.SCH. -/
def F.DEV_CFGRUN_SCH : Fld := ⟨R.DEV_CFGRUN, 18, 18⟩
/-- DEV_CFGRUN.SN. -/
def F.DEV_CFGRUN_SN : Fld := ⟨R.DEV_CFGRUN, 17, 17⟩
/-- DEV_CFGRUN.CMU. -/
def F.DEV_CFGRUN_CMU : Fld := ⟨R.DEV_CFGRUN, 16, 16⟩
/-- DEV_CFGRUN.TE. -/
def F.DEV_CFGRUN_TE : Fld := ⟨R.DEV_CFGRUN, 15, 0⟩
/-- ARB_ERR. -/
def R.ARB_ERR : RegDef := ⟨.arb, 0x20001018, 1, 0x0, 1, 0x0, false,
  [⟨0, 0, .w1c, .live, 0, []⟩]⟩
/-- ARB_ERR.CFG_WHILE_RUN. -/
def F.ARB_ERR_CFG_WHILE_RUN : Fld := ⟨R.ARB_ERR, 0, 0⟩
/-- ISL_CMD_VEC. -/
def R.ISL_CMD_VEC : RegDef := ⟨.hif, 0x1000000020020, 1, 0x0, 1, 0x0, false,
  [⟨31, 0, .w1c, .live, 0, []⟩]⟩
/-- ISL_CMD_VEC.VEC. -/
def F.ISL_CMD_VEC_VEC : Fld := ⟨R.ISL_CMD_VEC, 31, 0⟩
/-- IE_JOB. -/
def R.IE_JOB : RegDef := ⟨.ie, 0x20023080, 1, 0x0, 1, 0x0, true,
  [⟨63, 63, .wo, .live, 0, []⟩,
   ⟨47, 0, .rw, .live, 0, []⟩]⟩
/-- IE_JOB.START. -/
def F.IE_JOB_START : Fld := ⟨R.IE_JOB, 63, 63⟩
/-- IE_JOB.ADDR. -/
def F.IE_JOB_ADDR : Fld := ⟨R.IE_JOB, 47, 0⟩
/-- CAN_CTRL. -/
def R.CAN_CTRL : RegDef := ⟨.can, 0x20010000, 12, 0x1000, 1, 0x0, false,
  [⟨31, 31, .rw, .live, 0, []⟩,
   ⟨30, 30, .rw, .static, 0, []⟩,
   ⟨29, 29, .wo, .live, 0, []⟩,
   ⟨28, 28, .rw, .static, 0, []⟩,
   ⟨1, 0, .rw, .static, 0, [(0, 2)]⟩]⟩
/-- CAN_CTRL.EN. -/
def F.CAN_CTRL_EN : Fld := ⟨R.CAN_CTRL, 31, 31⟩
/-- CAN_CTRL.AUTO_RECOV. -/
def F.CAN_CTRL_AUTO_RECOV : Fld := ⟨R.CAN_CTRL, 30, 30⟩
/-- CAN_CTRL.RESTART. -/
def F.CAN_CTRL_RESTART : Fld := ⟨R.CAN_CTRL, 29, 29⟩
/-- CAN_CTRL.LOOPBACK. -/
def F.CAN_CTRL_LOOPBACK : Fld := ⟨R.CAN_CTRL, 28, 28⟩
/-- CAN_CTRL.FORMAT. -/
def F.CAN_CTRL_FORMAT : Fld := ⟨R.CAN_CTRL, 1, 0⟩
/-- CAN_STAT. -/
def R.CAN_STAT : RegDef := ⟨.can, 0x20010004, 12, 0x1000, 1, 0x0, false,
  [⟨31, 30, .ro, .live, 0, []⟩,
   ⟨17, 17, .w1c, .live, 0, []⟩,
   ⟨16, 16, .w1c, .live, 0, []⟩,
   ⟨15, 8, .ro, .live, 0, []⟩,
   ⟨7, 0, .ro, .live, 0, []⟩]⟩
/-- CAN_STAT.STATE. -/
def F.CAN_STAT_STATE : Fld := ⟨R.CAN_STAT, 31, 30⟩
/-- CAN_STAT.CFG_WHILE_RUN. -/
def F.CAN_STAT_CFG_WHILE_RUN : Fld := ⟨R.CAN_STAT, 17, 17⟩
/-- CAN_STAT.RX_OVERRUN. -/
def F.CAN_STAT_RX_OVERRUN : Fld := ⟨R.CAN_STAT, 16, 16⟩
/-- CAN_STAT.REC. -/
def F.CAN_STAT_REC : Fld := ⟨R.CAN_STAT, 15, 8⟩
/-- CAN_STAT.TEC. -/
def F.CAN_STAT_TEC : Fld := ⟨R.CAN_STAT, 7, 0⟩
/-- CAN_NBT. -/
def R.CAN_NBT : RegDef := ⟨.can, 0x20010008, 12, 0x1000, 1, 0x0, false,
  [⟨31, 0, .rw, .static, 0, []⟩]⟩
/-- CAN_NBT.V. -/
def F.CAN_NBT_V : Fld := ⟨R.CAN_NBT, 31, 0⟩
/-- CAN_DBT. -/
def R.CAN_DBT : RegDef := ⟨.can, 0x2001000c, 12, 0x1000, 1, 0x0, false,
  [⟨31, 0, .rw, .static, 0, []⟩]⟩
/-- CAN_DBT.V. -/
def F.CAN_DBT_V : Fld := ⟨R.CAN_DBT, 31, 0⟩
/-- CAN_IRQ. -/
def R.CAN_IRQ : RegDef := ⟨.can, 0x20010010, 12, 0x1000, 1, 0x0, false,
  [⟨4, 0, .w1c, .live, 0, []⟩]⟩
/-- CAN_IRQ.IRQ. -/
def F.CAN_IRQ_IRQ : Fld := ⟨R.CAN_IRQ, 4, 0⟩
/-- CAN_IRQ_EN. -/
def R.CAN_IRQ_EN : RegDef := ⟨.can, 0x20010014, 12, 0x1000, 1, 0x0, false,
  [⟨4, 0, .rw, .live, 0, []⟩]⟩
/-- CAN_IRQ_EN.EN. -/
def F.CAN_IRQ_EN_EN : Fld := ⟨R.CAN_IRQ_EN, 4, 0⟩
/-- CAN_RX_BASE. -/
def R.CAN_RX_BASE : RegDef := ⟨.can, 0x20010020, 12, 0x1000, 1, 0x0, false,
  [⟨31, 0, .rw, .live, 0, []⟩]⟩
/-- CAN_RX_BASE.V. -/
def F.CAN_RX_BASE_V : Fld := ⟨R.CAN_RX_BASE, 31, 0⟩
/-- CAN_RX_LEN. -/
def R.CAN_RX_LEN : RegDef := ⟨.can, 0x20010024, 12, 0x1000, 1, 0x0, false,
  [⟨12, 0, .rw, .live, 0, [(1, 4096)]⟩]⟩
/-- CAN_RX_LEN.LEN. -/
def F.CAN_RX_LEN_LEN : Fld := ⟨R.CAN_RX_LEN, 12, 0⟩
/-- CAN_RX_HEAD. -/
def R.CAN_RX_HEAD : RegDef := ⟨.can, 0x20010028, 12, 0x1000, 1, 0x0, false,
  [⟨11, 0, .ro, .live, 0, []⟩]⟩
/-- CAN_RX_HEAD.HEAD. -/
def F.CAN_RX_HEAD_HEAD : Fld := ⟨R.CAN_RX_HEAD, 11, 0⟩
/-- CAN_RX_TAIL. -/
def R.CAN_RX_TAIL : RegDef := ⟨.can, 0x2001002c, 12, 0x1000, 1, 0x0, false,
  [⟨11, 0, .rw, .live, 0, []⟩]⟩
/-- CAN_RX_TAIL.TAIL. -/
def F.CAN_RX_TAIL_TAIL : Fld := ⟨R.CAN_RX_TAIL, 11, 0⟩
/-- CAN_TX_REQ. -/
def R.CAN_TX_REQ : RegDef := ⟨.can, 0x20010030, 12, 0x1000, 1, 0x0, false,
  [⟨31, 0, .rw, .live, 0, []⟩]⟩
/-- CAN_TX_REQ.REQ. -/
def F.CAN_TX_REQ_REQ : Fld := ⟨R.CAN_TX_REQ, 31, 0⟩
/-- CAN_TX_DONE. -/
def R.CAN_TX_DONE : RegDef := ⟨.can, 0x20010034, 12, 0x1000, 1, 0x0, false,
  [⟨31, 0, .w1c, .live, 0, []⟩]⟩
/-- CAN_TX_DONE.DONE. -/
def F.CAN_TX_DONE_DONE : Fld := ⟨R.CAN_TX_DONE, 31, 0⟩
/-- CAN_TX_ABORT. -/
def R.CAN_TX_ABORT : RegDef := ⟨.can, 0x20010038, 12, 0x1000, 1, 0x0, false,
  [⟨31, 0, .wo, .live, 0, []⟩]⟩
/-- CAN_TX_ABORT.ABORT. -/
def F.CAN_TX_ABORT_ABORT : Fld := ⟨R.CAN_TX_ABORT, 31, 0⟩
/-- CAN_TXBUF. -/
def R.CAN_TXBUF : RegDef := ⟨.can, 0x20010100, 12, 0x1000, 32, 0x4, false,
  [⟨31, 0, .rw, .live, 0, []⟩]⟩
/-- CAN_TXBUF.ADDR. -/
def F.CAN_TXBUF_ADDR : Fld := ⟨R.CAN_TXBUF, 31, 0⟩
/-- CAN_FILT_ID. -/
def R.CAN_FILT_ID : RegDef := ⟨.can, 0x20010400, 12, 0x1000, 128, 0x8, false,
  [⟨31, 31, .rw, .live, 0, []⟩,
   ⟨28, 0, .rw, .live, 0, []⟩]⟩
/-- CAN_FILT_ID.EN. -/
def F.CAN_FILT_ID_EN : Fld := ⟨R.CAN_FILT_ID, 31, 31⟩
/-- CAN_FILT_ID.ID. -/
def F.CAN_FILT_ID_ID : Fld := ⟨R.CAN_FILT_ID, 28, 0⟩
/-- CAN_FILT_MASK. -/
def R.CAN_FILT_MASK : RegDef := ⟨.can, 0x20010404, 12, 0x1000, 128, 0x8, false,
  [⟨31, 31, .rw, .live, 0, []⟩,
   ⟨28, 0, .rw, .live, 0, []⟩]⟩
/-- CAN_FILT_MASK.EXT. -/
def F.CAN_FILT_MASK_EXT : Fld := ⟨R.CAN_FILT_MASK, 31, 31⟩
/-- CAN_FILT_MASK.MASK. -/
def F.CAN_FILT_MASK_MASK : Fld := ⟨R.CAN_FILT_MASK, 28, 0⟩
/-- CAN_XBT. -/
def R.CAN_XBT : RegDef := ⟨.can, 0x2001a800, 2, 0x1000, 1, 0x0, false,
  [⟨31, 0, .rw, .static, 0, []⟩]⟩
/-- CAN_XBT.V. -/
def F.CAN_XBT_V : Fld := ⟨R.CAN_XBT, 31, 0⟩
/-- CAN_XPWM. -/
def R.CAN_XPWM : RegDef := ⟨.can, 0x2001a804, 2, 0x1000, 1, 0x0, false,
  [⟨31, 0, .rw, .static, 0, []⟩]⟩
/-- CAN_XPWM.V. -/
def F.CAN_XPWM_V : Fld := ⟨R.CAN_XPWM, 31, 0⟩
/-- LIN_CTRL. -/
def R.LIN_CTRL : RegDef := ⟨.lin, 0x20020000, 4, 0x400, 1, 0x0, false,
  [⟨31, 31, .rw, .live, 0, []⟩,
   ⟨30, 30, .rw, .static, 0, []⟩,
   ⟨29, 29, .rw, .static, 0, []⟩,
   ⟨15, 0, .rw, .static, 0, []⟩]⟩
/-- LIN_CTRL.EN. -/
def F.LIN_CTRL_EN : Fld := ⟨R.LIN_CTRL, 31, 31⟩
/-- LIN_CTRL.COMMANDER. -/
def F.LIN_CTRL_COMMANDER : Fld := ⟨R.LIN_CTRL, 30, 30⟩
/-- LIN_CTRL.ENHANCED. -/
def F.LIN_CTRL_ENHANCED : Fld := ⟨R.LIN_CTRL, 29, 29⟩
/-- LIN_CTRL.DIV. -/
def F.LIN_CTRL_DIV : Fld := ⟨R.LIN_CTRL, 15, 0⟩
/-- LIN_STAT. -/
def R.LIN_STAT : RegDef := ⟨.lin, 0x20020004, 4, 0x400, 1, 0x0, false,
  [⟨15, 15, .w1c, .live, 0, []⟩,
   ⟨5, 5, .w1c, .live, 0, []⟩,
   ⟨4, 4, .w1c, .live, 0, []⟩,
   ⟨3, 3, .w1c, .live, 0, []⟩,
   ⟨2, 2, .w1c, .live, 0, []⟩,
   ⟨1, 1, .w1c, .live, 0, []⟩,
   ⟨0, 0, .w1c, .live, 0, []⟩]⟩
/-- LIN_STAT.CFG_WHILE_RUN. -/
def F.LIN_STAT_CFG_WHILE_RUN : Fld := ⟨R.LIN_STAT, 15, 15⟩
/-- LIN_STAT.DONE. -/
def F.LIN_STAT_DONE : Fld := ⟨R.LIN_STAT, 5, 5⟩
/-- LIN_STAT.TIMEOUT. -/
def F.LIN_STAT_TIMEOUT : Fld := ⟨R.LIN_STAT, 4, 4⟩
/-- LIN_STAT.CHECKSUM. -/
def F.LIN_STAT_CHECKSUM : Fld := ⟨R.LIN_STAT, 3, 3⟩
/-- LIN_STAT.PARITY. -/
def F.LIN_STAT_PARITY : Fld := ⟨R.LIN_STAT, 2, 2⟩
/-- LIN_STAT.SYNC. -/
def F.LIN_STAT_SYNC : Fld := ⟨R.LIN_STAT, 1, 1⟩
/-- LIN_STAT.BREAK. -/
def F.LIN_STAT_BREAK : Fld := ⟨R.LIN_STAT, 0, 0⟩
/-- LIN_PID. -/
def R.LIN_PID : RegDef := ⟨.lin, 0x20020008, 4, 0x400, 1, 0x0, false,
  [⟨7, 0, .rw, .live, 0, []⟩]⟩
/-- LIN_PID.PID. -/
def F.LIN_PID_PID : Fld := ⟨R.LIN_PID, 7, 0⟩
/-- LIN_LEN. -/
def R.LIN_LEN : RegDef := ⟨.lin, 0x2002000c, 4, 0x400, 1, 0x0, false,
  [⟨3, 0, .rw, .live, 0, [(1, 8)]⟩]⟩
/-- LIN_LEN.LEN. -/
def F.LIN_LEN_LEN : Fld := ⟨R.LIN_LEN, 3, 0⟩
/-- LIN_DATA0. -/
def R.LIN_DATA0 : RegDef := ⟨.lin, 0x20020010, 4, 0x400, 1, 0x0, false,
  [⟨31, 0, .rw, .live, 0, []⟩]⟩
/-- LIN_DATA0.DATA. -/
def F.LIN_DATA0_DATA : Fld := ⟨R.LIN_DATA0, 31, 0⟩
/-- LIN_DATA1. -/
def R.LIN_DATA1 : RegDef := ⟨.lin, 0x20020014, 4, 0x400, 1, 0x0, false,
  [⟨31, 0, .rw, .live, 0, []⟩]⟩
/-- LIN_DATA1.DATA. -/
def F.LIN_DATA1_DATA : Fld := ⟨R.LIN_DATA1, 31, 0⟩
/-- LIN_START. -/
def R.LIN_START : RegDef := ⟨.lin, 0x2002001c, 4, 0x400, 1, 0x0, false,
  [⟨0, 0, .wo, .live, 0, []⟩]⟩
/-- LIN_START.START. -/
def F.LIN_START_START : Fld := ⟨R.LIN_START, 0, 0⟩
/-- GPIO_DIR. -/
def R.GPIO_DIR : RegDef := ⟨.gpio, 0x20021000, 1, 0x0, 1, 0x0, false,
  [⟨31, 0, .rw, .live, 0, []⟩]⟩
/-- GPIO_DIR.V. -/
def F.GPIO_DIR_V : Fld := ⟨R.GPIO_DIR, 31, 0⟩
/-- GPIO_OUT. -/
def R.GPIO_OUT : RegDef := ⟨.gpio, 0x20021004, 1, 0x0, 1, 0x0, false,
  [⟨31, 0, .rw, .live, 0, []⟩]⟩
/-- GPIO_OUT.V. -/
def F.GPIO_OUT_V : Fld := ⟨R.GPIO_OUT, 31, 0⟩
/-- GPIO_RISE_EN. -/
def R.GPIO_RISE_EN : RegDef := ⟨.gpio, 0x20021010, 1, 0x0, 1, 0x0, false,
  [⟨31, 0, .rw, .live, 0, []⟩]⟩
/-- GPIO_RISE_EN.V. -/
def F.GPIO_RISE_EN_V : Fld := ⟨R.GPIO_RISE_EN, 31, 0⟩
/-- GPIO_FALL_EN. -/
def R.GPIO_FALL_EN : RegDef := ⟨.gpio, 0x20021014, 1, 0x0, 1, 0x0, false,
  [⟨31, 0, .rw, .live, 0, []⟩]⟩
/-- GPIO_FALL_EN.V. -/
def F.GPIO_FALL_EN_V : Fld := ⟨R.GPIO_FALL_EN, 31, 0⟩
/-- GPIO_IN. -/
def R.GPIO_IN : RegDef := ⟨.gpio, 0x20021008, 1, 0x0, 1, 0x0, false,
  [⟨31, 0, .ro, .live, 0, []⟩]⟩
/-- GPIO_IN.V. -/
def F.GPIO_IN_V : Fld := ⟨R.GPIO_IN, 31, 0⟩
/-- GPIO_IRQ. -/
def R.GPIO_IRQ : RegDef := ⟨.gpio, 0x20021018, 1, 0x0, 1, 0x0, false,
  [⟨31, 0, .w1c, .live, 0, []⟩]⟩
/-- GPIO_IRQ.V. -/
def F.GPIO_IRQ_V : Fld := ⟨R.GPIO_IRQ, 31, 0⟩
/-- GPIO_DEB. -/
def R.GPIO_DEB : RegDef := ⟨.gpio, 0x20021100, 32, 0x4, 1, 0x0, false,
  [⟨9, 0, .rw, .live, 0, [(0, 1000)]⟩]⟩
/-- GPIO_DEB.US. -/
def F.GPIO_DEB_US : Fld := ⟨R.GPIO_DEB, 9, 0⟩
/-- TMR_CTRL. -/
def R.TMR_CTRL : RegDef := ⟨.tmr, 0x20022000, 8, 0x20, 1, 0x0, false,
  [⟨1, 1, .rw, .live, 0, []⟩,
   ⟨0, 0, .rw, .live, 0, []⟩]⟩
/-- TMR_CTRL.PERIODIC. -/
def F.TMR_CTRL_PERIODIC : Fld := ⟨R.TMR_CTRL, 1, 1⟩
/-- TMR_CTRL.EN. -/
def F.TMR_CTRL_EN : Fld := ⟨R.TMR_CTRL, 0, 0⟩
/-- TMR_CMP. -/
def R.TMR_CMP : RegDef := ⟨.tmr, 0x20022008, 8, 0x20, 1, 0x0, true,
  [⟨63, 0, .rw, .live, 0, []⟩]⟩
/-- TMR_CMP.CMP. -/
def F.TMR_CMP_CMP : Fld := ⟨R.TMR_CMP, 63, 0⟩
/-- TMR_PERIOD. -/
def R.TMR_PERIOD : RegDef := ⟨.tmr, 0x20022010, 8, 0x20, 1, 0x0, false,
  [⟨31, 0, .rw, .live, 0, []⟩]⟩
/-- TMR_PERIOD.PERIOD. -/
def F.TMR_PERIOD_PERIOD : Fld := ⟨R.TMR_PERIOD, 31, 0⟩
/-- TMR_IRQ. -/
def R.TMR_IRQ : RegDef := ⟨.tmr, 0x20022018, 8, 0x20, 1, 0x0, false,
  [⟨0, 0, .w1c, .live, 0, []⟩]⟩
/-- TMR_IRQ.IRQ. -/
def F.TMR_IRQ_IRQ : Fld := ⟨R.TMR_IRQ, 0, 0⟩
/-- XSPI_CFG. -/
def R.XSPI_CFG : RegDef := ⟨.xspi, 0x400b0000, 1, 0x0, 1, 0x0, false,
  [⟨31, 31, .rw, .live, 0, []⟩,
   ⟨30, 30, .rw, .static, 0, []⟩,
   ⟨29, 24, .rw, .static, 0, [(5, 40)]⟩,
   ⟨23, 16, .rw, .static, 0, []⟩,
   ⟨7, 0, .rw, .static, 0, []⟩]⟩
/-- XSPI_CFG.EN. -/
def F.XSPI_CFG_EN : Fld := ⟨R.XSPI_CFG, 31, 31⟩
/-- XSPI_CFG.PROTO. -/
def F.XSPI_CFG_PROTO : Fld := ⟨R.XSPI_CFG, 30, 30⟩
/-- XSPI_CFG.DIV. -/
def F.XSPI_CFG_DIV : Fld := ⟨R.XSPI_CFG, 29, 24⟩
/-- XSPI_CFG.DUMMY. -/
def F.XSPI_CFG_DUMMY : Fld := ⟨R.XSPI_CFG, 23, 16⟩
/-- XSPI_CFG.READ_OP. -/
def F.XSPI_CFG_READ_OP : Fld := ⟨R.XSPI_CFG, 7, 0⟩
/-- XSPI_CMD. -/
def R.XSPI_CMD : RegDef := ⟨.xspi, 0x400b0010, 1, 0x0, 1, 0x0, false,
  [⟨31, 31, .wo, .live, 0, []⟩,
   ⟨29, 28, .rw, .live, 0, []⟩,
   ⟨27, 26, .rw, .live, 0, [(0, 2)]⟩,
   ⟨23, 16, .rw, .live, 0, []⟩,
   ⟨7, 0, .rw, .live, 0, []⟩]⟩
/-- XSPI_CMD.GO. -/
def F.XSPI_CMD_GO : Fld := ⟨R.XSPI_CMD, 31, 31⟩
/-- XSPI_CMD.KIND. -/
def F.XSPI_CMD_KIND : Fld := ⟨R.XSPI_CMD, 29, 28⟩
/-- XSPI_CMD.ADDR_BYTES. -/
def F.XSPI_CMD_ADDR_BYTES : Fld := ⟨R.XSPI_CMD, 27, 26⟩
/-- XSPI_CMD.DUMMY. -/
def F.XSPI_CMD_DUMMY : Fld := ⟨R.XSPI_CMD, 23, 16⟩
/-- XSPI_CMD.OPCODE. -/
def F.XSPI_CMD_OPCODE : Fld := ⟨R.XSPI_CMD, 7, 0⟩
/-- XSPI_ADDR. -/
def R.XSPI_ADDR : RegDef := ⟨.xspi, 0x400b0014, 1, 0x0, 1, 0x0, false,
  [⟨31, 0, .rw, .live, 0, []⟩]⟩
/-- XSPI_ADDR.ADDR. -/
def F.XSPI_ADDR_ADDR : Fld := ⟨R.XSPI_ADDR, 31, 0⟩
/-- XSPI_LEN. -/
def R.XSPI_LEN : RegDef := ⟨.xspi, 0x400b0018, 1, 0x0, 1, 0x0, false,
  [⟨8, 0, .rw, .live, 0, [(0, 256)]⟩]⟩
/-- XSPI_LEN.LEN. -/
def F.XSPI_LEN_LEN : Fld := ⟨R.XSPI_LEN, 8, 0⟩
/-- XSPI_STAT. -/
def R.XSPI_STAT : RegDef := ⟨.xspi, 0x400b001c, 1, 0x0, 1, 0x0, false,
  [⟨31, 31, .ro, .live, 0, []⟩,
   ⟨3, 3, .w1c, .live, 0, []⟩,
   ⟨2, 2, .w1c, .live, 0, []⟩,
   ⟨1, 1, .w1c, .live, 0, []⟩,
   ⟨0, 0, .w1c, .live, 0, []⟩]⟩
/-- XSPI_STAT.BUSY. -/
def F.XSPI_STAT_BUSY : Fld := ⟨R.XSPI_STAT, 31, 31⟩
/-- XSPI_STAT.CFG_WHILE_RUN. -/
def F.XSPI_STAT_CFG_WHILE_RUN : Fld := ⟨R.XSPI_STAT, 3, 3⟩
/-- XSPI_STAT.PROT_REJ. -/
def F.XSPI_STAT_PROT_REJ : Fld := ⟨R.XSPI_STAT, 2, 2⟩
/-- XSPI_STAT.REJ_MASTER. -/
def F.XSPI_STAT_REJ_MASTER : Fld := ⟨R.XSPI_STAT, 1, 1⟩
/-- XSPI_STAT.DONE. -/
def F.XSPI_STAT_DONE : Fld := ⟨R.XSPI_STAT, 0, 0⟩
/-- XSPI_ERASE. -/
def R.XSPI_ERASE : RegDef := ⟨.xspi, 0x400b0020, 1, 0x0, 1, 0x0, false,
  [⟨4, 0, .rw, .static, 0, [(12, 18)]⟩]⟩
/-- XSPI_ERASE.UNIT. -/
def F.XSPI_ERASE_UNIT : Fld := ⟨R.XSPI_ERASE, 4, 0⟩
/-- XSPI_DATA. -/
def R.XSPI_DATA : RegDef := ⟨.xspi, 0x400b0100, 64, 0x4, 1, 0x0, false,
  [⟨31, 0, .rw, .live, 0, []⟩]⟩
/-- XSPI_DATA.DATA. -/
def F.XSPI_DATA_DATA : Fld := ⟨R.XSPI_DATA, 31, 0⟩
/-- EMMC_CFG. -/
def R.EMMC_CFG : RegDef := ⟨.emmc, 0x400b8000, 1, 0x0, 1, 0x0, false,
  [⟨31, 31, .rw, .live, 0, []⟩,
   ⟨29, 28, .rw, .static, 0, [(0, 2)]⟩,
   ⟨7, 0, .rw, .static, 0, []⟩]⟩
/-- EMMC_CFG.EN. -/
def F.EMMC_CFG_EN : Fld := ⟨R.EMMC_CFG, 31, 31⟩
/-- EMMC_CFG.MODE. -/
def F.EMMC_CFG_MODE : Fld := ⟨R.EMMC_CFG, 29, 28⟩
/-- EMMC_CFG.DIV. -/
def F.EMMC_CFG_DIV : Fld := ⟨R.EMMC_CFG, 7, 0⟩
/-- EMMC_CMD. -/
def R.EMMC_CMD : RegDef := ⟨.emmc, 0x400b8004, 1, 0x0, 1, 0x0, false,
  [⟨31, 31, .wo, .live, 0, []⟩,
   ⟨29, 24, .rw, .live, 0, []⟩,
   ⟨23, 23, .rw, .live, 0, []⟩,
   ⟨22, 22, .rw, .live, 0, []⟩,
   ⟨21, 20, .rw, .live, 0, []⟩]⟩
/-- EMMC_CMD.GO. -/
def F.EMMC_CMD_GO : Fld := ⟨R.EMMC_CMD, 31, 31⟩
/-- EMMC_CMD.INDEX. -/
def F.EMMC_CMD_INDEX : Fld := ⟨R.EMMC_CMD, 29, 24⟩
/-- EMMC_CMD.DATA. -/
def F.EMMC_CMD_DATA : Fld := ⟨R.EMMC_CMD, 23, 23⟩
/-- EMMC_CMD.WRITE. -/
def F.EMMC_CMD_WRITE : Fld := ⟨R.EMMC_CMD, 22, 22⟩
/-- EMMC_CMD.RESPONSE. -/
def F.EMMC_CMD_RESPONSE : Fld := ⟨R.EMMC_CMD, 21, 20⟩
/-- EMMC_ARG. -/
def R.EMMC_ARG : RegDef := ⟨.emmc, 0x400b8008, 1, 0x0, 1, 0x0, false,
  [⟨31, 0, .rw, .live, 0, []⟩]⟩
/-- EMMC_ARG.ARG. -/
def F.EMMC_ARG_ARG : Fld := ⟨R.EMMC_ARG, 31, 0⟩
/-- EMMC_RESP. -/
def R.EMMC_RESP : RegDef := ⟨.emmc, 0x400b8010, 4, 0x4, 1, 0x0, false,
  [⟨31, 0, .ro, .live, 0, []⟩]⟩
/-- EMMC_RESP.RESP. -/
def F.EMMC_RESP_RESP : Fld := ⟨R.EMMC_RESP, 31, 0⟩
/-- EMMC_DMA. -/
def R.EMMC_DMA : RegDef := ⟨.emmc, 0x400b8020, 1, 0x0, 1, 0x0, true,
  [⟨47, 0, .rw, .live, 0, []⟩]⟩
/-- EMMC_DMA.ADDR. -/
def F.EMMC_DMA_ADDR : Fld := ⟨R.EMMC_DMA, 47, 0⟩
/-- EMMC_BLKCNT. -/
def R.EMMC_BLKCNT : RegDef := ⟨.emmc, 0x400b8028, 1, 0x0, 1, 0x0, false,
  [⟨15, 0, .rw, .live, 0, [(1, 65535)]⟩]⟩
/-- EMMC_BLKCNT.CNT. -/
def F.EMMC_BLKCNT_CNT : Fld := ⟨R.EMMC_BLKCNT, 15, 0⟩
/-- EMMC_STAT. -/
def R.EMMC_STAT : RegDef := ⟨.emmc, 0x400b802c, 1, 0x0, 1, 0x0, false,
  [⟨31, 31, .ro, .live, 0, []⟩,
   ⟨5, 5, .w1c, .live, 0, []⟩,
   ⟨4, 4, .w1c, .live, 0, []⟩,
   ⟨3, 3, .w1c, .live, 0, []⟩,
   ⟨2, 2, .w1c, .live, 0, []⟩,
   ⟨1, 1, .w1c, .live, 0, []⟩,
   ⟨0, 0, .w1c, .live, 0, []⟩]⟩
/-- EMMC_STAT.BUSY. -/
def F.EMMC_STAT_BUSY : Fld := ⟨R.EMMC_STAT, 31, 31⟩
/-- EMMC_STAT.CFG_WHILE_RUN. -/
def F.EMMC_STAT_CFG_WHILE_RUN : Fld := ⟨R.EMMC_STAT, 5, 5⟩
/-- EMMC_STAT.REJ. -/
def F.EMMC_STAT_REJ : Fld := ⟨R.EMMC_STAT, 4, 4⟩
/-- EMMC_STAT.DATA_CRC. -/
def F.EMMC_STAT_DATA_CRC : Fld := ⟨R.EMMC_STAT, 3, 3⟩
/-- EMMC_STAT.CMD_CRC. -/
def F.EMMC_STAT_CMD_CRC : Fld := ⟨R.EMMC_STAT, 2, 2⟩
/-- EMMC_STAT.TIMEOUT. -/
def F.EMMC_STAT_TIMEOUT : Fld := ⟨R.EMMC_STAT, 1, 1⟩
/-- EMMC_STAT.DONE. -/
def F.EMMC_STAT_DONE : Fld := ⟨R.EMMC_STAT, 0, 0⟩
/-- HB_CFG. -/
def R.HB_CFG : RegDef := ⟨.hb, 0x20024000, 2, 0x800, 1, 0x0, false,
  [⟨31, 31, .rw, .live, 0, []⟩,
   ⟨30, 30, .rw, .static, 0, []⟩,
   ⟨19, 16, .rw, .static, 0, [(3, 7)]⟩,
   ⟨2, 0, .rw, .static, 0, []⟩]⟩
/-- HB_CFG.EN. -/
def F.HB_CFG_EN : Fld := ⟨R.HB_CFG, 31, 31⟩
/-- HB_CFG.FIXED_LAT. -/
def F.HB_CFG_FIXED_LAT : Fld := ⟨R.HB_CFG, 30, 30⟩
/-- HB_CFG.LATENCY. -/
def F.HB_CFG_LATENCY : Fld := ⟨R.HB_CFG, 19, 16⟩
/-- HB_CFG.DRIVE. -/
def F.HB_CFG_DRIVE : Fld := ⟨R.HB_CFG, 2, 0⟩
/-- HB_STAT. -/
def R.HB_STAT : RegDef := ⟨.hb, 0x20024004, 2, 0x800, 1, 0x0, false,
  [⟨31, 31, .ro, .live, 0, []⟩,
   ⟨2, 2, .w1c, .live, 0, []⟩,
   ⟨1, 1, .w1c, .live, 0, []⟩,
   ⟨0, 0, .w1c, .live, 0, []⟩]⟩
/-- HB_STAT.READY. -/
def F.HB_STAT_READY : Fld := ⟨R.HB_STAT, 31, 31⟩
/-- HB_STAT.CFG_WHILE_RUN. -/
def F.HB_STAT_CFG_WHILE_RUN : Fld := ⟨R.HB_STAT, 2, 2⟩
/-- HB_STAT.CRC_FAIL. -/
def F.HB_STAT_CRC_FAIL : Fld := ⟨R.HB_STAT, 1, 1⟩
/-- HB_STAT.CRC_REPEAT. -/
def F.HB_STAT_CRC_REPEAT : Fld := ⟨R.HB_STAT, 0, 0⟩
/-- HB_REPEAT_CNT. -/
def R.HB_REPEAT_CNT : RegDef := ⟨.hb, 0x20024008, 2, 0x800, 1, 0x0, false,
  [⟨31, 0, .ro, .live, 0, []⟩]⟩
/-- HB_REPEAT_CNT.CNT. -/
def F.HB_REPEAT_CNT_CNT : Fld := ⟨R.HB_REPEAT_CNT, 31, 0⟩
/-- HB_FAIL_CNT. -/
def R.HB_FAIL_CNT : RegDef := ⟨.hb, 0x2002400c, 2, 0x800, 1, 0x0, false,
  [⟨31, 0, .ro, .live, 0, []⟩]⟩
/-- HB_FAIL_CNT.CNT. -/
def F.HB_FAIL_CNT_CNT : Fld := ⟨R.HB_FAIL_CNT, 31, 0⟩
/-- HB_ERR_ADDR. -/
def R.HB_ERR_ADDR : RegDef := ⟨.hb, 0x20024010, 2, 0x800, 1, 0x0, false,
  [⟨31, 31, .w1c, .live, 0, []⟩,
   ⟨27, 0, .ro, .live, 0, []⟩]⟩
/-- HB_ERR_ADDR.VALID. -/
def F.HB_ERR_ADDR_VALID : Fld := ⟨R.HB_ERR_ADDR, 31, 31⟩
/-- HB_ERR_ADDR.OFFSET. -/
def F.HB_ERR_ADDR_OFFSET : Fld := ⟨R.HB_ERR_ADDR, 27, 0⟩
/-- ETH_CFG. -/
def R.ETH_CFG : RegDef := ⟨.eth, 0x20025000, 1, 0x0, 1, 0x0, false,
  [⟨31, 31, .rw, .live, 0, []⟩,
   ⟨30, 30, .rw, .static, 0, []⟩]⟩
/-- ETH_CFG.EN. -/
def F.ETH_CFG_EN : Fld := ⟨R.ETH_CFG, 31, 31⟩
/-- ETH_CFG.PROMISC. -/
def F.ETH_CFG_PROMISC : Fld := ⟨R.ETH_CFG, 30, 30⟩
/-- ETH_ADDR_LO. -/
def R.ETH_ADDR_LO : RegDef := ⟨.eth, 0x20025008, 1, 0x0, 1, 0x0, false,
  [⟨31, 0, .rw, .static, 0, []⟩]⟩
/-- ETH_ADDR_LO.V. -/
def F.ETH_ADDR_LO_V : Fld := ⟨R.ETH_ADDR_LO, 31, 0⟩
/-- ETH_ADDR_HI. -/
def R.ETH_ADDR_HI : RegDef := ⟨.eth, 0x2002500c, 1, 0x0, 1, 0x0, false,
  [⟨15, 0, .rw, .static, 0, []⟩]⟩
/-- ETH_ADDR_HI.V. -/
def F.ETH_ADDR_HI_V : Fld := ⟨R.ETH_ADDR_HI, 15, 0⟩
/-- ETH_RX_BASE. -/
def R.ETH_RX_BASE : RegDef := ⟨.eth, 0x20025010, 1, 0x0, 1, 0x0, false,
  [⟨31, 0, .rw, .static, 0, []⟩]⟩
/-- ETH_RX_BASE.BASE. -/
def F.ETH_RX_BASE_BASE : Fld := ⟨R.ETH_RX_BASE, 31, 0⟩
/-- ETH_RX_LEN. -/
def R.ETH_RX_LEN : RegDef := ⟨.eth, 0x20025014, 1, 0x0, 1, 0x0, false,
  [⟨10, 0, .rw, .static, 0, [(1, 1024)]⟩]⟩
/-- ETH_RX_LEN.LEN. -/
def F.ETH_RX_LEN_LEN : Fld := ⟨R.ETH_RX_LEN, 10, 0⟩
/-- ETH_RX_HEAD. -/
def R.ETH_RX_HEAD : RegDef := ⟨.eth, 0x20025018, 1, 0x0, 1, 0x0, false,
  [⟨9, 0, .ro, .live, 0, []⟩]⟩
/-- ETH_RX_HEAD.HEAD. -/
def F.ETH_RX_HEAD_HEAD : Fld := ⟨R.ETH_RX_HEAD, 9, 0⟩
/-- ETH_RX_TAIL. -/
def R.ETH_RX_TAIL : RegDef := ⟨.eth, 0x2002501c, 1, 0x0, 1, 0x0, false,
  [⟨9, 0, .rw, .live, 0, []⟩]⟩
/-- ETH_RX_TAIL.TAIL. -/
def F.ETH_RX_TAIL_TAIL : Fld := ⟨R.ETH_RX_TAIL, 9, 0⟩
/-- ETH_TX_BASE. -/
def R.ETH_TX_BASE : RegDef := ⟨.eth, 0x20025020, 1, 0x0, 1, 0x0, false,
  [⟨31, 0, .rw, .static, 0, []⟩]⟩
/-- ETH_TX_BASE.BASE. -/
def F.ETH_TX_BASE_BASE : Fld := ⟨R.ETH_TX_BASE, 31, 0⟩
/-- ETH_TX_LEN. -/
def R.ETH_TX_LEN : RegDef := ⟨.eth, 0x20025024, 1, 0x0, 1, 0x0, false,
  [⟨10, 0, .rw, .static, 0, [(1, 1024)]⟩]⟩
/-- ETH_TX_LEN.LEN. -/
def F.ETH_TX_LEN_LEN : Fld := ⟨R.ETH_TX_LEN, 10, 0⟩
/-- ETH_TX_HEAD. -/
def R.ETH_TX_HEAD : RegDef := ⟨.eth, 0x20025028, 1, 0x0, 1, 0x0, false,
  [⟨9, 0, .ro, .live, 0, []⟩]⟩
/-- ETH_TX_HEAD.HEAD. -/
def F.ETH_TX_HEAD_HEAD : Fld := ⟨R.ETH_TX_HEAD, 9, 0⟩
/-- ETH_TX_TAIL. -/
def R.ETH_TX_TAIL : RegDef := ⟨.eth, 0x2002502c, 1, 0x0, 1, 0x0, false,
  [⟨9, 0, .rw, .live, 0, []⟩]⟩
/-- ETH_TX_TAIL.TAIL. -/
def F.ETH_TX_TAIL_TAIL : Fld := ⟨R.ETH_TX_TAIL, 9, 0⟩
/-- ETH_IRQ. -/
def R.ETH_IRQ : RegDef := ⟨.eth, 0x20025030, 1, 0x0, 1, 0x0, false,
  [⟨4, 4, .w1c, .live, 0, []⟩,
   ⟨3, 0, .w1c, .live, 0, []⟩]⟩
/-- ETH_IRQ.CFG_WHILE_RUN. -/
def F.ETH_IRQ_CFG_WHILE_RUN : Fld := ⟨R.ETH_IRQ, 4, 4⟩
/-- ETH_IRQ.IRQ. -/
def F.ETH_IRQ_IRQ : Fld := ⟨R.ETH_IRQ, 3, 0⟩
/-- ETH_IRQ_EN. -/
def R.ETH_IRQ_EN : RegDef := ⟨.eth, 0x20025034, 1, 0x0, 1, 0x0, false,
  [⟨4, 0, .rw, .live, 0, []⟩]⟩
/-- ETH_IRQ_EN.EN. -/
def F.ETH_IRQ_EN_EN : Fld := ⟨R.ETH_IRQ_EN, 4, 0⟩
/-- ETH_RX_DROP. -/
def R.ETH_RX_DROP : RegDef := ⟨.eth, 0x20025040, 1, 0x0, 1, 0x0, false,
  [⟨31, 0, .ro, .live, 0, []⟩]⟩
/-- ETH_RX_DROP.CNT. -/
def F.ETH_RX_DROP_CNT : Fld := ⟨R.ETH_RX_DROP, 31, 0⟩
/-- DBG_CTRL. -/
def R.DBG_CTRL : RegDef := ⟨.dbg, 0x400d0000, 1, 0x0, 1, 0x0, false,
  [⟨31, 31, .rw, .live, 0, []⟩,
   ⟨30, 30, .rw, .live, 0, []⟩,
   ⟨29, 29, .ro, .live, 0, []⟩,
   ⟨7, 0, .rw, .live, 0, []⟩]⟩
/-- DBG_CTRL.JTAG_EN. -/
def F.DBG_CTRL_JTAG_EN : Fld := ⟨R.DBG_CTRL, 31, 31⟩
/-- DBG_CTRL.TRACE_EN. -/
def F.DBG_CTRL_TRACE_EN : Fld := ⟨R.DBG_CTRL, 30, 30⟩
/-- DBG_CTRL.SECURE. -/
def F.DBG_CTRL_SECURE : Fld := ⟨R.DBG_CTRL, 29, 29⟩
/-- DBG_CTRL.TRACE_SRC. -/
def F.DBG_CTRL_TRACE_SRC : Fld := ⟨R.DBG_CTRL, 7, 0⟩
/-- DBG_STAT. -/
def R.DBG_STAT : RegDef := ⟨.dbg, 0x400d0004, 1, 0x0, 1, 0x0, false,
  [⟨31, 31, .ro, .live, 0, []⟩,
   ⟨0, 0, .w1c, .live, 0, []⟩]⟩
/-- DBG_STAT.ATTACHED. -/
def F.DBG_STAT_ATTACHED : Fld := ⟨R.DBG_STAT, 31, 31⟩
/-- DBG_STAT.DENIED. -/
def F.DBG_STAT_DENIED : Fld := ⟨R.DBG_STAT, 0, 0⟩
/-- DBG_TRACE_DIV. -/
def R.DBG_TRACE_DIV : RegDef := ⟨.dbg, 0x400d0010, 1, 0x0, 1, 0x0, false,
  [⟨3, 0, .rw, .live, 0, []⟩]⟩
/-- DBG_TRACE_DIV.DIV. -/
def F.DBG_TRACE_DIV_DIV : Fld := ⟨R.DBG_TRACE_DIV, 3, 0⟩
/-- SW_CTRL. -/
def R.SW_CTRL : RegDef := ⟨.sw, 0x40200000, 1, 0x0, 1, 0x0, false,
  [⟨31, 31, .rw, .live, 0, []⟩,
   ⟨30, 30, .rw, .live, 0, []⟩]⟩
/-- SW_CTRL.EN. -/
def F.SW_CTRL_EN : Fld := ⟨R.SW_CTRL, 31, 31⟩
/-- SW_CTRL.VLAN_AWARE. -/
def F.SW_CTRL_VLAN_AWARE : Fld := ⟨R.SW_CTRL, 30, 30⟩
/-- SW_STAT. -/
def R.SW_STAT : RegDef := ⟨.sw, 0x40200004, 1, 0x0, 1, 0x0, false,
  [⟨31, 31, .ro, .live, 0, []⟩,
   ⟨0, 0, .w1c, .live, 0, []⟩]⟩
/-- SW_STAT.BUSY. -/
def F.SW_STAT_BUSY : Fld := ⟨R.SW_STAT, 31, 31⟩
/-- SW_STAT.PTP_OVF. -/
def F.SW_STAT_PTP_OVF : Fld := ⟨R.SW_STAT, 0, 0⟩
/-- SW_PTP_TS. -/
def R.SW_PTP_TS : RegDef := ⟨.sw, 0x40200100, 4, 0x4, 1, 0x0, false,
  [⟨31, 0, .ro, .live, 0, []⟩]⟩
/-- SW_PTP_TS.TS. -/
def F.SW_PTP_TS_TS : Fld := ⟨R.SW_PTP_TS, 31, 0⟩
/-- SW_FDB_CMD. -/
def R.SW_FDB_CMD : RegDef := ⟨.sw, 0x40201000, 1, 0x0, 1, 0x0, false,
  [⟨31, 31, .wo, .live, 0, []⟩,
   ⟨30, 30, .ro, .live, 0, []⟩,
   ⟨29, 28, .rw, .live, 0, []⟩,
   ⟨12, 0, .rw, .live, 0, []⟩]⟩
/-- SW_FDB_CMD.GO. -/
def F.SW_FDB_CMD_GO : Fld := ⟨R.SW_FDB_CMD, 31, 31⟩
/-- SW_FDB_CMD.BUSY. -/
def F.SW_FDB_CMD_BUSY : Fld := ⟨R.SW_FDB_CMD, 30, 30⟩
/-- SW_FDB_CMD.OP. -/
def F.SW_FDB_CMD_OP : Fld := ⟨R.SW_FDB_CMD, 29, 28⟩
/-- SW_FDB_CMD.INDEX. -/
def F.SW_FDB_CMD_INDEX : Fld := ⟨R.SW_FDB_CMD, 12, 0⟩
/-- SW_FDB_DATA. -/
def R.SW_FDB_DATA : RegDef := ⟨.sw, 0x40201010, 4, 0x4, 1, 0x0, false,
  [⟨31, 0, .rw, .live, 0, []⟩]⟩
/-- SW_FDB_DATA.DATA. -/
def F.SW_FDB_DATA_DATA : Fld := ⟨R.SW_FDB_DATA, 31, 0⟩
/-- SW_VLAN_CMD. -/
def R.SW_VLAN_CMD : RegDef := ⟨.sw, 0x40202000, 1, 0x0, 1, 0x0, false,
  [⟨31, 31, .wo, .live, 0, []⟩,
   ⟨30, 30, .ro, .live, 0, []⟩,
   ⟨29, 28, .rw, .live, 0, []⟩,
   ⟨11, 0, .rw, .live, 0, []⟩]⟩
/-- SW_VLAN_CMD.GO. -/
def F.SW_VLAN_CMD_GO : Fld := ⟨R.SW_VLAN_CMD, 31, 31⟩
/-- SW_VLAN_CMD.BUSY. -/
def F.SW_VLAN_CMD_BUSY : Fld := ⟨R.SW_VLAN_CMD, 30, 30⟩
/-- SW_VLAN_CMD.OP. -/
def F.SW_VLAN_CMD_OP : Fld := ⟨R.SW_VLAN_CMD, 29, 28⟩
/-- SW_VLAN_CMD.VID. -/
def F.SW_VLAN_CMD_VID : Fld := ⟨R.SW_VLAN_CMD, 11, 0⟩
/-- SW_VLAN_DATA. -/
def R.SW_VLAN_DATA : RegDef := ⟨.sw, 0x40202010, 1, 0x0, 1, 0x0, false,
  [⟨27, 16, .rw, .live, 0, []⟩,
   ⟨11, 0, .rw, .live, 0, []⟩]⟩
/-- SW_VLAN_DATA.UNTAGGED. -/
def F.SW_VLAN_DATA_UNTAGGED : Fld := ⟨R.SW_VLAN_DATA, 27, 16⟩
/-- SW_VLAN_DATA.MEMBER. -/
def F.SW_VLAN_DATA_MEMBER : Fld := ⟨R.SW_VLAN_DATA, 11, 0⟩
/-- SW_P_CFG. -/
def R.SW_P_CFG : RegDef := ⟨.sw, 0x40210000, 12, 0x10000, 1, 0x0, false,
  [⟨31, 31, .rw, .live, 0, []⟩,
   ⟨30, 28, .rw, .live, 0, []⟩,
   ⟨11, 0, .rw, .live, 0, []⟩]⟩
/-- SW_P_CFG.EN. -/
def F.SW_P_CFG_EN : Fld := ⟨R.SW_P_CFG, 31, 31⟩
/-- SW_P_CFG.PRIO. -/
def F.SW_P_CFG_PRIO : Fld := ⟨R.SW_P_CFG, 30, 28⟩
/-- SW_P_CFG.VID. -/
def F.SW_P_CFG_VID : Fld := ⟨R.SW_P_CFG, 11, 0⟩
/-- SW_P_TC_MAP. -/
def R.SW_P_TC_MAP : RegDef := ⟨.sw, 0x40210004, 12, 0x10000, 1, 0x0, false,
  [⟨23, 0, .rw, .live, 0, []⟩]⟩
/-- SW_P_TC_MAP.MAP. -/
def F.SW_P_TC_MAP_MAP : Fld := ⟨R.SW_P_TC_MAP, 23, 0⟩
/-- SW_P_CBS_IDLE. -/
def R.SW_P_CBS_IDLE : RegDef := ⟨.sw, 0x40210100, 12, 0x10000, 8, 0x10, false,
  [⟨31, 0, .rw, .live, 0, []⟩]⟩
/-- SW_P_CBS_IDLE.V. -/
def F.SW_P_CBS_IDLE_V : Fld := ⟨R.SW_P_CBS_IDLE, 31, 0⟩
/-- SW_P_CBS_SEND. -/
def R.SW_P_CBS_SEND : RegDef := ⟨.sw, 0x40210104, 12, 0x10000, 8, 0x10, false,
  [⟨31, 0, .rw, .live, 0, []⟩]⟩
/-- SW_P_CBS_SEND.V. -/
def F.SW_P_CBS_SEND_V : Fld := ⟨R.SW_P_CBS_SEND, 31, 0⟩
/-- SW_P_CBS_HI. -/
def R.SW_P_CBS_HI : RegDef := ⟨.sw, 0x40210108, 12, 0x10000, 8, 0x10, false,
  [⟨31, 0, .rw, .live, 0, []⟩]⟩
/-- SW_P_CBS_HI.V. -/
def F.SW_P_CBS_HI_V : Fld := ⟨R.SW_P_CBS_HI, 31, 0⟩
/-- SW_P_CBS_LO. -/
def R.SW_P_CBS_LO : RegDef := ⟨.sw, 0x4021010c, 12, 0x10000, 8, 0x10, false,
  [⟨31, 0, .rw, .live, 0, []⟩]⟩
/-- SW_P_CBS_LO.V. -/
def F.SW_P_CBS_LO_V : Fld := ⟨R.SW_P_CBS_LO, 31, 0⟩
/-- SW_P_GCL_BASE. -/
def R.SW_P_GCL_BASE : RegDef := ⟨.sw, 0x40210200, 12, 0x10000, 1, 0x0, true,
  [⟨63, 0, .rw, .live, 0, []⟩]⟩
/-- SW_P_GCL_BASE.TIME. -/
def F.SW_P_GCL_BASE_TIME : Fld := ⟨R.SW_P_GCL_BASE, 63, 0⟩
/-- SW_P_GCL_CYCLE. -/
def R.SW_P_GCL_CYCLE : RegDef := ⟨.sw, 0x40210208, 12, 0x10000, 1, 0x0, false,
  [⟨31, 0, .rw, .live, 0, []⟩]⟩
/-- SW_P_GCL_CYCLE.NS. -/
def F.SW_P_GCL_CYCLE_NS : Fld := ⟨R.SW_P_GCL_CYCLE, 31, 0⟩
/-- SW_P_GCL_CHANGE. -/
def R.SW_P_GCL_CHANGE : RegDef := ⟨.sw, 0x4021020c, 12, 0x10000, 1, 0x0, false,
  [⟨0, 0, .wo, .live, 0, []⟩]⟩
/-- SW_P_GCL_CHANGE.GO. -/
def F.SW_P_GCL_CHANGE_GO : Fld := ⟨R.SW_P_GCL_CHANGE, 0, 0⟩
/-- SW_P_TS_CORR. -/
def R.SW_P_TS_CORR : RegDef := ⟨.sw, 0x40210300, 12, 0x10000, 2, 0x4, false,
  [⟨31, 0, .rw, .live, 0, []⟩]⟩
/-- SW_P_TS_CORR.V. -/
def F.SW_P_TS_CORR_V : Fld := ⟨R.SW_P_TS_CORR, 31, 0⟩
/-- SW_P_CNT. -/
def R.SW_P_CNT : RegDef := ⟨.sw, 0x40210400, 12, 0x10000, 25, 0x4, false,
  [⟨31, 0, .ro, .live, 0, []⟩]⟩
/-- SW_P_CNT.CNT. -/
def F.SW_P_CNT_CNT : Fld := ⟨R.SW_P_CNT, 31, 0⟩
/-- SW_P_GCL_ADMIN. -/
def R.SW_P_GCL_ADMIN : RegDef := ⟨.sw, 0x40211000, 12, 0x10000, 256, 0x8, true,
  [⟨63, 32, .rw, .live, 0, []⟩,
   ⟨7, 0, .rw, .live, 0, []⟩]⟩
/-- SW_P_GCL_ADMIN.INTERVAL. -/
def F.SW_P_GCL_ADMIN_INTERVAL : Fld := ⟨R.SW_P_GCL_ADMIN, 63, 32⟩
/-- SW_P_GCL_ADMIN.GATES. -/
def F.SW_P_GCL_ADMIN_GATES : Fld := ⟨R.SW_P_GCL_ADMIN, 7, 0⟩
/-- SW_P_GCL_OPER. -/
def R.SW_P_GCL_OPER : RegDef := ⟨.sw, 0x40212000, 12, 0x10000, 256, 0x8, true,
  [⟨63, 32, .ro, .live, 0, []⟩,
   ⟨7, 0, .ro, .live, 0, []⟩]⟩
/-- SW_P_GCL_OPER.INTERVAL. -/
def F.SW_P_GCL_OPER_INTERVAL : Fld := ⟨R.SW_P_GCL_OPER, 63, 32⟩
/-- SW_P_GCL_OPER.GATES. -/
def F.SW_P_GCL_OPER_GATES : Fld := ⟨R.SW_P_GCL_OPER, 7, 0⟩
/-- SW_SF_CMD. -/
def R.SW_SF_CMD : RegDef := ⟨.sw, 0x402d0000, 1, 0x0, 1, 0x0, false,
  [⟨31, 31, .wo, .live, 0, []⟩,
   ⟨30, 30, .ro, .live, 0, []⟩,
   ⟨29, 28, .rw, .live, 0, []⟩,
   ⟨12, 0, .rw, .live, 0, []⟩]⟩
/-- SW_SF_CMD.GO. -/
def F.SW_SF_CMD_GO : Fld := ⟨R.SW_SF_CMD, 31, 31⟩
/-- SW_SF_CMD.BUSY. -/
def F.SW_SF_CMD_BUSY : Fld := ⟨R.SW_SF_CMD, 30, 30⟩
/-- SW_SF_CMD.OP. -/
def F.SW_SF_CMD_OP : Fld := ⟨R.SW_SF_CMD, 29, 28⟩
/-- SW_SF_CMD.INDEX. -/
def F.SW_SF_CMD_INDEX : Fld := ⟨R.SW_SF_CMD, 12, 0⟩
/-- SW_SF_DATA. -/
def R.SW_SF_DATA : RegDef := ⟨.sw, 0x402d0010, 8, 0x4, 1, 0x0, false,
  [⟨31, 0, .rw, .live, 0, []⟩]⟩
/-- SW_SF_DATA.DATA. -/
def F.SW_SF_DATA_DATA : Fld := ⟨R.SW_SF_DATA, 31, 0⟩
/-- SW_SG_CMD. -/
def R.SW_SG_CMD : RegDef := ⟨.sw, 0x402d0100, 1, 0x0, 1, 0x0, false,
  [⟨31, 31, .wo, .live, 0, []⟩,
   ⟨30, 30, .ro, .live, 0, []⟩,
   ⟨29, 28, .rw, .live, 0, []⟩,
   ⟨12, 0, .rw, .live, 0, []⟩]⟩
/-- SW_SG_CMD.GO. -/
def F.SW_SG_CMD_GO : Fld := ⟨R.SW_SG_CMD, 31, 31⟩
/-- SW_SG_CMD.BUSY. -/
def F.SW_SG_CMD_BUSY : Fld := ⟨R.SW_SG_CMD, 30, 30⟩
/-- SW_SG_CMD.OP. -/
def F.SW_SG_CMD_OP : Fld := ⟨R.SW_SG_CMD, 29, 28⟩
/-- SW_SG_CMD.INDEX. -/
def F.SW_SG_CMD_INDEX : Fld := ⟨R.SW_SG_CMD, 12, 0⟩
/-- SW_SG_DATA. -/
def R.SW_SG_DATA : RegDef := ⟨.sw, 0x402d0110, 8, 0x4, 1, 0x0, false,
  [⟨31, 0, .rw, .live, 0, []⟩]⟩
/-- SW_SG_DATA.DATA. -/
def F.SW_SG_DATA_DATA : Fld := ⟨R.SW_SG_DATA, 31, 0⟩
/-- SW_FM_CMD. -/
def R.SW_FM_CMD : RegDef := ⟨.sw, 0x402d0200, 1, 0x0, 1, 0x0, false,
  [⟨31, 31, .wo, .live, 0, []⟩,
   ⟨30, 30, .ro, .live, 0, []⟩,
   ⟨29, 28, .rw, .live, 0, []⟩,
   ⟨12, 0, .rw, .live, 0, []⟩]⟩
/-- SW_FM_CMD.GO. -/
def F.SW_FM_CMD_GO : Fld := ⟨R.SW_FM_CMD, 31, 31⟩
/-- SW_FM_CMD.BUSY. -/
def F.SW_FM_CMD_BUSY : Fld := ⟨R.SW_FM_CMD, 30, 30⟩
/-- SW_FM_CMD.OP. -/
def F.SW_FM_CMD_OP : Fld := ⟨R.SW_FM_CMD, 29, 28⟩
/-- SW_FM_CMD.INDEX. -/
def F.SW_FM_CMD_INDEX : Fld := ⟨R.SW_FM_CMD, 12, 0⟩
/-- SW_FM_DATA. -/
def R.SW_FM_DATA : RegDef := ⟨.sw, 0x402d0210, 8, 0x4, 1, 0x0, false,
  [⟨31, 0, .rw, .live, 0, []⟩]⟩
/-- SW_FM_DATA.DATA. -/
def F.SW_FM_DATA_DATA : Fld := ⟨R.SW_FM_DATA, 31, 0⟩
/-- SW_CB_GEN. -/
def R.SW_CB_GEN : RegDef := ⟨.sw, 0x402d0300, 64, 0x4, 1, 0x0, false,
  [⟨31, 0, .rw, .live, 0, []⟩]⟩
/-- SW_CB_GEN.V. -/
def F.SW_CB_GEN_V : Fld := ⟨R.SW_CB_GEN, 31, 0⟩
/-- SW_CB_REC. -/
def R.SW_CB_REC : RegDef := ⟨.sw, 0x402d0400, 64, 0x4, 1, 0x0, false,
  [⟨31, 0, .rw, .live, 0, []⟩]⟩
/-- SW_CB_REC.V. -/
def F.SW_CB_REC_V : Fld := ⟨R.SW_CB_REC, 31, 0⟩
/-- SW_SEC_P_CFG. -/
def R.SW_SEC_P_CFG : RegDef := ⟨.sw, 0x402e0000, 4, 0x100, 1, 0x0, false,
  [⟨31, 31, .rw, .live, 0, []⟩,
   ⟨1, 0, .rw, .live, 0, []⟩]⟩
/-- SW_SEC_P_CFG.EN. -/
def F.SW_SEC_P_CFG_EN : Fld := ⟨R.SW_SEC_P_CFG, 31, 31⟩
/-- SW_SEC_P_CFG.SUITE. -/
def F.SW_SEC_P_CFG_SUITE : Fld := ⟨R.SW_SEC_P_CFG, 1, 0⟩
/-- SW_SEC_SC_CMD. -/
def R.SW_SEC_SC_CMD : RegDef := ⟨.sw, 0x402e0800, 1, 0x0, 1, 0x0, false,
  [⟨31, 31, .wo, .live, 0, []⟩,
   ⟨30, 30, .ro, .live, 0, []⟩,
   ⟨29, 28, .rw, .live, 0, []⟩,
   ⟨12, 0, .rw, .live, 0, []⟩]⟩
/-- SW_SEC_SC_CMD.GO. -/
def F.SW_SEC_SC_CMD_GO : Fld := ⟨R.SW_SEC_SC_CMD, 31, 31⟩
/-- SW_SEC_SC_CMD.BUSY. -/
def F.SW_SEC_SC_CMD_BUSY : Fld := ⟨R.SW_SEC_SC_CMD, 30, 30⟩
/-- SW_SEC_SC_CMD.OP. -/
def F.SW_SEC_SC_CMD_OP : Fld := ⟨R.SW_SEC_SC_CMD, 29, 28⟩
/-- SW_SEC_SC_CMD.INDEX. -/
def F.SW_SEC_SC_CMD_INDEX : Fld := ⟨R.SW_SEC_SC_CMD, 12, 0⟩
/-- SW_SEC_SC_DATA. -/
def R.SW_SEC_SC_DATA : RegDef := ⟨.sw, 0x402e0810, 8, 0x4, 1, 0x0, false,
  [⟨31, 0, .rw, .live, 0, []⟩]⟩
/-- SW_SEC_SC_DATA.DATA. -/
def F.SW_SEC_SC_DATA_DATA : Fld := ⟨R.SW_SEC_SC_DATA, 31, 0⟩
/-- SW_SEC_SA_CMD. -/
def R.SW_SEC_SA_CMD : RegDef := ⟨.sw, 0x402e0900, 1, 0x0, 1, 0x0, false,
  [⟨31, 31, .wo, .live, 0, []⟩,
   ⟨30, 30, .ro, .live, 0, []⟩,
   ⟨29, 28, .rw, .live, 0, []⟩,
   ⟨12, 0, .rw, .live, 0, []⟩]⟩
/-- SW_SEC_SA_CMD.GO. -/
def F.SW_SEC_SA_CMD_GO : Fld := ⟨R.SW_SEC_SA_CMD, 31, 31⟩
/-- SW_SEC_SA_CMD.BUSY. -/
def F.SW_SEC_SA_CMD_BUSY : Fld := ⟨R.SW_SEC_SA_CMD, 30, 30⟩
/-- SW_SEC_SA_CMD.OP. -/
def F.SW_SEC_SA_CMD_OP : Fld := ⟨R.SW_SEC_SA_CMD, 29, 28⟩
/-- SW_SEC_SA_CMD.INDEX. -/
def F.SW_SEC_SA_CMD_INDEX : Fld := ⟨R.SW_SEC_SA_CMD, 12, 0⟩
/-- SW_SEC_SA_DATA. -/
def R.SW_SEC_SA_DATA : RegDef := ⟨.sw, 0x402e0910, 16, 0x4, 1, 0x0, false,
  [⟨31, 0, .rw, .live, 0, []⟩]⟩
/-- SW_SEC_SA_DATA.DATA. -/
def F.SW_SEC_SA_DATA_DATA : Fld := ⟨R.SW_SEC_SA_DATA, 31, 0⟩
/-- SW_FAB_RX_BASE. -/
def R.SW_FAB_RX_BASE : RegDef := ⟨.sw, 0x402f0000, 1, 0x0, 1, 0x0, false,
  [⟨31, 0, .rw, .live, 0, []⟩]⟩
/-- SW_FAB_RX_BASE.BASE. -/
def F.SW_FAB_RX_BASE_BASE : Fld := ⟨R.SW_FAB_RX_BASE, 31, 0⟩
/-- SW_FAB_RX_LEN. -/
def R.SW_FAB_RX_LEN : RegDef := ⟨.sw, 0x402f0004, 1, 0x0, 1, 0x0, false,
  [⟨31, 0, .rw, .live, 0, []⟩]⟩
/-- SW_FAB_RX_LEN.LEN. -/
def F.SW_FAB_RX_LEN_LEN : Fld := ⟨R.SW_FAB_RX_LEN, 31, 0⟩
/-- SW_FAB_RX_HEAD. -/
def R.SW_FAB_RX_HEAD : RegDef := ⟨.sw, 0x402f0008, 1, 0x0, 1, 0x0, false,
  [⟨31, 0, .ro, .live, 0, []⟩]⟩
/-- SW_FAB_RX_HEAD.HEAD. -/
def F.SW_FAB_RX_HEAD_HEAD : Fld := ⟨R.SW_FAB_RX_HEAD, 31, 0⟩
/-- SW_FAB_RX_TAIL. -/
def R.SW_FAB_RX_TAIL : RegDef := ⟨.sw, 0x402f000c, 1, 0x0, 1, 0x0, false,
  [⟨31, 0, .rw, .live, 0, []⟩]⟩
/-- SW_FAB_RX_TAIL.TAIL. -/
def F.SW_FAB_RX_TAIL_TAIL : Fld := ⟨R.SW_FAB_RX_TAIL, 31, 0⟩
/-- SW_FAB_TX_BASE. -/
def R.SW_FAB_TX_BASE : RegDef := ⟨.sw, 0x402f0010, 1, 0x0, 1, 0x0, false,
  [⟨31, 0, .rw, .live, 0, []⟩]⟩
/-- SW_FAB_TX_BASE.BASE. -/
def F.SW_FAB_TX_BASE_BASE : Fld := ⟨R.SW_FAB_TX_BASE, 31, 0⟩
/-- SW_FAB_TX_LEN. -/
def R.SW_FAB_TX_LEN : RegDef := ⟨.sw, 0x402f0014, 1, 0x0, 1, 0x0, false,
  [⟨31, 0, .rw, .live, 0, []⟩]⟩
/-- SW_FAB_TX_LEN.LEN. -/
def F.SW_FAB_TX_LEN_LEN : Fld := ⟨R.SW_FAB_TX_LEN, 31, 0⟩
/-- SW_FAB_TX_HEAD. -/
def R.SW_FAB_TX_HEAD : RegDef := ⟨.sw, 0x402f0018, 1, 0x0, 1, 0x0, false,
  [⟨31, 0, .ro, .live, 0, []⟩]⟩
/-- SW_FAB_TX_HEAD.HEAD. -/
def F.SW_FAB_TX_HEAD_HEAD : Fld := ⟨R.SW_FAB_TX_HEAD, 31, 0⟩
/-- SW_FAB_TX_TAIL. -/
def R.SW_FAB_TX_TAIL : RegDef := ⟨.sw, 0x402f001c, 1, 0x0, 1, 0x0, false,
  [⟨31, 0, .rw, .live, 0, []⟩]⟩
/-- SW_FAB_TX_TAIL.TAIL. -/
def F.SW_FAB_TX_TAIL_TAIL : Fld := ⟨R.SW_FAB_TX_TAIL, 31, 0⟩
/-- PERF_USER_EN. -/
def R.PERF_USER_EN : RegDef := ⟨.gperf, 0x400c0000, 1, 0x0, 1, 0x0, false,
  [⟨31, 1, .rw, .live, 0, []⟩]⟩
/-- PERF_USER_EN.VF. -/
def F.PERF_USER_EN_VF : Fld := ⟨R.PERF_USER_EN, 31, 1⟩
/-- PERF_FREEZE. -/
def R.PERF_FREEZE : RegDef := ⟨.gperf, 0x400c0004, 1, 0x0, 1, 0x0, false,
  [⟨0, 0, .rw, .live, 0, []⟩]⟩
/-- PERF_FREEZE.FREEZE. -/
def F.PERF_FREEZE_FREEZE : Fld := ⟨R.PERF_FREEZE, 0, 0⟩
/-- PERF_CTL. -/
def R.PERF_CTL : RegDef := ⟨.gperf, 0x400c0100, 4, 0x40, 1, 0x0, false,
  [⟨8, 8, .rw, .live, 0, []⟩,
   ⟨3, 0, .rw, .live, 0, []⟩]⟩
/-- PERF_CTL.FREEZE. -/
def F.PERF_CTL_FREEZE : Fld := ⟨R.PERF_CTL, 8, 8⟩
/-- PERF_CTL.EN. -/
def F.PERF_CTL_EN : Fld := ⟨R.PERF_CTL, 3, 0⟩
/-- PERF_STAT. -/
def R.PERF_STAT : RegDef := ⟨.gperf, 0x400c0104, 4, 0x40, 1, 0x0, false,
  [⟨3, 0, .w1c, .live, 0, []⟩]⟩
/-- PERF_STAT.OVF. -/
def F.PERF_STAT_OVF : Fld := ⟨R.PERF_STAT, 3, 0⟩
/-- PERF_SEL. -/
def R.PERF_SEL : RegDef := ⟨.gperf, 0x400c0110, 4, 0x40, 4, 0x4, false,
  [⟨31, 31, .rw, .live, 0, []⟩,
   ⟨29, 24, .rw, .live, 0, []⟩,
   ⟨21, 16, .rw, .live, 0, []⟩,
   ⟨8, 8, .rw, .live, 0, []⟩,
   ⟨7, 0, .rw, .live, 0, []⟩]⟩
/-- PERF_SEL.MATCH. -/
def F.PERF_SEL_MATCH : Fld := ⟨R.PERF_SEL, 31, 31⟩
/-- PERF_SEL.MASTER. -/
def F.PERF_SEL_MASTER : Fld := ⟨R.PERF_SEL, 29, 24⟩
/-- PERF_SEL.SUB. -/
def F.PERF_SEL_SUB : Fld := ⟨R.PERF_SEL, 21, 16⟩
/-- PERF_SEL.MODE. -/
def F.PERF_SEL_MODE : Fld := ⟨R.PERF_SEL, 8, 8⟩
/-- PERF_SEL.EVENT. -/
def F.PERF_SEL_EVENT : Fld := ⟨R.PERF_SEL, 7, 0⟩
/-- PERF_CNT. -/
def R.PERF_CNT : RegDef := ⟨.gperf, 0x400c0120, 4, 0x40, 4, 0x8, true,
  [⟨47, 0, .rw, .live, 0, []⟩]⟩
/-- PERF_CNT.COUNT. -/
def F.PERF_CNT_COUNT : Fld := ⟨R.PERF_CNT, 47, 0⟩

/-- Part 0 of the register map. -/
def regMap0 : List RegDef := [R.TE_CTRL, R.TE_STATUS, R.TE_ERR, R.TE_DRW_LM, R.TE_DRW_IB, R.TE_DRW_FLT, R.CMU_ERR, R.CMU_SHARE_CFG, R.CMU_SHARE_STAT, R.CMU_SHARE_RLOG, R.CMU_SHARE_RLOG_LEN, R.CMU_SHARE_RLOG_CNT, R.SN_ERR, R.SN_CAB_CFG, R.SN_CAB_RANKMAP, R.SN_Q_CFG, R.SN_Q_GEOM, R.SN_Q_STAT, R.SCH_ERR, R.SCH_DLM_LAST, R.SCH_CAB_CFG, R.SCH_CAB_ENG, R.SCH_CAB_SEMLOCK, R.SCH_CAB_CT, R.TE_CHK_TOL, R.ARB_CFG, R.ARB_STATUS, R.ARB_DOUBT, R.ARB_RAISE, R.ARB_ENG]
/-- Part 1 of the register map. -/
def regMap1 : List RegDef := [R.ARB_MECH, R.ARB_LOG, R.CSI_S_CFG, R.CSI_S_BUF, R.CSI_S_HOLD, R.MIR_O_CFG, R.MIR_O_DESC, R.VIO_ERR, R.MTU_INCR, R.MTU_ADJ, R.MTU_SET, R.MTU_NOW, R.MTU_NOW_SUB, R.MTU_NOW_SEC, R.MTU_CTRL, R.ITU_COUNT, R.ITU_OFFSET, R.ITU_RATE, R.ITU_TIME, R.TP_CFG, R.TP_START, R.CAP_CFG, R.CAP_TS, R.GA_CFG, R.GA_BLOCK, R.GA_LIE, R.GA_STAT, R.GA_EGO_HEAD, R.GA_ERR, R.MEM_CFG]
/-- Part 2 of the register map. -/
def regMap2 : List RegDef := [R.MEM_ERR, R.MEM_ERR_ADDR, R.MEM_ERR_INFO, R.MEM_LINK_CNT, R.MEM_INJ, R.SBUF_SHARE, R.SBUF_STAT, R.QOS_WIN, R.QOS_WCNT, R.QOS_MISS, R.QOS_MISS_LAST, R.QOS_M_CFG, R.QOS_M_USED, R.QOS_M_BUDGET, R.ISL_PAIR_STAT, R.ISL_WDOG_CFG, R.ISL_WDOG_KICK, R.ISL_WDOG_STAT, R.BB_RANGE, R.BB_ERR, R.BB_ERR_LOG, R.TRS_CFG, R.TRS_STAT, R.TRS_MIRROR, R.TRS_RXBUF, R.SEC_CFG, R.SEC_WM, R.SEC_MWORLD, R.SEC_CAB, R.SEC_LKR_BASE]
/-- Part 3 of the register map. -/
def regMap3 : List RegDef := [R.SEC_LKR_SIZE, R.SEC_ERR, R.SEC_STATUS, R.SEC_VIOL_ADDR, R.SEC_VIOL_INFO, R.SEC_MBOX_REQ, R.SEC_MBOX_STAT, R.ISL_INT_WORLD, R.PMC_SEC_INUSE, R.HIF_VERSION, R.HIF_STATUS, R.HIF_ATTACH, R.HIF_DOORBELL, R.HIF_WIN, R.BOOT_STATUS, R.BOOT_TIMES, R.BOOT_RCV, R.PMC_STATE, R.PMC_CFG, R.PMC_PD_STAT, R.PMC_REQ, R.PMC_RESP, R.PMC_MON, R.PMC_THERM, R.PMC_VCORE, R.PMC_LOG_HEAD, R.PMC_WAKE_CFG, R.PMC_WAKE_ITU, R.PMC_CAUSE, R.PMC_LOG]
/-- Part 4 of the register map. -/
def regMap4 : List RegDef := [R.TE_PERF_CTL, R.TE_PERF_STAT, R.TE_PERF_SEL, R.TE_PERF_CNT, R.TE_PERF_SKID, R.TE_PSB_CFG, R.TE_PSB_WR, R.TE_PSB_RD, R.TE_PSB_LOST, R.TE_PERF_TIME, R.DEV_ID, R.DEV_FW, R.DEV_STATUS, R.DEV_ERR_SUM, R.DEV_CFGRUN, R.ARB_ERR, R.ISL_CMD_VEC, R.IE_JOB, R.CAN_CTRL, R.CAN_STAT, R.CAN_NBT, R.CAN_DBT, R.CAN_IRQ, R.CAN_IRQ_EN, R.CAN_RX_BASE, R.CAN_RX_LEN, R.CAN_RX_HEAD, R.CAN_RX_TAIL, R.CAN_TX_REQ, R.CAN_TX_DONE]
/-- Part 5 of the register map. -/
def regMap5 : List RegDef := [R.CAN_TX_ABORT, R.CAN_TXBUF, R.CAN_FILT_ID, R.CAN_FILT_MASK, R.CAN_XBT, R.CAN_XPWM, R.LIN_CTRL, R.LIN_STAT, R.LIN_PID, R.LIN_LEN, R.LIN_DATA0, R.LIN_DATA1, R.LIN_START, R.GPIO_DIR, R.GPIO_OUT, R.GPIO_RISE_EN, R.GPIO_FALL_EN, R.GPIO_IN, R.GPIO_IRQ, R.GPIO_DEB, R.TMR_CTRL, R.TMR_CMP, R.TMR_PERIOD, R.TMR_IRQ, R.XSPI_CFG, R.XSPI_CMD, R.XSPI_ADDR, R.XSPI_LEN, R.XSPI_STAT, R.XSPI_ERASE]
/-- Part 6 of the register map. -/
def regMap6 : List RegDef := [R.XSPI_DATA, R.EMMC_CFG, R.EMMC_CMD, R.EMMC_ARG, R.EMMC_RESP, R.EMMC_DMA, R.EMMC_BLKCNT, R.EMMC_STAT, R.HB_CFG, R.HB_STAT, R.HB_REPEAT_CNT, R.HB_FAIL_CNT, R.HB_ERR_ADDR, R.ETH_CFG, R.ETH_ADDR_LO, R.ETH_ADDR_HI, R.ETH_RX_BASE, R.ETH_RX_LEN, R.ETH_RX_HEAD, R.ETH_RX_TAIL, R.ETH_TX_BASE, R.ETH_TX_LEN, R.ETH_TX_HEAD, R.ETH_TX_TAIL, R.ETH_IRQ, R.ETH_IRQ_EN, R.ETH_RX_DROP, R.DBG_CTRL, R.DBG_STAT, R.DBG_TRACE_DIV]
/-- Part 7 of the register map. -/
def regMap7 : List RegDef := [R.SW_CTRL, R.SW_STAT, R.SW_PTP_TS, R.SW_FDB_CMD, R.SW_FDB_DATA, R.SW_VLAN_CMD, R.SW_VLAN_DATA, R.SW_P_CFG, R.SW_P_TC_MAP, R.SW_P_CBS_IDLE, R.SW_P_CBS_SEND, R.SW_P_CBS_HI, R.SW_P_CBS_LO, R.SW_P_GCL_BASE, R.SW_P_GCL_CYCLE, R.SW_P_GCL_CHANGE, R.SW_P_TS_CORR, R.SW_P_CNT, R.SW_P_GCL_ADMIN, R.SW_P_GCL_OPER, R.SW_SF_CMD, R.SW_SF_DATA, R.SW_SG_CMD, R.SW_SG_DATA, R.SW_FM_CMD, R.SW_FM_DATA, R.SW_CB_GEN, R.SW_CB_REC, R.SW_SEC_P_CFG, R.SW_SEC_SC_CMD]
/-- Part 8 of the register map. -/
def regMap8 : List RegDef := [R.SW_SEC_SC_DATA, R.SW_SEC_SA_CMD, R.SW_SEC_SA_DATA, R.SW_FAB_RX_BASE, R.SW_FAB_RX_LEN, R.SW_FAB_RX_HEAD, R.SW_FAB_RX_TAIL, R.SW_FAB_TX_BASE, R.SW_FAB_TX_LEN, R.SW_FAB_TX_HEAD, R.SW_FAB_TX_TAIL, R.PERF_USER_EN, R.PERF_FREEZE, R.PERF_CTL, R.PERF_STAT, R.PERF_SEL, R.PERF_CNT]
/-- Every register (19 R609, R616). -/
def regMap : List RegDef := regMap0 ++ regMap1 ++ regMap2 ++ regMap3 ++ regMap4 ++ regMap5 ++ regMap6 ++ regMap7 ++ regMap8

/-- The register at an address, with its indices and whether the high word is addressed. The Island Engine's block
repeats the engine layout for drawer 0 (19 R618); the island command page is function page 32 (09 R287). -/
def findReg (a : Nat) : Option (RegDef × Nat × Nat × Bool) :=
  let ie := 0x20023000 ≤ a ∧ a < 0x20023074
  let ip := 0x40052000 ≤ a ∧ a < 0x40053000
  let a' := if ie then a - 0x20023000 + 0x40100000 else if ip then a - 0x40052000 + 0x1000000020000 else a
  match regMap.find? (fun r => (r.at? a').isSome) with
  | none => none
  | some r =>
    match r.at? a' with
    | none => none
    | some (i, j, h) =>
      if ie then (if j = 0 then some (r, 16, 0, h) else none)
      else if r.blk = .hif ∧ i = 32 ∧ r.base = R.HIF_WIN.base then none
      else some (r, i, j, h)

end Sys2Proof.Machine
end

