-- ==== Sys2Proof/Machine/State.lean ====
section
/-! DEFINITION. The machine's state, as plain data (INVENTORY.md, State), how a step can stop, and the state after reset. -/

namespace Sys2Proof.Machine

/-- The state. `mem`, `regs`: memory and registers; `engines`, `sn`, `shares`, `ppus`, `cabs`: the engine side; `runClock`
counts activations (09 R272); `ticks`, `mtu`, `itu`, `ituBase`: FCLK ticks, the MTU in units of 2^-32 ns and the ITU (11);
`fclk`, `aclk`,
`islClk`: whether FCLK, ACLK and the island clock run; `pmc`, `boot`: power and start-up (17, 16); `slots`, `outs`, `pulses`, `caps`, `capIn`, `ga`: video, timed pulses, captures and
fusion (11); `cans`, `sw`, `trs`, `bridge`: CAN, the switch, the Trestle link and the Body Bridge (13); `isl`, `arb`: the Safety Island and the Arbiter Unit; `sec`: SEC (14); `fns`: the host functions, 32 the island's command page; `host`: the host side as a whole; `linkUp`,
`winLog2`: the PCI Express link and the VF window's size (15); `inj`, `ms`: the armed error injection and the memory system (12); `hostOut`: writes to
host memory, newest first; `out`: reports and interrupts, newest first; `resp`: the answer of the last access; `freeCtr`:
the model's counter of free values (Config); `pending`: the commands that wait, first in, first out. -/
structure State where
  mem : Mem
  regs : Regs
  engines : Vector Engine 17
  sn : Sn
  shares : Vector Share 8
  ppus : Vector (List PpuReq) 4
  cabs : Vector Cabinet 8
  runClock : Nat
  ticks : Nat
  mtu : Nat
  itu : Nat
  ituBase : Nat
  fclk : Bool
  aclk : Bool
  islClk : Bool
  pmc : Pmc
  boot : Boot
  slots : Vector Slot 16
  outs : Vector Out 2
  pulses : Vector Pulse 8
  caps : Vector (List Nat) 16
  capIn : Vector (Option CapEdge) 16
  ga : Ga
  cans : Vector Can 12
  sw : Switch
  trs : Trs
  bridge : Bridge
  isl : Isl
  sec : Sec
  arb : Arb
  fns : Vector Fn 33
  host : HostSt
  linkUp : Bool
  winLog2 : Nat
  inj : Option (Nat × Nat)
  ms : MemSys
  hostOut : List (Nat × Nat × List Byte)
  out : List Report
  resp : Resp
  freeCtr : Nat
  pending : List Instr
  deriving DecidableEq, Repr

/-- Why the machine stops with a fault. The device reports every fault of a command in its state (a status, an error bit, an
interrupt), so no command of the model stops it, and this type has no constructor. -/
inductive Fault where
  deriving DecidableEq, Repr

/-- Why a command has no meaning. -/
inductive Refusal where
  /-- Raised by an arm of `exec` whose command is not modelled yet; safe. -/
  | notModelled (mnemonic : String)
  deriving DecidableEq, Repr

/-- An empty drawer: every register zero, tags EMPTY, nothing live, endpoints unbound (09 R281). -/
def emptyDrawer : Drawer :=
  { s := Vector.replicate 32 0, t := Vector.replicate 32 0, l := Vector.replicate 4 0,
    p := Vector.replicate 8 false, q := Vector.replicate 4 0, e := Vector.replicate 8 0,
    tags := Vector.replicate 8 .empty, live := 0, info := 0, pc := 0, loops := [], fault := none, faultSeq := 0,
    seq := 0, sb := [], recs := [], drainDets := [],
    ctx := none, rank := 0, loaded := false, jobOn := false, halted := false, faulting := false,
    prev := 0, entry := 0, loadSt := 0 }

/-- An engine whose domain has not been powered (02, 10 R317). -/
def emptyEngine : Engine :=
  { drawers := Vector.replicate 8 emptyDrawer, active := none, st := .stopped, why := none, drained := false, jobQct := 0,
    ver := .off, patrolDue := false, patrolDeferred := false, mismatches := 0, repeatOwed := false, fencePending := false,
    tagNext := false, skid := none, fresh := true, inited := false, held := none, reqQct := 0 }

/-- A cabinet that does not exist (09). -/
def emptyCabinet : Cabinet :=
  { live := false, flash := false, fn := 0, base := 0, size := 0, secure := false, n1 := 0,
    sems := Vector.replicate 64 0, waiters := [], ctxs := Vector.replicate 72 none, act := none, table := [],
    tableNew := true, due := [], stopped := false, degraded := false, sliceEnd := false, aborting := [],
    after := .none, manifest := none, qctMax := 0, lost := [], windows := [], body := [], resting := false }

/-- A ring that is not set up (15 R516). -/
def emptyRing : Ring := ⟨0, 0, 0, 0, true⟩

/-- A host function at reset (15 R515, R534). -/
def emptyFn : Fn :=
  { bme := false, win := none, st := .detached, reason := 0, sq := emptyRing, cq := emptyRing, eq := emptyRing, evLost := 0,
    lostNext := false, dirty := none, doorbells := [], suspended := false, owed := false, gone := false, ctxLost := 0,
    subsLost := 0, cmd := [], vectors := [] }

/-- The host side at reset (15). -/
def resetHost : HostSt := ⟨none, 0, false, 0, false, []⟩

/-- A stream slot that has seen no frame. -/
def emptySlot : Slot := ⟨none, 0, 0, none, 0, 0, 0xFFFFFFFF, 0, 0, 0⟩

/-- An output that has shown nothing. -/
def emptyOut : Out := ⟨[], none, none, none, none, 0, false, 0, 0⟩

/-- The Grid Aligner before EN (11 R363, R379). -/
def emptyGa : Ga :=
  { opens := [], next := 0, closed := [], block := none, sensors := Vector.replicate 16 ⟨0, [], 0, false, 0⟩, tracks := [],
    counts := ⟨0, 0, 0, 0, 0, 0, 0⟩, conflicts := 0, corridor := 0, stale := 0, merged := 0 }

/-- The Safety Island at reset: both cores in the Secure world, not released, FAULT_N asserted (14 R460; 16 R551). -/
def resetIsl : Isl :=
  { world := Vector.replicate 2 true, tag := Vector.replicate 2 none, running := false, halted := false, cmp := [],
    log := [], privBase := 0, privSize := 0, faultN := false, faultStart := true, alive := false, kickAt := Vector.replicate 7 none,
    since := Vector.replicate 7 0, timers := 0, lin := 0,
    ieWorld := true }

/-- The Arbiter Unit at reset (10 R319). -/
def resetArb : Arb :=
  { start := 0, cycle := 0, onsets := [], persist := 0, flagged := false, fsReady := false, mainReady := false, fsLast := false,
    logBase := 0, patrolBase := 0 }

/-- SEC at reset (14). -/
def resetSec : Sec := ⟨Vector.replicate 4 [], 0, false, [], false, [], none⟩

/-- PMC at reset (17). -/
def resetPmc : Pmc := ⟨[], Vector.replicate 9 0, false, false, false, 0, 0, false, false, false, false⟩

/-- No start under way (16). -/
def resetBoot : Boot := ⟨[], none, [], [], false, 0, false, 0, 0⟩

/-- The machine right after its power-on reset (17 R590, 00 R7): registers at their Reset columns, every domain but PD0 off,
nothing in memory, no cabinet, no command waiting. Values the spec does not give are named in notes/assumptions/5.md. -/
def State.reset : State :=
  { mem := ⟨[], []⟩, regs := ⟨[], [], [], []⟩, engines := Vector.replicate 17 emptyEngine,
    sn := ⟨[], [], [], Vector.replicate 32 ⟨[], 0, [], none⟩, []⟩,
    shares := Vector.replicate 8 ⟨.disabled, [], 0, false, []⟩, ppus := Vector.replicate 4 [],
    cabs := Vector.replicate 8 emptyCabinet, runClock := 0, ticks := 0, mtu := 0, itu := 0, ituBase := 0,
    fclk := false, aclk := false, islClk := false, pmc := resetPmc, boot := resetBoot, slots := Vector.replicate 16 emptySlot, outs := Vector.replicate 2 emptyOut,
    pulses := Vector.replicate 8 ⟨none, false, 0⟩, caps := Vector.replicate 16 [],
    capIn := Vector.replicate 16 none, ga := emptyGa,
    cans := Vector.replicate 12 ⟨0, 0⟩, sw := ⟨[], [], [], 0, [], [], []⟩,
    trs := ⟨true, false, true, false, 0, 0, none, 0, []⟩, bridge := ⟨[], none⟩, isl := resetIsl, sec := resetSec,
    arb := resetArb, fns := Vector.replicate 33 emptyFn, host := resetHost, linkUp := false, winLog2 := 32, inj := none, ms := ⟨none, 0, Vector.replicate 34 []⟩, hostOut := [],
    out := [], resp := ⟨0, []⟩, freeCtr := 0, pending := [] }

end Sys2Proof.Machine
end

