-- ==== Sys2Proof/Machine/Ops.lean ====
section
/-! DEFINITION. The named operations over memory, registers and the engines' parts: every read and write of
State goes through these. -/

namespace Sys2Proof.Machine

/-! ### Vectors by Fin -/

/-- Element `i` of a vector. -/
def vget {α : Type} {n : Nat} (v : Vector α n) (i : Fin n) : α := v[i]

/-- A vector with element `i` changed by `f`. -/
def vmod {α : Type} {n : Nat} (v : Vector α n) (i : Fin n) (f : α → α) : Vector α n := v.set i (f v[i])

/-- A number as an index of `n` things, wrapped into range. -/
def fin (n : Nat) (h : 0 < n) (i : Nat) : Fin n := ⟨i % n, Nat.mod_lt i h⟩

/-- Engine number `i`. -/
def engId (i : Nat) : EngineId := fin 17 (by decide) i
/-- Cabinet number `i`. -/
def cabId (i : Nat) : CabId := fin 8 (by decide) i
/-- Context number `i`. -/
def ctxId (i : Nat) : CtxId := fin 72 (by decide) i
/-- Drawer, endpoint or set number `i`. -/
def fin8 (i : Nat) : Fin 8 := fin 8 (by decide) i

/-! ### Memory -/

/-- Base key of an engine's Local Memory (02 R45): the island SRAM for the Island Engine (19 R618). -/
def lmBase (k : EngineId) : Nat := if k.val = 16 then 0x10000000 else 2 ^ 48 + k.val * 2 ^ 22
/-- Base key of an engine's Instruction Buffer (02 R53). -/
def ibBase (k : EngineId) : Nat := 2 ^ 49 + k.val * 2 ^ 16
/-- Key of element (m, n) of accumulator set `a` of drawer `d` (02 R32); set 0 of drawer 8 is the patrol entry. -/
def accAddr (k : EngineId) (d a m n : Nat) : Nat :=
  2 ^ 50 + k.val * 2 ^ 19 + ((d * 8 + a) * 1024 + m * 32 + n) * 4
/-- Base key of the eMMC card (19 R626). -/
def emmcBase : Nat := 2 ^ 52

/-- The granule of the detection code at a key, in bytes (10 R293): LPDDR5X lines of 64, HyperRAM granules of
32, accumulator elements of 4, everything else granules of 8. -/
def granOf (a : Nat) : Nat :=
  if 0x100000000 ≤ a ∧ a < 0x4000000000 then 64
  else if 0x60000000 ≤ a ∧ a < 0x70000000 then 32
  else if 2 ^ 50 ≤ a ∧ a < 2 ^ 51 then 4
  else 8

/-- The byte at a key; what nothing has written reads 0 (notes/assumptions/3.md). -/
def Mem.read (m : Mem) (a : Nat) : Byte :=
  match m.cells.find? (fun c => c.1 == a) with
  | some c => c.2
  | none => 0

/-- A cell put before the first cell of a higher key. -/
def insertCell (a : Nat) (b : Byte) : List Host.Cell → List Host.Cell
  | [] => [(a, b)]
  | c :: l => if a < c.1 then (a, b) :: c :: l else c :: insertCell a b l

/-- One byte written; writing what an unlisted byte reads removes its cell, so the form stays canonical. -/
def Mem.write (m : Mem) (a : Nat) (b : Byte) : Mem :=
  let rest := m.cells.filter (fun c => c.1 != a)
  { m with cells := if b = 0 then rest else insertCell a b rest }

/-- A number put into a rising list without repeats. -/
def insertNat (a : Nat) : List Nat → List Nat
  | [] => [a]
  | b :: l => if a < b then a :: b :: l else if a = b then b :: l else b :: insertNat a l

/-- Whether the granule that holds key `a` has a failing code. -/
def Mem.isBad (m : Mem) (a : Nat) : Bool := m.bad.contains (a / granOf a * granOf a)

/-- The granule of key `a` marked as having a failing code. -/
def Mem.markBad (m : Mem) (a : Nat) : Mem := { m with bad := insertNat (a / granOf a * granOf a) m.bad }

/-- The granule of key `a` given a valid code. -/
def Mem.clearBad (m : Mem) (a : Nat) : Mem :=
  { m with bad := m.bad.filter (fun g => g != a / granOf a * granOf a) }

/-- `n` bytes from a key on. -/
def Mem.readBytes (m : Mem) (a n : Nat) : List Byte := (List.range n).map (fun i => m.read (a + i))

/-- `n` bytes from a key on as a little-endian number (00 R4). -/
def Mem.readNat (m : Mem) (a n : Nat) : Nat := ofBytes (m.readBytes a n)

/-- Bytes written from a key on, without code checks. -/
def Mem.writeBytes (m : Mem) (a : Nat) : List Byte → Mem
  | [] => m
  | b :: l => Mem.writeBytes (m.write a b) (a + 1) l

/-- Whether any granule of `n` bytes from `a` has a failing code. -/
def Mem.anyBad (m : Mem) (a n : Nat) : Bool := (List.range n).any (fun i => m.isBad (a + i))

/-- Whether the granule of key `a` is wholly among the keys of `ws`. -/
def coversGran (ws : List (Nat × Byte)) (a : Nat) : Bool :=
  let g := granOf a
  (List.range g).all (fun i => ws.any (fun w => w.1 == a / g * g + i))

/-- The bytes of one access written granule by granule (10 R295, 12 R387): a granule the access covers gets a
new code; a granule it covers in part and whose code fails stays as it is, and the answer's flag tells so. -/
def Mem.store (m : Mem) (ws : List (Nat × Byte)) : Mem × Bool :=
  ws.foldl (fun (acc : Mem × Bool) w =>
    let full := coversGran ws w.1
    if !full && m.isBad w.1 then (acc.1, true)
    else (if full then ((acc.1.clearBad w.1).write w.1 w.2, acc.2) else (acc.1.write w.1 w.2, acc.2)))
    (m, false)

/-- The list form of a run of bytes from a key on. -/
def runOf (a : Nat) (l : List Byte) : List (Nat × Byte) :=
  (List.range l.length).map (fun i => (a + i, nth 0 l i))

/-- The keys from `a` to `a + n - 1` return to what nothing has written, with valid codes. -/
def Mem.wipe (m : Mem) (a n : Nat) : Mem :=
  { cells := m.cells.filter (fun c => !(decide (a ≤ c.1) && decide (c.1 < a + n)))
    bad := m.bad.filter (fun g => !(decide (a ≤ g) && decide (g < a + n))) }

/-- Strictly rising keys. -/
def rising : List Nat → Bool
  | [] => true
  | [_] => true
  | a :: b :: l => decide (a < b) && rising (b :: l)

/-- The canonical form of memory: rising keys, no cell that holds what an unlisted byte reads, rising marks. -/
def Mem.wf (m : Mem) : Bool :=
  rising (m.cells.map (fun c => c.1)) && m.cells.all (fun c => c.2 != 0) && rising m.bad

/-! ### Registers -/

/-- The entry of a key, or a default. -/
def lookupN (d : Nat) (k : Nat) (l : List (Nat × Nat)) : Nat :=
  match l.find? (fun c => c.1 == k) with
  | some c => c.2
  | none => d

/-- A list with the entry of a key replaced. -/
def insertN (k v : Nat) (l : List (Nat × Nat)) : List (Nat × Nat) :=
  (k, v) :: l.filter (fun c => c.1 != k)

/-- The value written last into copy (i, j) of a register, its Reset value where none was. -/
def State.regVal (s : State) (r : RegDef) (i j : Nat) : Nat := lookupN r.resetVal (r.addr i j) s.regs.val

/-- The value in effect of copy (i, j) of a register with Shadowed fields (00 R12). -/
def State.regEff (s : State) (r : RegDef) (i j : Nat) : Nat := lookupN r.resetVal (r.addr i j) s.regs.eff

/-- A field as a read returns it (00 R13). -/
def State.rd (s : State) (f : Fld) (i : Nat := 0) (j : Nat := 0) : Nat := bits (s.regVal f.reg i j) f.hi f.lo

/-- A Shadowed field's value in effect (00 R12). -/
def State.rdE (s : State) (f : Fld) (i : Nat := 0) (j : Nat := 0) : Nat := bits (s.regEff f.reg i j) f.hi f.lo

/-- Whether a one-bit field reads 1. -/
def State.flag (s : State) (f : Fld) (i : Nat := 0) (j : Nat := 0) : Bool := s.rd f i j == 1

/-- The whole of a register set. -/
def State.setReg (s : State) (r : RegDef) (i j v : Nat) : State :=
  { s with regs := { s.regs with val := insertN (r.addr i j) v s.regs.val } }

/-- A field set by the hardware or by an accepted write. -/
def State.put (s : State) (f : Fld) (i j v : Nat) : State :=
  s.setReg f.reg i j (putBits (s.regVal f.reg i j) f.hi f.lo v)

/-- A field of copy 0 set. -/
def State.put0 (s : State) (f : Fld) (v : Nat) : State := s.put f 0 0 v

/-- The Shadowed fields of a register take effect at their block's boundary (00 R12). -/
def State.takeEffect (s : State) (r : RegDef) (i : Nat := 0) (j : Nat := 0) : State :=
  { s with regs := { s.regs with eff := insertN (r.addr i j) (s.regVal r i j) s.regs.eff } }

/-- Registers from `a` to `a + n - 1` back to their Reset values (00 R7). -/
def State.resetRegs (s : State) (a n : Nat) : State :=
  let keep := fun (c : Nat × Nat) => !(decide (a ≤ c.1) && decide (c.1 < a + n))
  { s with regs := { val := s.regs.val.filter keep, eff := s.regs.eff.filter keep,
                     lo := s.regs.lo.filter keep, hi := s.regs.hi.filter keep } }

/-! ### Engines, drawers, scoreboards -/

/-- Engine `k`. -/
def State.eng (s : State) (k : EngineId) : Engine := vget s.engines k

/-- Engine `k` changed. -/
def State.modEng (s : State) (k : EngineId) (f : Engine → Engine) : State :=
  { s with engines := vmod s.engines k f }

/-- Drawer `d` of engine `k`. -/
def State.drw (s : State) (k : EngineId) (d : Fin 8) : Drawer := vget (s.eng k).drawers d

/-- Drawer `d` of engine `k` changed. -/
def State.modDrw (s : State) (k : EngineId) (d : Fin 8) (f : Drawer → Drawer) : State :=
  s.modEng k (fun e => { e with drawers := vmod e.drawers d f })

/-- Scoreboard entry `e` of drawer `d` changed. -/
def State.modEnt (s : State) (k : EngineId) (d : Fin 8) (e : Nat) (f : SbEntry → SbEntry) : State :=
  s.modDrw k d (fun w => { w with sb := modAt f e w.sb })

/-- Cabinet `c`. -/
def State.cab (s : State) (c : CabId) : Cabinet := vget s.cabs c

/-- Cabinet `c` changed. -/
def State.modCab (s : State) (c : CabId) (f : Cabinet → Cabinet) : State := { s with cabs := vmod s.cabs c f }

/-- Context `x` of cabinet `c`, where it exists. -/
def State.ctx? (s : State) (c : CabId) (x : CtxId) : Option Ctx := vget (s.cab c).ctxs x

/-- The contexts of cabinet `c`, resident or stored, in the order of their numbers. -/
def State.contexts (s : State) (c : CabId) : List CtxId := (List.finRange 72).filter (fun x => (s.ctx? c x).isSome)

/-- Context `x` of cabinet `c` changed, where it exists. -/
def State.modCtx (s : State) (c : CabId) (x : CtxId) (f : Ctx → Ctx) : State :=
  s.modCab c (fun b => { b with ctxs := vmod b.ctxs x (fun o => o.map f) })

/-- A report or interrupt sent (newest first). -/
def State.tell (s : State) (r : Report) : State := { s with out := r :: s.out }

/-- The next free value's number taken (Config): the counter advances. -/
def State.nextFree (s : State) : Nat × State := (s.freeCtr, { s with freeCtr := s.freeCtr + 1 })

/-- Scalar register `i` of a drawer; S0 reads 0 (04 R88). -/
def Drawer.rdS (d : Drawer) (i : Nat) : Nat :=
  if i % 32 = 0 then 0 else (vget d.s (fin 32 (by decide) i)).toNat

/-- Scalar register `i` written; a write to S0 is discarded (04 R88). -/
def Drawer.wrS (d : Drawer) (i v : Nat) : Drawer :=
  if i % 32 = 0 then d else { d with s := vmod d.s (fin 32 (by decide) i) (fun _ => BitVec.ofNat 32 v) }

/-- Predicate `i`; P0 reads 1 (04 R88). -/
def Drawer.rdP (d : Drawer) (i : Nat) : Bool := if i % 8 = 0 then true else vget d.p (fin8 i)

/-- Predicate `i` written; a write to P0 is discarded (04 R88). -/
def Drawer.wrP (d : Drawer) (i : Nat) (b : Bool) : Drawer :=
  if i % 8 = 0 then d else { d with p := vmod d.p (fin8 i) (fun _ => b) }

/-- Descriptor register `i` (04 R88). -/
def Drawer.rdT (d : Drawer) (i : Nat) : Nat := (vget d.t (fin 32 (by decide) i)).toNat
/-- Descriptor register `i` written. -/
def Drawer.wrT (d : Drawer) (i v : Nat) : Drawer :=
  { d with t := vmod d.t (fin 32 (by decide) i) (fun _ => BitVec.ofNat 256 v) }
/-- Loop counter `i`. -/
def Drawer.rdL (d : Drawer) (i : Nat) : Nat := (vget d.l (fin 4 (by decide) i)).toNat
/-- Loop counter `i` written. -/
def Drawer.wrL (d : Drawer) (i v : Nat) : Drawer :=
  { d with l := vmod d.l (fin 4 (by decide) i) (fun _ => BitVec.ofNat 32 v) }
/-- Requantiser register `i`. -/
def Drawer.rdQ (d : Drawer) (i : Nat) : Nat := (vget d.q (fin 4 (by decide) i)).toNat
/-- Requantiser register `i` written. -/
def Drawer.wrQ (d : Drawer) (i v : Nat) : Drawer :=
  { d with q := vmod d.q (fin 4 (by decide) i) (fun _ => BitVec.ofNat 24 v) }
/-- Endpoint register `i` (08 R230). -/
def Drawer.rdE (d : Drawer) (i : Nat) : Nat := (vget d.e (fin8 i)).toNat
/-- Endpoint register `i` written. -/
def Drawer.wrE (d : Drawer) (i v : Nat) : Drawer :=
  { d with e := vmod d.e (fin8 i) (fun _ => BitVec.ofNat 128 v) }
/-- The tag of accumulator set `i` (02 R36). -/
def Drawer.tag (d : Drawer) (i : Nat) : Kind := vget d.tags (fin8 i)
/-- The tag of accumulator set `i` set. -/
def Drawer.setTag (d : Drawer) (i : Nat) (t : Kind) : Drawer := { d with tags := vmod d.tags (fin8 i) (fun _ => t) }

/-- First page of drawer `d`'s window and its number of pages (02 R48). -/
def State.window (s : State) (k : EngineId) (d : Fin 8) : Nat × Nat :=
  (s.rd F.TE_DRW_LM_BASE_PAGE k.val d.val, s.rd F.TE_DRW_LM_PAGES k.val d.val)

/-- The window's size in bytes. -/
def State.winBytes (s : State) (k : EngineId) (d : Fin 8) : Nat := (s.window k d).2 * 16384

/-- The key of byte `off` of drawer `d`'s window (02 R48). -/
def State.lmKey (s : State) (k : EngineId) (d : Fin 8) (off : Nat) : Nat :=
  lmBase k + (s.window k d).1 * 16384 + off

/-- Whether the engine runs with the check DPUs forced (02 R40; always on the Island Engine, 19 R618). -/
def State.chkForce (s : State) (k : EngineId) : Bool :=
  k.val == 16 || s.rdE F.TE_CTRL_CHK_FORCE k.val == 1

/-- A bit of TE_ERR set (02 R59: the error interrupt is up while any bit is 1). -/
def State.teErr (s : State) (k : EngineId) (f : Fld) : State := s.put f k.val 0 1

/-- The range of the private region of the pair (13 R421). -/
def State.inPrivate (s : State) (a n : Nat) : Bool :=
  let b := 0x10000000 + s.isl.privBase * 65536
  s.isl.privSize != 0 && !s.flag F.ISL_PAIR_STAT_MODE && decide (a < b + s.isl.privSize * 65536) && decide (b < a + n)

end Sys2Proof.Machine
end

