-- ==== Sys2Proof/Machine/Operands.lean ====
section
/-! DEFINITION. Instruction words and their operand forms, tensor descriptors, and every decode check
(04 R91-R97, R104; 05 R120-R171; 06 R173-R175, R184; 07 R202-R218). -/

namespace Sys2Proof.Machine

/-! ### Statuses (04 R109; 05 R125; 06 R193; 07 R224; 08 R255; 10 R297) -/

def stOK : Nat := 0x00
def stEMPTY : Nat := 0x01
def stMAP_FULL : Nat := 0x02
def stROW_SKIPPED : Nat := 0x03
def stNBR_TRUNCATED : Nat := 0x04
def stKEEP_FULL : Nat := 0x05
def stVALUE_RESERVED : Nat := 0x06
def stNODE_INVALID : Nat := 0x07
def stILLEGAL_OPCODE : Nat := 0x20
def stILLEGAL_OPERAND : Nat := 0x21
def stLM_BOUNDS : Nat := 0x22
def stPC_BOUNDS : Nat := 0x23
def stFABRIC_ERR : Nat := 0x24
def stPROGRAM_TOO_LARGE : Nat := 0x25
def stMAP_STATE : Nat := 0x26
def stNO_SHARE : Nat := 0x27
def stSTREAM_UNBOUND : Nat := 0x28
def stSEM_OVERFLOW : Nat := 0x29
def stLOOP_DEPTH : Nat := 0x2A
def stPPU_REQUEST : Nat := 0x2B
def stLM_DETECT : Nat := 0x40
def stACC_DETECT : Nat := 0x41
def stIB_DETECT : Nat := 0x42
def stCHECK_FAIL : Nat := 0x43
def stPROGRAM_CRC : Nat := 0x44
def stPPU_DETECT : Nat := 0x45
def stCMU_DETECT : Nat := 0x46
def stSTREAM_POISON : Nat := 0x47
def stMEM_DETECT : Nat := 0x48
def stABORTED : Nat := 0x60
def stFENCED : Nat := 0x61

/-! ### The instruction word (04 R94, R96) -/

/-- A register file of operand kind 0b01 (04 R96). -/
inductive RFile where
  | S | T | A | L | P | Q | E | M
  deriving DecidableEq, Repr

/-- An operand (04 R96); `bad` is an encoding the table does not allow. -/
inductive Opnd where
  | none
  | reg (f : RFile) (n : Nat)
  | acc (first count : Nat)
  | imm (v : Int)
  | bad
  deriving DecidableEq, Repr

/-- The number of registers of a file (04 R88). -/
def RFile.count : RFile → Nat
  | .S => 32 | .T => 32 | .A => 8 | .L => 4 | .P => 8 | .Q => 4 | .E => 8 | .M => 64

/-- File number to file (04 R96). -/
def rfile (n : Nat) : RFile :=
  match n with
  | 0 => .S | 1 => .T | 2 => .A | 3 => .L | 4 => .P | 5 => .Q | 6 => .E | _ => .M

/-- A 12-bit operand field decoded (04 R96, R88). -/
def opnd (w : Nat) : Opnd :=
  let idx := bits w 9 0
  match bits w 11 10 with
  | 0 => if idx = 0 then .none else .bad
  | 1 =>
    if 8 ≤ bits w 9 6 then .bad
    else
      let f := rfile (bits w 9 6)
      if bits w 5 0 < f.count then .reg f (bits w 5 0) else .bad
  | 2 =>
    let n := bits w 5 3 + 1
    let a := bits w 2 0
    if bits w 9 6 = 0 ∧ a + n ≤ 8 then .acc a n else .bad
  | _ => .imm (sext 10 idx)

/-- The fields of an instruction word (04 R94). -/
structure Ins where
  opc : Nat
  cls : Nat
  qct : Nat
  wait : Bool
  chk : Bool
  last : Bool
  yieldOk : Bool
  rsv : Bool
  dst : Opnd
  srca : Opnd
  srcb : Opnd
  mod : Nat
  imm : Nat
  deriving DecidableEq, Repr

/-- An instruction word taken apart (04 R94). -/
def Ins.of (iw : IWord) : Ins :=
  let w := iw.toNat
  { opc := bits w 127 120, cls := bits w 119 116, qct := bits w 115 113, wait := bit w 112, chk := bit w 111,
    last := bit w 110, yieldOk := bit w 109, rsv := bit w 108, dst := opnd (bits w 107 96),
    srca := opnd (bits w 95 84), srcb := opnd (bits w 83 72), mod := bits w 71 64, imm := bits w 63 0 }

/-- The unit class of an opcode; none where it is not assigned (05 R120). PATROL's class is not an engine
program's (04 R95). -/
def opcClass (o : Nat) : Option Nat :=
  if o ≤ 0x06 ∨ (0x08 ≤ o ∧ o ≤ 0x0A) then some 0
  else if 0x10 ≤ o ∧ o ≤ 0x12 then some 1
  else if 0x20 ≤ o ∧ o ≤ 0x23 then some 2
  else if 0x30 ≤ o ∧ o ≤ 0x32 then some 3
  else if o = 0x40 then some 4
  else if o = 0x50 ∨ o = 0x51 then some 5
  else if 0x60 ≤ o ∧ o ≤ 0x64 then some 6
  else if o = 0x70 ∨ o = 0x71 then some 7
  else if 0x80 ≤ o ∧ o ≤ 0x84 then some 8
  else if o = 0xF0 then some 15
  else none

/-- The effective QoS Class Tag (04 R97). -/
def Ins.effQct (i : Ins) (jobQct : Nat) : Nat := min jobQct i.qct

/-! ### Tensor descriptors (04 R91, R92) -/

/-- A tensor descriptor's fields (04 R91). -/
structure Desc where
  valid : Bool
  sel : Nat
  st0 : Nat
  st1 : Nat
  st2 : Nat
  st3 : Nat
  d0 : Nat
  d1 : Nat
  d2 : Nat
  d3 : Nat
  fmt : Nat
  base : Nat
  deriving DecidableEq, Repr

/-- A descriptor taken apart (04 R91). -/
def Desc.of (w : Nat) : Desc :=
  { valid := bit w 255, sel := bits w 207 192, st3 := bits w 191 168, st2 := bits w 167 144,
    st1 := bits w 143 120, st0 := bits w 119 96, d3 := bits w 95 80, d2 := bits w 79 64, d1 := bits w 63 48,
    d0 := bits w 47 32, fmt := bits w 27 24, base := bits w 23 0 }

/-- Element size in bytes of a format (03 R61); one for B4, whose elements are packed two to a byte. -/
def esize (fmt : Nat) : Nat :=
  match fmt with
  | 4 => 2 | 5 => 2 | 6 => 4 | 7 => 4 | _ => 1

/-- Format predicates (03 R61). -/
def fmtInt (f : Nat) : Bool := f == 0 || f == 5 || f == 6
def fmtFp (f : Nat) : Bool := f == 2 || f == 3 || f == 4 || f == 7
def fmtVec (f : Nat) : Bool := fmtInt f || fmtFp f

/-- The number of elements a descriptor names. -/
def Desc.count (t : Desc) : Nat := t.d0 * t.d1 * t.d2 * t.d3

/-- Byte offset of element (i0, i1, i2, i3) (04 R92); for B4 the byte that holds it. -/
def Desc.off (t : Desc) (i0 i1 i2 i3 : Nat) : Nat :=
  t.base + (if t.fmt = 1 then i0 / 2 else i0 * t.st0) + i1 * t.st1 + i2 * t.st2 + i3 * t.st3

/-- The last byte offset of the range an operand reaches (04 R92). -/
def Desc.last (t : Desc) : Nat :=
  t.base + (if t.fmt = 1 then (t.d0 - 1) / 2 else (t.d0 - 1) * t.st0) + (t.d1 - 1) * t.st1 + (t.d2 - 1) * t.st2
    + (t.d3 - 1) * t.st3 + esize t.fmt - 1

/-- The byte range an operand reaches. -/
def Desc.range (t : Desc) : Nat × Nat := (t.base, t.last)

/-- The bytes of one row of an operand: one span where its elements stand side by side, else one an element. -/
def Desc.rowSpans (t : Desc) (i1 i2 i3 : Nat) : List (Nat × Nat) :=
  if t.fmt = 1 ∨ t.st0 = esize t.fmt then [(t.off 0 i1 i2 i3, t.off (t.d0 - 1) i1 i2 i3 + esize t.fmt - 1)]
  else (List.range t.d0).map (fun c => (t.off c i1 i2 i3, t.off c i1 i2 i3 + esize t.fmt - 1))

/-- The bytes that the elements of an operand occupy: those of its range that its strides do not step over. -/
def Desc.spans (t : Desc) : List (Nat × Nat) :=
  (List.range (t.d1 * t.d2 * t.d3)).flatMap (fun n => t.rowSpans (n % t.d1) (n / t.d1 % t.d2) (n / (t.d1 * t.d2)))

/-- R93 with 03 R61 and R65: the descriptor may be used. -/
def Desc.usable (t : Desc) : Bool :=
  t.valid && t.d0 != 0 && t.d1 != 0 && t.d2 != 0 && t.d3 != 0 && decide (t.fmt < 8)
    && (t.fmt != 1 || t.d0 % 2 == 0)

/-- R93 alone, for a layout descriptor, whose FMT is ignored (05 R124). -/
def Desc.shaped (t : Desc) : Bool := t.valid && t.d0 != 0 && t.d1 != 0 && t.d2 != 0 && t.d3 != 0

/-- Equal element counts. -/
def Desc.sameDims (a b : Desc) : Bool := a.d0 == b.d0 && a.d1 == b.d1 && a.d2 == b.d2 && a.d3 == b.d3

/-- A flat element index split into (i0, i1, i2, i3), i0 fastest (04 R92). -/
def Desc.split (t : Desc) (n : Nat) : Nat × Nat × Nat × Nat :=
  (n % t.d0, n / t.d0 % t.d1, n / (t.d0 * t.d1) % t.d2, n / (t.d0 * t.d1 * t.d2))

/-- Byte offset of the n-th element in element order. -/
def Desc.offN (t : Desc) (n : Nat) : Nat :=
  let (a, b, c, d) := t.split n
  t.off a b c d

/-- Neighbours of one 64-byte line put together (04 R106: a transfer yields at line boundaries). -/
def byLine : List (Nat × Nat) → List (List (Nat × Nat))
  | [] => []
  | p :: l =>
    match byLine l with
    | [] => [[p]]
    | [] :: gs => [p] :: gs
    | (q :: g) :: gs => if p.1 / 64 = q.1 / 64 then (p :: q :: g) :: gs else [p] :: (q :: g) :: gs

/-- The descriptor of a T operand. -/
def Drawer.desc (w : Drawer) (o : Opnd) : Desc :=
  match o with
  | .reg .T n => Desc.of (w.rdT n)
  | _ => Desc.of 0

/-! ### Decode checks -/

/-- Two byte ranges share a byte. -/
def overlap (a b : Nat × Nat) : Bool := decide (a.1 ≤ b.2) && decide (b.1 ≤ a.2)

/-- What a decode check finds: nothing, or the status that ends the instruction (04 R104). -/
abbrev Chk := Option Nat

/-- The first finding of a list in order. -/
def firstOf : List Chk → Chk
  | [] => none
  | some c :: _ => some c
  | none :: l => firstOf l

/-- ILLEGAL_OPERAND unless the condition holds. -/
def need (b : Bool) : Chk := if b then none else some stILLEGAL_OPERAND

/-- LM_BOUNDS unless every range lies in a window of `n` bytes (02 R49, R60). -/
def inWindow (n : Nat) (rs : List (Nat × Nat)) : Chk :=
  if rs.all (fun r => decide (r.2 < n)) then none else some stLM_BOUNDS

/-- Kinds of operand a position takes (05 R120). -/
def isNone (o : Opnd) : Bool := o == .none
def isReg (f : RFile) (o : Opnd) : Bool := match o with | .reg g _ => g == f | _ => false
def isAcc (o : Opnd) : Bool := match o with | .acc _ _ => true | _ => false
def isImm (o : Opnd) : Bool := match o with | .imm _ => true | _ => false

/-- Whether the operand kinds are those the opcode map takes (05 R120). -/
def kindsOk (i : Ins) : Bool :=
  let S := isReg .S; let T := isReg .T; let L := isReg .L; let P := isReg .P
  let Q := isReg .Q; let E := isReg .E; let M := isReg .M
  let n := isNone; let A := isAcc; let m := isImm
  let go := fun (d a b : Opnd → Bool) => d i.dst && a i.srca && b i.srcb
  let or2 := fun (f g : Opnd → Bool) (o : Opnd) => f o || g o
  match i.opc with
  | 0x00 => go n n n | 0x01 => go n n n | 0x02 => go n n n | 0x03 => go n n n | 0x04 => go n n n
  | 0x05 => go L (or2 S m) n
  | 0x06 => go n L n
  | 0x08 => go (or2 (or2 S Q) (or2 L n)) (or2 (or2 S Q) (or2 L n)) n
  | 0x09 => go (or2 S P) S (or2 (or2 S m) n)
  | 0x0A => go T (or2 (or2 S T) n) n
  | 0x10 => go T n (or2 T n)
  | 0x11 => go n T (or2 T n)
  | 0x12 => go T T n
  | 0x20 => go A T T | 0x21 => go A T T | 0x22 => go A T T
  | 0x23 => go T T m
  | 0x30 => go T (or2 T A) (or2 (or2 T S) (or2 m n))
  | 0x31 => go (or2 T S) (or2 T A) n
  | 0x32 => go T T T
  | 0x40 => go T A Q
  | 0x50 => go T T T | 0x51 => go T T T
  | 0x60 => go (or2 S n) T T
  | 0x61 => go n n n
  | 0x62 => go T T n
  | 0x63 => go T T T | 0x64 => go T T T
  | 0x70 => go E T n
  | 0x71 => go T E n
  | 0x80 => go n M (or2 S m) | 0x81 => go n M (or2 S m)
  | 0x82 => go n m n
  | 0x83 => go n n n
  | 0x84 => go (or2 S n) T n
  | _ => false

/-- The window immediate of CONV, DWCONV and POOL (05 R144) with the filter size. -/
structure Window where
  pt : Nat
  pb : Nat
  pl : Nat
  pr : Nat
  sy : Nat
  sx : Nat
  dy : Nat
  dx : Nat
  kh : Nat
  kw : Nat
  h : Nat
  w : Nat
  deriving DecidableEq, Repr

/-- Output rows and columns, floor toward minus infinity (06 R173); 0 or less where there is no output. -/
def Window.out (v : Window) : Int × Int :=
  let n := fun (size a b d k st : Nat) =>
    if st = 0 then (0 : Int)
    else fdiv ((size : Int) + a + b - (d : Int) * ((k : Int) - 1) - 1) st + 1
  (n v.h v.pt v.pb v.dy v.kh v.sy, n v.w v.pl v.pr v.dx v.kw v.sx)

/-- Output rows as a number. -/
def Window.oh (v : Window) : Nat := v.out.1.toNat
/-- Output columns as a number. -/
def Window.ow (v : Window) : Nat := v.out.2.toNat

/-- The window of a windowed instruction. -/
def windowOf (i : Ins) (a b : Desc) : Window :=
  let (kh, kw) := match i.opc, i.srcb with
    | 0x23, .imm v => (bits (toU 10 v) 7 4 + 1, bits (toU 10 v) 3 0 + 1)
    | _, _ => (b.d2, b.d1)
  { pt := bits i.imm 63 56, pb := bits i.imm 55 48, pl := bits i.imm 47 40, pr := bits i.imm 39 32,
    sy := bits i.imm 31 24, sx := bits i.imm 23 16, dy := bits i.imm 15 8, dx := bits i.imm 7 0,
    kh := kh, kw := kw, h := a.d2, w := a.d1 }

/-- Accumulator type of an activation and weight format pair, and its K-slice (02 R33). -/
def pairOf (a b : Nat) : Option (Kind × Nat) :=
  if a = 0 ∧ b = 0 then some (.int, 32)
  else if a = 0 ∧ b = 1 then some (.int, 64)
  else if (a = 2 ∨ a = 3) ∧ (b = 2 ∨ b = 3) then some (.fp, 32)
  else if a = 4 ∧ b = 4 then some (.fp, 32)
  else none

/-- Whether the check DPUs run on an instruction (02 R40). -/
def checkRuns (s : State) (k : EngineId) (i : Ins) : Bool := i.chk || s.chkForce k

/-- The checksum row rules of 05 R142. -/
def ctOk (w : Drawer) (ct K N bfmt : Nat) : Bool :=
  let t := Desc.of (w.rdT ct)
  t.usable && t.fmt == (if bfmt = 0 ∨ bfmt = 1 then 5 else 7) && t.d0 == K && t.d1 == cdiv N 32
    && t.d2 == 1 && t.d3 == 1

/-- Ranges a B4 operand adds for a custom codebook (03 R67, R69). -/
def bookRange (b : Desc) : List (Nat × Nat) :=
  if b.fmt = 1 ∧ b.sel ≠ 0 then [(16 * b.sel, 16 * b.sel + 15)] else []

/-- Number of sets of an accumulator operand. -/
def Opnd.nsets : Opnd → Nat
  | .acc _ n => n
  | _ => 0

/-- First set of an accumulator operand. -/
def Opnd.first : Opnd → Nat
  | .acc a _ => a
  | _ => 0

/-- Register number of a register operand. -/
def Opnd.num : Opnd → Nat
  | .reg _ n => n
  | _ => 0

/-- Whether the elements of a shape fill the tiles of an accumulator range exactly (05 R140). -/
def tiled (rows cols sets : Nat) : Bool := cdiv rows 32 * cdiv cols 32 == sets

/-- The ILLEGAL_OPERAND and LM_BOUNDS checks of a DMA instruction (05 R123, R124, R136, R137). -/
def chkDma (w : Drawer) (win : Nat) (i : Ins) : Chk :=
  let t := w.desc (if i.opc = 0x10 then i.dst else i.srca)
  if i.opc = 0x12 then
    let a := w.desc i.srca
    let b := w.desc i.dst
    firstOf [need (i.mod == 0 && i.imm == 0), need (a.usable && b.usable),
      need (a.fmt == b.fmt && a.sameDims b && !overlap a.range b.range), inWindow win [a.range, b.range]]
  else
    firstOf [need (i.mod == 0 && bits i.imm 63 48 == 0), need t.usable,
      need (bits i.imm 47 0 % esize t.fmt == 0),
      (match i.srcb with
       | .none => none
       | o => need (t.fmt != 1 && (w.desc o).shaped && (w.desc o).sameDims t)),
      inWindow win [t.range]]

/-- The checks of MMA (05 R139-R142). -/
def chkMma (s : State) (k : EngineId) (w : Drawer) (win : Nat) (i : Ins) : Chk :=
  let a := w.desc i.srca
  let b := w.desc i.srcb
  let run := checkRuns s k i
  let ct := bits i.mod 7 3
  firstOf [need (bits i.mod 1 0 == 0 && i.imm == 0), need (a.usable && b.usable),
    need ((pairOf a.fmt b.fmt).isSome), need (a.d2 == 1 && a.d3 == 1 && b.d2 == 1 && b.d3 == 1 && a.d0 == b.d0),
    need (!run || ctOk w ct a.d0 b.d1 b.fmt), need (tiled a.d1 b.d1 i.dst.nsets),
    inWindow win ([a.range, b.range] ++ bookRange b ++ (if run then [(Desc.of (w.rdT ct)).range] else []))]

/-- The checks of CONV, DWCONV and POOL in the order of 06 R174. The DST of POOL is tested for VALID and FMT (04 R93; 05 R145)
before the output-size test, for all its counts (06 R175) after it (notes/assumptions/122.md). -/
def chkWindowed (s : State) (k : EngineId) (w : Drawer) (win : Nat) (i : Ins) : Chk :=
  let a := w.desc i.srca
  let b := w.desc i.srcb
  let d := w.desc i.dst
  let pool := i.opc == 0x23
  let v := windowOf i a b
  let (oh, ow) := v.out
  let p := v.oh * v.ow
  let run := checkRuns s k i && i.opc == 0x21
  let ct := bits i.mod 7 3
  let modOk := if pool then bits i.mod 7 4 == 0 else if i.opc = 0x22 then bits i.mod 7 3 == 0 else true
  let n := if i.opc = 0x21 then b.d3 else a.d0
  firstOf [need modOk, need (v.sy != 0 && v.sx != 0 && v.dy != 0 && v.dx != 0), need (a.usable && a.d3 == 1),
    (if pool then
      need (d.valid && d.fmt == a.fmt && (a.fmt == 0 || a.fmt == 2 || a.fmt == 3 || a.fmt == 4)
        && (match i.srcb with | .imm x => bits (toU 10 x) 9 8 == 0 | _ => false))
     else
      need (b.usable && b.d0 == a.d0 && (i.opc == 0x21 || (b.d3 == 1 && b.fmt != 1))
        && (pairOf a.fmt b.fmt).isSome && decide (v.kh ≤ 16) && decide (v.kw ≤ 16))),
    need (bits i.mod 1 0 != 3), need (!run || ctOk w ct (v.kh * v.kw * a.d0) n b.fmt),
    (if oh ≤ 0 ∨ ow ≤ 0 then some stEMPTY else none),
    (if pool then need (d.d0 == a.d0 && d.d1 == v.ow && d.d2 == v.oh && d.d3 == 1) else need (tiled p n i.dst.nsets)),
    inWindow win ([a.range] ++ (if pool then [d.range] else [b.range] ++ bookRange b)
      ++ (if run then [(Desc.of (w.rdT ct)).range] else []))]

/-- The checks of the Vector Unit (05 R151-R154): a VOP is refused for sources of mixed class and for an integer-only operation
on floating-point values (R152), not for the class of its DST. Types of accumulator sources show at start; the counts of one in
VRED are those of notes/assumptions/123.md. -/
def chkVector (w : Drawer) (win : Nat) (i : Ins) : Chk :=
  let d := w.desc i.dst
  let a := w.desc i.srca
  let b := w.desc i.srcb
  let accA := isAcc i.srca
  let tB := isReg .T i.srcb
  let rs := (if isReg .T i.dst then [d.range] else []) ++ (if accA then [] else [a.range])
    ++ (if tB then [b.range] else [])
  match i.opc with
  | 0x30 =>
    let op := bits i.mod 5 0
    let unary := op == 5 || op == 6 || op == 13
    let intOnly := decide (7 ≤ op) && decide (op ≤ 12)
    firstOf [need (bits i.mod 7 6 == 0 && i.imm == 0 && decide (op ≤ 13)), need (unary == isNone i.srcb),
      need (d.usable && fmtVec d.fmt),
      (if accA then need (d.d2 == 1 && d.d3 == 1 && tiled d.d1 d.d0 i.srca.nsets)
       else need (a.usable && fmtVec a.fmt && a.sameDims d)),
      need (!tB || (b.usable && fmtVec b.fmt && b.sameDims d)),
      need (op == 13 || accA || !tB || fmtInt a.fmt == fmtInt b.fmt),
      need (!intOnly || ((accA || fmtInt a.fmt) && (!tB || fmtInt b.fmt))), inWindow win rs]
  | 0x31 =>
    let dim := bits i.mod 4 3
    let dd := fun (x j : Nat) => if dim = j then 1 else x
    let nset := i.srca.nsets
    firstOf [need (bits i.mod 7 5 == 0 && i.imm == 0 && decide (bits i.mod 2 0 ≤ 4)),
      need (accA || (a.usable && fmtVec a.fmt)),
      (if isReg .T i.dst then
        firstOf [need (d.usable && fmtVec d.fmt),
          (if accA then
            need (d.d2 == 1 && d.d3 == 1 && (match dim with
              | 0 => d.d0 == 1 && nset % cdiv d.d1 32 == 0
              | 1 => d.d1 == 1 && nset % cdiv d.d0 32 == 0
              | _ => tiled d.d1 d.d0 nset))
           else need (d.d0 == dd a.d0 0 && d.d1 == dd a.d1 1 && d.d2 == dd a.d2 2 && d.d3 == dd a.d3 3))]
       else need (if accA then decide (dim < 2) || nset == 1 else dd a.d0 0 * dd a.d1 1 * dd a.d2 2 * dd a.d3 3 == 1)),
      inWindow win rs]
  | _ =>
    firstOf [need (i.mod == 0 && i.imm == 0), need (d.usable && a.usable && b.usable),
      need (a.fmt == 0 && fmtVec b.fmt && b.d0 == 256 && b.d1 == 1 && b.d2 == 1 && b.d3 == 1
        && d.fmt == b.fmt && d.sameDims a), inWindow win rs]

/-- The checks of REQ that are decode checks (05 R156, R157; 03 R81). -/
def chkReq (w : Drawer) (win : Nat) (i : Ins) : Chk :=
  let d := w.desc i.dst
  let q := w.rdQ i.srcb.num
  firstOf [need (bits i.mod 7 1 == 0 && bits i.imm 63 12 == 0), need (d.usable && d.fmt == 0),
    need (d.d2 == 1 && d.d3 == 1 && tiled d.d1 d.d0 i.srca.nsets), inWindow win [d.range, (q, q + 15)]]

/-- The table operand of GATHER or SCATTER and the other row operand. -/
def tableOf (w : Drawer) (i : Ins) : Desc × Desc :=
  if i.opc = 0x50 then (w.desc i.srca, w.desc i.dst) else (w.desc i.dst, w.desc i.srca)

/-- The checks of GATHER and SCATTER (05 R158-R161). -/
def chkGather (w : Drawer) (win : Nat) (i : Ins) : Chk :=
  let (t, r) := tableOf w i
  let x := w.desc i.srcb
  let fab := bit i.mod 0
  let md := bits i.mod 2 1
  let f := r.fmt
  let sumOk := f == 6 || f == 7
  let maxOk := f == 0 || f == 5 || f == 6 || f == 4 || f == 7
  firstOf [need (if i.opc = 0x50 then bits i.mod 7 1 == 0
                 else bits i.mod 7 3 == 0 && md != 3),
    need (if fab then bits i.imm 63 48 == 0 else i.imm == 0),
    need (t.usable && r.usable && x.usable),
    need (t.st0 == esize t.fmt && r.st0 == esize r.fmt && t.d2 == 1 && t.d3 == 1 && r.d2 == 1 && r.d3 == 1
      && t.fmt == r.fmt && t.d0 == r.d0 && f != 1),
    need ((x.fmt == 5 || x.fmt == 6) && x.count == r.d1),
    need (i.opc == 0x50 || (if md = 0 then sumOk else if md = 1 then maxOk else true)),
    need (!fab || bits i.imm 47 0 % esize f == 0), inWindow win [r.range, x.range]]

/-- A key tensor (07 R202): I32, D0 = 2. -/
def keyShape (t : Desc) : Bool := t.usable && t.fmt == 6 && t.d0 == 2 && t.d2 == 1 && t.d3 == 1

/-- The column array range of MNBR (05 R163, 07 R218). -/
def colRange (i : Ins) : Nat × Nat :=
  (bits i.imm 23 0, bits i.imm 23 0 + 4 * bits i.imm 47 24 - 1)

/-- The checks of the Map class (05 R163; 07 R202, R209, R210, R218). -/
def chkMap (w : Drawer) (win : Nat) (i : Ins) : Chk :=
  let a := w.desc i.srca
  let b := w.desc i.srcb
  let d := w.desc i.dst
  let vec := fun (t : Desc) (n : Nat) => t.usable && t.fmt == 6 && t.d0 == 1 && t.d1 == n && t.d2 == 1 && t.d3 == 1
  match i.opc with
  | 0x60 => firstOf [need (i.mod == 0 && i.imm == 0), need (keyShape a && vec b a.d1), inWindow win [a.range, b.range]]
  | 0x61 => need (bits i.mod 7 1 == 0 && i.imm == 0)
  | 0x62 => firstOf [need (i.mod == 0 && i.imm == 0), need (keyShape a && vec d a.d1), inWindow win [a.range, d.range]]
  | 0x63 =>
    firstOf [need (i.mod == 0 && i.imm == 0),
      need (keyShape a && keyShape b && d.usable && d.fmt == 6 && d.d0 == b.d1 && d.d1 == a.d1 && d.d2 == 1 && d.d3 == 1),
      inWindow win [a.range, b.range, d.range]]
  | _ =>
    firstOf [need (i.mod == 0 && bits i.imm 63 48 == 0 && bits i.imm 23 0 % 4 == 0),
      need (a.usable && a.fmt == 6 && a.d0 == 1 && a.d2 == 1 && a.d3 == 1
        && b.usable && b.fmt == 6 && b.d1 == 1 && b.d2 == 1 && b.d3 == 1
        && d.usable && d.fmt == 6 && d.d1 == a.d1 && d.d2 == 1 && d.d3 == 1),
      inWindow win ([a.range, b.range, d.range] ++ (if bits i.imm 47 24 = 0 then [] else [colRange i]))]

/-- Flits of a tensor (05 R165): ceil(n × e / 64). -/
def flitsOf (t : Desc) : Nat := cdiv (t.count * esize t.fmt) 64

/-- Endpoint register fields (08 R230). -/
def epBound (e : Nat) : Bool := bit e 127
def epRecv (e : Nat) : Bool := bit e 126
def epQueueKind (e : Nat) : Bool := bits e 125 124 == 1
def epPeerRank (e : Nat) : Nat := bits e 123 120
def epPeerEp (e : Nat) : Nat := bits e 119 117
def epQueue (e : Nat) : Nat := bits e 116 112
def epRing (e : Nat) : Nat := bits e 95 72
def epCount (e : Nat) : Nat := bits e 71 64
def epHead (e : Nat) : Nat := bits e 37 32
def epFlits (e : Nat) : Nat := bits e 31 0

/-- The checks of SEND and RECV (05 R165, 08 R243): no B4, which 03 R61 allows only for the Tensor Array and DMA (05 R158). -/
def chkStream (s : State) (w : Drawer) (win : Nat) (i : Ins) : Chk :=
  let t := w.desc (if i.opc = 0x70 then i.srca else i.dst)
  let e := w.rdE i.dst.num
  firstOf [need (i.mod == 0 && i.imm == 0), need (t.usable && t.fmt != 1),
    need (i.opc == 0x71 || !(epBound e && !epRecv e && epQueueKind e && s.flag F.SN_Q_CFG_MULTI (epQueue e))
      || decide (flitsOf t ≤ 64)),
    inWindow win [t.range]]

/-- The checks of the Sync and PPU class (05 R166-R171, 06 R184). -/
def chkSync (w : Drawer) (win : Nat) (i : Ins) : Chk :=
  let a := w.desc i.srca
  match i.opc with
  | 0x82 => need (i.mod == 0 && i.imm == 0 && (match i.srca with | .imm v => decide (0 ≤ v ∧ v ≤ 15) | _ => false))
  | 0x83 => need (i.mod == 0 && bits i.imm 63 29 == 0)
  | 0x84 =>
    firstOf [need (i.mod == 0 && i.imm == 0),
      need (a.usable && a.fmt == 0 && a.d0 == 64 && a.d1 == 1 && a.d2 == 1 && a.d3 == 1 && a.base % 16 == 0),
      inWindow win [a.range]]
  | _ =>
    need (i.mod == 0 && i.imm == 0 && (match i.srcb with | .imm v => decide (1 ≤ v ∧ v ≤ 511) | _ => true))

/-- The checks of the control and scalar class (05 R121, R126, R129-R135). -/
def chkIssue (w : Drawer) (win : Nat) (i : Ins) : Chk :=
  let S := isReg .S; let Q := isReg .Q; let L := isReg .L; let n := isNone
  match i.opc with
  | 0x03 => need (i.mod == 0 && bits i.imm 63 12 == 0)
  | 0x04 => need (bits i.imm 63 12 == 0 && decide (bits i.mod 7 6 ≤ 1)
      && (bits i.mod 7 6 == 1 || decide (bits i.mod 4 0 ≤ 7)))
  | 0x05 => need (i.mod == 0 && bits i.imm 63 12 == 0 && (match i.srca with | .imm v => decide (0 ≤ v) | _ => true))
  | 0x08 =>
    let op := bits i.mod 2 0
    let sql := fun (o : Opnd) => S o || Q o || L o
    let qval := if op = 0 then bits i.imm 31 0 else if op = 1 then w.rdS i.srca.num else 0
    firstOf [need (bits i.mod 7 3 == 0 && decide (op ≤ 4) && bits i.imm 63 32 == 0
        && (op == 0 || bits i.imm 31 0 == 0)),
      need (match op with
        | 0 => sql i.dst && n i.srca
        | 1 => (S i.dst && sql i.srca) || ((Q i.dst || L i.dst) && S i.srca)
        | 2 => S i.dst && n i.srca
        | 3 => n i.dst && S i.srca
        | _ => S i.dst && n i.srca),
      need (!Q i.dst || (qval % 16 == 0 && decide (qval < 2 ^ 24)))]
  | 0x09 =>
    let op := bits i.mod 3 0
    let immb := bit i.mod 4
    firstOf [need (bits i.mod 7 5 == 0 && decide (op ≤ 11) && bits i.imm 63 32 == 0),
      need (if immb then n i.srcb else !n i.srcb && bits i.imm 31 0 == 0),
      need (if 9 ≤ op then isReg .P i.dst else S i.dst)]
  | 0x0A =>
    let op := bits i.mod 3 0
    firstOf [need (bits i.mod 7 4 == 0 && decide (op ≤ 14)),
      (match op with
       | 12 => need (isReg .T i.srca && i.imm == 0)
       | 13 => need (n i.srca && bits i.imm 63 24 == 0 && bits i.imm 23 0 % 32 == 0)
       | _ => need ((S i.srca || n i.srca) && bits i.imm 63 32 == 0)),
      (if op = 13 then inWindow win [(bits i.imm 23 0, bits i.imm 23 0 + 31)] else none)]
  | _ => need (i.mod == 0 && i.imm == 0)

/-- Every decode check in the order of 04 R104 (06 R174 for windowed instructions): the status of the first
that fails, or none. The Island Engine has no Map, Stream, Sync or PPU instructions (13 R431). -/
def decodeCheck (s : State) (k : EngineId) (d : Fin 8) (i : Ins) : Chk :=
  let w := s.drw k d
  let win := s.winBytes k d
  if opcClass i.opc = none ∨ opcClass i.opc ≠ some i.cls ∨ i.cls = 15 ∨ i.rsv
      ∨ (k.val = 16 ∧ 6 ≤ i.cls) then some stILLEGAL_OPCODE
  else if !kindsOk i then some stILLEGAL_OPERAND
  else
    match i.cls with
    | 0 => chkIssue w win i
    | 1 => chkDma w win i
    | 2 => if i.opc = 0x20 then chkMma s k w win i else chkWindowed s k w win i
    | 3 => chkVector w win i
    | 4 => chkReq w win i
    | 5 => chkGather w win i
    | 6 => chkMap w win i
    | 7 => chkStream s w win i
    | _ => chkSync w win i

/-! ### What an instruction reads and writes (04 R100, R101) -/

/-- Ranges, registers and sets an instruction reads and writes. -/
structure Foot where
  rd : List (Nat × Nat)
  wr : List (Nat × Nat)
  rr : List (RFile × Nat)
  wrr : List (RFile × Nat)
  rs : List Nat
  ws : List Nat
  deriving DecidableEq, Repr

/-- Sets of an accumulator operand. -/
def Opnd.sets (o : Opnd) : List Nat := (List.range o.nsets).map (fun j => o.first + j)

/-- A register operand as a list. -/
def Opnd.regs : Opnd → List (RFile × Nat)
  | .reg f n => [(f, n)]
  | _ => []

/-- The range of a T operand that lies in Local Memory. -/
def rangeOf (w : Drawer) (o : Opnd) : List (Nat × Nat) :=
  match o with
  | .reg .T _ => [(w.desc o).range]
  | _ => []

/-- Every register of a file up to its count, for CHKPT (10 R302). -/
def allRegs : List (RFile × Nat) :=
  ((List.range 32).map (fun n => (RFile.S, n))) ++ ((List.range 32).map (fun n => (RFile.T, n)))
    ++ ((List.range 4).map (fun n => (RFile.L, n))) ++ ((List.range 8).map (fun n => (RFile.P, n)))
    ++ ((List.range 4).map (fun n => (RFile.Q, n))) ++ ((List.range 8).map (fun n => (RFile.E, n)))

/-- The footprint of an instruction (04 R100, R101; 03 R69, R81; 05 R143, R163; 10 R302). -/
def footOf (s : State) (k : EngineId) (d : Fin 8) (i : Ins) : Foot :=
  let w := s.drw k d
  let rT := rangeOf w
  let run := checkRuns s k i && (i.opc == 0x20 || i.opc == 0x21)
  let ct := bits i.mod 7 3
  let ctR := if run then [(Desc.of (w.rdT ct)).range] else []
  let ctr := if run then [(RFile.T, ct)] else []
  match i.cls with
  | 1 =>
    { rd := rT i.srca, wr := rT i.dst, rr := i.dst.regs ++ i.srca.regs ++ i.srcb.regs, wrr := [], rs := [], ws := [] }
  | 2 =>
    if i.opc = 0x23 then
      { rd := rT i.srca, wr := rT i.dst, rr := i.srca.regs ++ i.dst.regs, wrr := [], rs := [], ws := [] }
    else
      { rd := rT i.srca ++ rT i.srcb ++ bookRange (w.desc i.srcb) ++ ctR, wr := [],
        rr := i.srca.regs ++ i.srcb.regs ++ ctr, wrr := [], rs := i.dst.sets, ws := i.dst.sets }
  | 3 =>
    { rd := rT i.srca ++ rT i.srcb, wr := rT i.dst, rr := i.srca.regs ++ i.srcb.regs ++ (if isReg .T i.dst then i.dst.regs else []),
      wrr := if isReg .S i.dst then i.dst.regs else [], rs := i.srca.sets, ws := if i.last then i.srca.sets else [] }
  | 4 =>
    let q := w.rdQ i.srcb.num
    let dd := w.desc i.dst
    let tab := (q, q + 16 + 12 * (bits i.imm 11 0 + dd.d0) - 1)
    { rd := [tab], wr := rT i.dst ++ [tab], rr := i.dst.regs ++ i.srcb.regs, wrr := [], rs := i.srca.sets,
      ws := if i.last then i.srca.sets else [] }
  | 5 =>
    let fab := bit i.mod 0
    let tR := if fab then [] else if i.opc = 0x50 then rT i.srca else rT i.dst
    if i.opc = 0x50 then
      { rd := tR ++ rT i.srcb, wr := rT i.dst, rr := i.dst.regs ++ i.srca.regs ++ i.srcb.regs, wrr := [], rs := [], ws := [] }
    else
      { rd := rT i.srca ++ rT i.srcb ++ tR, wr := tR, rr := i.dst.regs ++ i.srca.regs ++ i.srcb.regs, wrr := [], rs := [], ws := [] }
  | 6 =>
    { rd := rT i.srca ++ rT i.srcb ++ (if i.opc = 0x64 ∧ bits i.imm 47 24 ≠ 0 then [colRange i] else []),
      wr := rT i.dst, rr := i.srca.regs ++ i.srcb.regs ++ (if isReg .T i.dst then i.dst.regs else []),
      wrr := if isReg .S i.dst then i.dst.regs else [], rs := [], ws := [] }
  | 7 =>
    if i.opc = 0x70 then { rd := rT i.srca, wr := [], rr := i.srca.regs, wrr := i.dst.regs, rs := [], ws := [] }
    else { rd := [], wr := rT i.dst, rr := i.dst.regs, wrr := i.srca.regs, rs := [], ws := [] }
  | 8 =>
    if i.opc = 0x83 then
      { rd := [], wr := [], rr := allRegs, wrr := [],
        rs := (List.range 8).filter (fun j => w.tag j != .empty), ws := [] }
    else if i.opc = 0x84 then
      { rd := rT i.srca, wr := [], rr := i.srca.regs, wrr := i.dst.regs, rs := [], ws := [] }
    else { rd := [], wr := [], rr := i.srcb.regs, wrr := [], rs := [], ws := [] }
  | _ =>
    let extra := if i.opc = 0x04 ∧ bits i.mod 7 6 = 0 then [(RFile.P, bits i.mod 4 0)] else []
    let tdr := if i.opc = 0x0A ∧ bits i.mod 3 0 = 13 then [(bits i.imm 23 0, bits i.imm 23 0 + 31)] else []
    { rd := tdr, wr := [], rr := i.srca.regs ++ i.srcb.regs ++ extra,
      wrr := i.dst.regs ++ (if i.opc = 0x06 then i.srca.regs else []), rs := [], ws := [] }

/-- Whether any pair of two lists of ranges overlaps. -/
def anyOverlap (a b : List (Nat × Nat)) : Bool := a.any (fun x => b.any (fun y => overlap x y))

/-- Whether two lists share an element. -/
def anyShared {α : Type} [BEq α] (a b : List α) : Bool := a.any (fun x => b.contains x)

/-- Whether a later instruction of footprint `b` depends on an earlier one of footprint `a` (04 R100). -/
def Foot.blocks (a b : Foot) : Bool :=
  anyOverlap a.wr b.rd || anyOverlap a.rd b.wr || anyOverlap a.wr b.wr
    || anyShared a.wrr b.rr || anyShared a.rr b.wrr || anyShared a.wrr b.wrr
    || anyShared a.ws b.rs || anyShared a.rs b.ws || anyShared a.ws b.ws

end Sys2Proof.Machine
end

