-- ==== Sys2Proof/Machine/Flags.lean ====
section
/-! DEFINITION. What an instruction's status does to its drawer (04 R98, R109-R111), the live page map (04 R89),
undefined destinations, and element access in Local Memory and accumulators. -/

namespace Sys2Proof.Machine

/-- The class of a status (04 R109). -/
def isInfo (st : Nat) : Bool := decide (st < 0x20)
def isProgErr (st : Nat) : Bool := decide (0x20 ≤ st) && decide (st < 0x40)
def isDetect (st : Nat) : Bool := decide (0x40 ≤ st) && decide (st < 0x60)

/-- INFO mask bit k of an informational status other than OK (04 R110). -/
def infoBit (st : Nat) : Word := if st = 0 ∨ !isInfo st then 0 else BitVec.ofNat 32 (2 ^ st)

/-- The TE_ERR bit an engine-internal detection sets (04 R111 step 4; 02 R44, R46, R53), and the bit of
LM_BOUNDS (02 R49). -/
def teErrOf (st : Nat) : Option Fld :=
  if st = 0x40 then some F.TE_ERR_LM_DETECT
  else if st = 0x41 then some F.TE_ERR_ACC_DETECT
  else if st = 0x42 then some F.TE_ERR_IB_DETECT
  else if st = 0x43 then some F.TE_ERR_CHECK_FAIL
  else if st = 0x22 then some F.TE_ERR_LM_BOUNDS
  else none

/-- The fault record after one more faulted instruction (04 R111 step 2): the earliest in program order of the drain under way, the
others counted, saturating at 255 (04 R118's table); the first of a drain replaces an older record (R119 clears it only with the
drawer). The status of a detection is kept until the drain ends (step 4). -/
def Drawer.recordFault (w : Drawer) (word seq st : Nat) : Drawer :=
  let first : Drawer := { w with
    drainDets := if isDetect st then w.drainDets ++ [st] else w.drainDets, fault := some ⟨word, 0, st⟩, faultSeq := seq, faulting := true }
  match w.fault, w.faulting with
  | some f, true =>
    if seq < w.faultSeq then { first with fault := some ⟨word, min 255 (f.extra + 1), st⟩ }
    else { first with fault := some { f with extra := min 255 (f.extra + 1) }, faultSeq := w.faultSeq }
  | _, _ => first

/-- The live bits of the pages that ranges touch (04 R89). -/
def Drawer.markLive (w : Drawer) (rs : List (Nat × Nat)) : Drawer :=
  { w with live := rs.foldl (fun m r =>
      (List.range (r.2 / 16384 + 1 - r.1 / 16384)).foldl
        (fun m i => m ||| BitVec.ofNat 256 (2 ^ (r.1 / 16384 + i))) m) w.live }

/-- The pages that hold the rings of bound receive endpoints, always live (08 R233). -/
def Drawer.ringPages (w : Drawer) : List Nat :=
  ((List.range 8).filter (fun j => epBound (w.rdE j) && epRecv (w.rdE j))).map (fun j => epRing (w.rdE j) / 16384)

/-- The LAST rule on a descriptor operand (04 R98): pages wholly inside its range and wholly outside the
ranges the instruction writes are no longer live, ring pages excepted (08 R233). -/
def Drawer.releasePages (w : Drawer) (r : Nat × Nat) (wr : List (Nat × Nat)) : Drawer :=
  { w with live := (List.range 256).foldl (fun m p =>
      let pg := (p * 16384, p * 16384 + 16383)
      if r.1 ≤ pg.1 ∧ pg.2 ≤ r.2 ∧ !(wr.any (fun x => overlap x pg)) ∧ !w.ringPages.contains p
      then m &&& ~~~(BitVec.ofNat 256 (2 ^ p)) else m) w.live }

/-- Bytes of a key range left undefined: free values (notes/assumptions/2.md), with valid codes. -/
def State.scramble (s : State) (a n : Nat) : State :=
  let (c, s) := s.nextFree
  { s with mem := (s.mem.store ((List.range n).map (fun i => (a + i, Config.freeByte c (a + i))))).1 }

/-- The accumulator sets of an operand left undefined (02 R37, R44). -/
def State.scrambleSets (s : State) (k : EngineId) (d : Fin 8) (sets : List Nat) : State :=
  sets.foldl (fun s a => s.scramble (accAddr k d.val a 0 0) 4096) s

/-- Byte ranges of a drawer's window left undefined (02 R46). -/
def State.scrambleRanges (s : State) (k : EngineId) (d : Fin 8) (rs : List (Nat × Nat)) : State :=
  rs.foldl (fun s r => s.scramble (s.lmKey k d r.1) (r.2 + 1 - r.1)) s

/-- The elements of a destination left undefined (02 R46): not the bytes that its strides step over. -/
def State.scrambleDesc (s : State) (k : EngineId) (d : Fin 8) (t : Desc) : State := s.scrambleRanges k d t.spans

/-- Whether any of some window offsets has a failing code. -/
def State.lmBad (s : State) (k : EngineId) (d : Fin 8) (offs : List Nat) (n : Nat) : Bool :=
  offs.any (fun o => s.mem.anyBad (s.lmKey k d o) n)

/-- `n` bytes at a window offset, little-endian. -/
def State.lmNat (s : State) (k : EngineId) (d : Fin 8) (off n : Nat) : Nat := s.mem.readNat (s.lmKey k d off) n

/-- The raw bits of element (i0, i1, i2, i3) of a descriptor (04 R92); a B4 code is the half of its byte that
03 R65 gives. -/
def State.elem (s : State) (k : EngineId) (d : Fin 8) (t : Desc) (i0 i1 i2 i3 : Nat) : Nat :=
  let v := s.lmNat k d (t.off i0 i1 i2 i3) (esize t.fmt)
  if t.fmt = 1 then (if i0 % 2 = 0 then bits v 3 0 else bits v 7 4) else v

/-- The raw bits of the n-th element of a descriptor in element order. -/
def State.elemN (s : State) (k : EngineId) (d : Fin 8) (t : Desc) (n : Nat) : Nat :=
  let (a, b, c, e) := t.split n
  s.elem k d t a b c e

/-- What the Island Engine, whose Local Memory is island SRAM, may not write there: the private region of the pair, a write of which is
logged and not made (13 R421; notes/assumptions/135.md). -/
def State.barred (s : State) (k : EngineId) (ws : List (Nat × Byte)) : List (Nat × Byte) :=
  if k.val = 16 then ws.filter (fun w => s.inPrivate w.1 1) else []

/-- The Cabin Bus monitor's event of the first barred write. -/
def State.barredLog (s : State) (l : List (Nat × Byte)) : State :=
  match l with
  | [] => s
  | w :: _ => s.tell (.irq "CABIN_MONITOR" w.1)

/-- Bytes written into a window at offsets, granule by granule; the flag tells of a failed partial write
(02 R46). -/
def State.lmStore (s : State) (k : EngineId) (d : Fin 8) (ws : List (Nat × Byte)) : State × Bool :=
  let ws := ws.map (fun w => (s.lmKey k d w.1, w.2))
  let no := s.barred k ws
  let (m, b) := s.mem.store (if no = [] then ws else ws.filter (fun w => !s.inPrivate w.1 1))
  (({ s with mem := m } : State).barredLog no, b)

/-- The byte writes of one element at a window offset. -/
def elemBytes (off fmt v : Nat) : List (Nat × Byte) := runOf off (leBytes v (esize fmt))

/-- An accumulator element (02 R32). -/
def State.acc (s : State) (k : EngineId) (d : Fin 8) (a m n : Nat) : Nat := s.mem.readNat (accAddr k d.val a m n) 4

/-- Whether the parity of an accumulator element fails (02 R37). -/
def State.accBad (s : State) (k : EngineId) (d : Fin 8) (a m n : Nat) : Bool := s.mem.isBad (accAddr k d.val a m n)

/-- An accumulator element written with new parity (02 R37). -/
def State.accW (s : State) (k : EngineId) (d : Fin 8) (a m n v : Nat) : State :=
  { s with mem := ((s.mem.clearBad (accAddr k d.val a m n)).writeBytes (accAddr k d.val a m n) (leBytes v 4)) }

/-- Integer value of raw bits of an integer format. -/
def intOf (fmt v : Nat) : Int :=
  match fmt with
  | 0 => sext 8 v | 5 => sext 16 v | _ => sext 32 v

/-- Floating-point value of raw bits of a floating-point format (03 R71, R72 step 1). -/
def fvOf (fmt v : Nat) : FV :=
  match fmt with
  | 2 => fvE4M3 v | 3 => fvE5M2 v | 4 => fvBf16 v | _ => fvF32 v

/-- Raw bits of an integer saturated to an integer format (05 R152). -/
def intTo (fmt : Nat) (z : Int) : Nat :=
  match fmt with
  | 0 => toU 8 (satS 8 z) | 5 => toU 16 (satS 16 z) | _ => toU 32 (satS 32 z)

/-- Raw bits of FP32 bits converted to a format (03 R74). -/
def f32To (fmt v : Nat) : Nat :=
  match fmt with
  | 2 => f32ToE4M3 v | 3 => f32ToE5M2 v | 4 => f32ToBf16 v | 7 => v
  | 0 => toU 8 (f32ToInt 8 v) | 5 => toU 16 (f32ToInt 16 v) | _ => toU 32 (f32ToInt 32 v)

/-- Raw bits of an exact integer result in a DST of any Vector Unit format (05 R152, R153): saturated to an integer format;
for a floating-point one, which R152 leaves open, saturated to I32 and converted under 03 R74 (notes/assumptions/124.md). -/
def intOut (fmt : Nat) (z : Int) : Nat := if fmtInt fmt then intTo fmt z else f32To fmt (intToF32 (satS 32 z))

/-! ### What an instruction writes -/

/-- Index element `r` of the index tensor of a GATHER or SCATTER (05 R158). -/
def State.gsIndex (s : State) (k : EngineId) (d : Fin 8) (x : Desc) (r : Nat) : Int :=
  intOf x.fmt (s.lmNat k d (x.offN r) (esize x.fmt))

/-- What row `r` of a GATHER or SCATTER does (05 R159, R160; 02 R49): absent, skipped with a status (by its index as an absent
row is, by the window check with its destination left alone), or the table
row, as a window offset or a fabric address. -/
inductive GsRow where
  | absent
  | skip (st : Nat)
  | lm (off : Nat)
  | fab (a : Nat)
  | bad
  deriving DecidableEq, Repr

/-- Row `r` resolved. -/
def State.gsRow (s : State) (k : EngineId) (d : Fin 8) (i : Ins) (r : Nat) : GsRow :=
  let w := s.drw k d
  let (t, _) := tableOf w i
  let x := w.desc i.srcb
  if s.lmBad k d [x.offN r] (esize x.fmt) then .bad
  else
    let v := s.gsIndex k d x r
    if v = -1 then .absent
    else if v < -1 ∨ (t.d1 : Int) ≤ v then .skip stROW_SKIPPED
    else if bit i.mod 0 then .fab (bits i.imm 47 0 + v.toNat * t.st1)
    else
      let o := t.base + v.toNat * t.st1
      if s.winBytes k d < o + t.d0 * esize t.fmt then .skip stLM_BOUNDS else .lm o

/-- The bytes of its drawer's window that the operands of an instruction occupy which it writes (04 R89): the elements of a T
destination; the rows of a GATHER that the window check does not skip (02 R49); the table rows that a SCATTER's indices name;
and, with `table`, the header of a Requantiser table and the byte of each entry of the REQ that holds CLIPPED (03 R75, R82). -/
def State.writesOf (s : State) (k : EngineId) (d : Fin 8) (i : Ins) (table : Bool) : List (Nat × Nat) :=
  let w := s.drw k d
  let t := w.desc i.dst
  match i.opc with
  | 0x50 => (List.range t.d1).flatMap (fun r => if s.gsRow k d i r = .skip stLM_BOUNDS then [] else t.rowSpans r 0 0)
  | 0x51 => (List.range (w.desc i.srca).d1).flatMap (fun r => match s.gsRow k d i r with
      | .lm o => [(o, o + t.d0 * esize t.fmt - 1)]
      | _ => [])
  | 0x40 =>
    let q := w.rdQ i.srcb.num
    let ch := s.lmNat k d (q + 4) 2
    let byte := fun (c : Nat) => q + 16 + 12 * (if ch = 1 then 0 else bits i.imm 11 0 + c) + 3
    t.spans ++ (if table then (q, q + 3) :: (List.range t.d0).map (fun c => (byte c, byte c)) else [])
  | _ => if isReg .T i.dst ∧ i.cls ≠ 0 then t.spans else []

/-- The answer of a unit's start or of one of its units of work: the state, and a status where the instruction
ends there; a status above 255 is noted and the instruction goes on (02 R46, 05 R159), to complete with it. -/
abbrev UnitRes := State × Option Nat

/-- LM_DETECT noted: a partial write failed and the other granules are still written (02 R46). -/
def noteLM : Option Nat := some (256 + stLM_DETECT)

end Sys2Proof.Machine
end

