-- ==== Sys2Proof/Machine/Perf.lean ====
section
/-! DEFINITION. Performance counters and the Precise Sample Buffer (18 R597-R606). The cycles of a unit's work are
timing and are left out (notes/assumptions/24.md); events that are steps of the machine count when they happen. -/

namespace Sys2Proof.Machine

/-- Base key of the sample records of engine `k` (18 R601). -/
def psbBase (k : EngineId) : Nat := 2 ^ 53 + k.val * 8192 + 4096

/-- The performance block of engine `k` returns to its Reset values (18 R597, R600). -/
def State.perfClear (s : State) (k : EngineId) : State :=
  let s : State := { s with mem := s.mem.wipe (psbBase k) 4096 }
  (s.resetRegs (0x40108000 + 0x10000 * k.val) 0x2000).modEng k (fun e => { e with tagNext := false, skid := none })

/-- Whether the counters of engine `k` stand still (18 R599, R606). -/
def State.perfFrozen (s : State) (k : EngineId) : Bool :=
  s.flag F.PERF_FREEZE_FREEZE || s.flag F.TE_PERF_CTL_FREEZE k.val

/-- Records that the buffer of engine `k` holds (18 R601). -/
def State.psbUsed (s : State) (k : EngineId) : Nat :=
  (s.rd F.TE_PSB_WR_WR k.val + 512 - s.rd F.TE_PSB_RD_RD k.val) % 512

/-- Whether a tagged instruction of engine `k` has no record yet (18 R602). -/
def State.tagOpen (s : State) (k : EngineId) : Bool :=
  (List.finRange 8).any (fun d => (s.drw k d).sb.any (fun t => t.tagged.isSome))

/-- Counter `n` of engine `k` wraps (18 R599): OVF; the tag or the lost tag (18 R602); the skid sample (18 R604),
whose instruction, at most 16 later, is a free value (notes/assumptions/2.md). -/
def State.perfOverflow (s : State) (k : EngineId) (n : Nat) : State :=
  let s := (s.put F.TE_PERF_CNT_COUNT k.val n 0).put F.TE_PERF_STAT_OVF k.val 0 (s.rd F.TE_PERF_STAT_OVF k.val ||| 2 ^ n)
  let en := s.flag F.TE_PSB_CFG_EN k.val
  let full := s.psbUsed k == 256
  let s := if en && s.rd F.TE_PSB_CFG_TRIG k.val == n then
      (if full || s.tagOpen k then s.put F.TE_PSB_LOST_LOST k.val 0 (satInc 32 (s.rd F.TE_PSB_LOST_LOST k.val))
       else s.modEng k (fun e => { e with tagNext := true }))
    else s
  if (!en || full) && s.flag F.TE_PERF_SEL_OVF_INT k.val n && !s.flag F.TE_PERF_SKID_VALID k.val
      && (s.eng k).skid.isNone then
    let (c, s) := s.nextFree
    s.modEng k (fun e => { e with skid := some ((Config.freeWord c k.val).toNat % 17) })
  else s

/-- The counters of engine `k` that count an event add 1 (18 R598, R599): every cycle's event aside, only while a
drawer that the select register admits is active, and not in a patrol except events 0x01 and 0x1A. With `level`, the event is a
cycle's, which counters in edge mode leave out (notes/assumptions/24.md). -/
def State.countEvent (s : State) (k : EngineId) (code : Nat) (level : Bool := false) : State :=
  if 16 ≤ k.val ∨ s.perfFrozen k then s
  else (List.range 8).foldl (fun s n =>
    let adm := code == 1 || (match (s.eng k).active with
      | some d => bit (s.rd F.TE_PERF_SEL_DRAWERS k.val n) d.val | none => false)
    if bit (s.rd F.TE_PERF_CTL_EN k.val) n && s.rd F.TE_PERF_SEL_EVENT k.val n == code && adm
        && (!level || !s.flag F.TE_PERF_SEL_MODE k.val n)
        && ((s.eng k).st != .patrol || code == 1 || code == 0x1A) then
      let v := s.rd F.TE_PERF_CNT_COUNT k.val n + 1
      if v = 2 ^ 48 then s.perfOverflow k n else s.put F.TE_PERF_CNT_COUNT k.val n v
    else s) s

/-- A counter of a shared unit wraps (18 R606). -/
def State.unitOverflow (s : State) (u n : Nat) : State :=
  (s.put F.PERF_CNT_COUNT u n 0).put F.PERF_STAT_OVF u 0 (s.rd F.PERF_STAT_OVF u ||| 2 ^ n)

/-- The counters of shared unit `u` (0 Stream Buffer, 1 CMU, 2 fabric, 3 memory) add 1 for an event of a master in a
slice or channel (18 R606); with `level` for the event 0x01, a cycle. -/
def State.countUnit (s : State) (u code m sub : Nat) (level : Bool := false) : State :=
  if s.flag F.PERF_FREEZE_FREEZE ∨ s.flag F.PERF_CTL_FREEZE u then s
  else (List.range 4).foldl (fun s n =>
    if bit (s.rd F.PERF_CTL_EN u) n && s.rd F.PERF_SEL_EVENT u n == code
        && (level || !s.flag F.PERF_SEL_MATCH u n || s.rd F.PERF_SEL_MASTER u n == m)
        && (level || s.rd F.PERF_SEL_SUB u n == 0x3F || s.rd F.PERF_SEL_SUB u n == sub)
        && (!level || !s.flag F.PERF_SEL_MODE u n) then
      let v := s.rd F.PERF_CNT_COUNT u n + 1
      if v = 2 ^ 48 then s.unitOverflow u n else s.put F.PERF_CNT_COUNT u n v
    else s) s

/-- The lowest byte of the first Local Memory operand of an instruction; 0xFF_FFFF where there is none (18 R603). -/
def lmOperand (w : Drawer) (i : Ins) : Nat :=
  let fab := i.cls == 5 && bit i.mod 0
  let o := if isReg .T i.dst && !(i.cls == 1 && i.opc == 0x11) && !(fab && i.opc == 0x51) then some i.dst
    else if isReg .T i.srca && !(i.cls == 1 && i.opc == 0x10) && !(fab && i.opc == 0x50) then some i.srca
    else if isReg .T i.srcb then some i.srcb else none
  match o with
  | some o => bits (w.desc o).range.1 23 0
  | none => 0xFFFFFF

/-- The record of a tagged instruction (18 R603). -/
def State.psbRecord (s : State) (k : EngineId) (d : Fin 8) (word : Nat) (iw : IWord) (st latency issued : Nat)
    (drained : Bool) : State :=
  let i := Ins.of iw
  let l := leBytes (word % 4096 + d.val * 4096 + 32768) 2 ++ leBytes i.opc 1 ++ leBytes st 1 ++ leBytes (min latency 0xFFFFFF) 3
    ++ leBytes (b2n drained + 2 * b2n i.wait) 1 ++ leBytes (lmOperand (s.drw k d) i) 3 ++ leBytes i.cls 1 ++ leBytes issued 4
  let n := s.rd F.TE_PSB_WR_WR k.val
  ({ s with mem := (s.mem.store (runOf (psbBase k + 16 * (n % 256)) l)).1 } : State).put F.TE_PSB_WR_WR k.val 0 ((n + 1) % 512)

/-- The time of engine `k`'s counter block (18 R597). -/
def State.perfTime (s : State) (k : EngineId) : Nat := s.rd F.TE_PERF_TIME_CYCLES k.val

/-- The record of a scoreboard entry, where it is tagged (18 R603); a decode failure has latency 1. -/
def State.sample (s : State) (k : EngineId) (d : Fin 8) (t : SbEntry) (st : Nat) (drained : Bool) : State :=
  match t.tagged with
  | none => s
  | some at_ =>
    let lat := if t.st = .done ∧ (decodeCheck s k d (Ins.of t.iw)).isSome then 1 else s.perfTime k - at_
    s.psbRecord k d t.word t.iw st lat at_ drained

/-- The skid sample of engine `k` latched (18 R604). -/
def State.skidLatch (s : State) (k : EngineId) (d : Fin 8) (word : Nat) (drained : Bool) : State :=
  ((((s.put F.TE_PERF_SKID_VALID k.val 0 1).put F.TE_PERF_SKID_DRAINED k.val 0 (b2n drained)).put F.TE_PERF_SKID_DRAWER k.val 0
    d.val).put F.TE_PERF_SKID_WORD k.val 0 word).modEng k (fun e => { e with skid := none })

/-- An instruction at a word leaves the issue unit (18 R598 event 0x03, R604). -/
def State.leftIssue (s : State) (k : EngineId) (d : Fin 8) (word : Nat) : State :=
  let s := match (s.eng k).skid with
    | some 0 => s.skidLatch k d word false
    | some (n + 1) => s.modEng k (fun e => { e with skid := some n })
    | none => s
  s.countEvent k 3

/-- What a drain or a squash does to the samples of a drawer (18 R603, R604): a record for the tagged instruction, and
the skid sample of the saved next-issue word. -/
def State.samplesOut (s : State) (k : EngineId) (d : Fin 8) (st : Nat) (drained : Bool) : State :=
  let w := s.drw k d
  let s := w.sb.foldl (fun s t => if t.st = .done then s else s.sample k d t st drained) s
  let s := s.modDrw k d (fun w => { w with sb := w.sb.map (fun t => if t.st = .done then t else { t with tagged := none }) })
  if (s.eng k).skid.isSome then s.skidLatch k d w.pc true else s

end Sys2Proof.Machine
end

