-- ==== Sys2Proof/Machine/Fabric.lean ====
section
/-! DEFINITION. Accesses to device memory over the main fabric and the Cabin Bus: the address map (12 R380-R382,
R393, R395), worlds, watermarks and Lockers (14 R459-R475), Stream Buffer shares (12 R399), the VF view
(15 R511-R513, R536), the codes and the error logs (12 R386, R387, R391, R651; 10 R297, R298), the budgets
(12 R405, R406). -/

namespace Sys2Proof.Machine

/-- Whether power domain `d` is on (17; PMC_PD_STAT). -/
def State.pd (s : State) (d : Nat) : Bool := bit (s.rd F.PMC_PD_STAT_ON) d

/-- Whether every domain from `a` to `b` is on. -/
def State.pds (s : State) (a b : Nat) : Bool := (List.range (b + 1 - a)).all (fun i => s.pd (a + i))

/-- The cabinet that holds engine `k` (09 R260). -/
def State.holder (s : State) (k : Nat) : Option CabId :=
  (List.finRange 8).find? (fun c => ((s.cab c).live || s.flag F.SCH_CAB_CFG_EN c.val) && bit (s.rd F.SCH_CAB_ENG_ENGINES c.val) k)

/-- The engine whose POST a PPU serves: the head of its requests (06 R183). -/
def State.served (s : State) (c : Fin 4) : Option EngineId := (vget s.ppus c).head?.map (fun r => r.eng)

/-- The cabinet on whose behalf a master works, where it is an engine, a PPU or a Reject Log (15 R511, R512). -/
def State.cabOf (s : State) (m : Master) : Option CabId :=
  match m with
  | .te k => if k.val = 16 then none else s.holder k.val
  | .ppu c => (s.served c).bind (fun k => s.holder k.val)
  | .rlog c => some c
  | _ => none

/-- The world of a master's transactions (14 R459): true is Secure. -/
def State.worldOf (s : State) (m : Master) : Bool :=
  match m with
  | .te k => if k.val = 16 then s.isl.ieWorld
             else match s.holder k.val with | some c => s.flag F.SEC_CAB_SECURE c.val | none => false
  | .ppu _ => match s.cabOf m with | some c => s.flag F.SEC_CAB_SECURE c.val | none => false
  | .rlog c => s.flag F.SEC_CAB_SECURE c.val
  | .cc _ => true
  | .sch => true
  | .sec => true
  | .pcie _ => false
  | .port n => bit (s.rd F.SEC_MWORLD_SECURE) n.val
  | .isl i => vget s.isl.world i
  | .can n => bit (s.rd F.ISL_INT_WORLD_SECURE) (Config.islSource n.val).val
  | .lin n => bit (s.rd F.ISL_INT_WORLD_SECURE) (Config.islSource (12 + n.val)).val
  | .ethDma => bit (s.rd F.ISL_INT_WORLD_SECURE) (Config.islSource 16).val
  | .arb => true
  | .mbox b => b

/-- The Locker tag of a master's transactions (14 R459). -/
def State.tagOf (s : State) (m : Master) : Option Nat :=
  match m with
  | .isl i => (vget s.isl.tag i).map (fun t => t.val)
  | _ => match s.cabOf m with
    | some c => if s.flag F.SEC_CAB_LKR_VALID c.val then some (s.rd F.SEC_CAB_LOCKER c.val) else none
    | none => none

/-- The regions of the address map (12 R380). -/
inductive Region where
  | rom | sram | cabin | regs | hyper | sbuf | flash | lpddr | outbound | unmapped
  deriving DecidableEq, Repr

/-- Usable bytes of HyperRAM port `n` (12 R393). -/
def State.hyperBytes (s : State) (n : Nat) : Nat :=
  let c := if n = 0 then s.rd F.MEM_CFG_HYP0 else s.rd F.MEM_CFG_HYP1
  if c = 0 ∨ 4 < c then 0 else 2 ^ (22 + c) / 16 * 15

/-- The first address past the usable LPDDR5X (12 R384). -/
def State.lpddrEnd (s : State) : Nat := 0x100000000 + (s.rd F.MEM_CFG_CAP + 1) * 2 ^ 34 / 32 * 31

/-- The region of an address (12 R380, R384, R393). -/
def State.region (s : State) (a : Nat) : Region :=
  if a < 0x40000 then .rom
  else if 0x10000000 ≤ a ∧ a < 0x10400000 then .sram
  else if 0x20000000 ≤ a ∧ a < 0x24000000 then .cabin
  else if 0x40000000 ≤ a ∧ a < 0x60000000 then .regs
  else if 0x60000000 ≤ a ∧ a < 0x60000000 + s.hyperBytes 0 then .hyper
  else if 0x64000000 ≤ a ∧ a < 0x64000000 + s.hyperBytes 1 then .hyper
  else if 0x80000000 ≤ a ∧ a < 0x82000000 then .sbuf
  else if 0x90000000 ≤ a ∧ a < 0xB0000000 then .flash
  else if 0x100000000 ≤ a ∧ a < s.lpddrEnd then .lpddr
  else if 0x4000000000 ≤ a ∧ a < 0x8000000000 then .outbound
  else .unmapped

/-- Whether a master reaches a region with a read or a write (12 R380, R395; 13 R431). The register regions
are reached by register accesses, not by memory accesses. -/
def State.reaches (s : State) (m : Master) (write : Bool) (r : Region) : Bool :=
  match r with
  | .rom => m.isSec && !write
  | .sram => m.cabin || m.isSec || (match m with | .cc _ => !write | _ => false)
  | .hyper => (match m with | .isl _ => true | .te k => k.val == 16 | _ => m.isSec && !s.isl.running)
  | .flash => !write && !(match m with | .te k => k.val == 16 | _ => m.cabin && (match m with | .isl _ => false | _ => true))
  | .sbuf | .lpddr => !(match m with | .te k => k.val == 16 | _ => m.cabin && (match m with | .isl _ => false | _ => true))
  | .outbound => (match m with | .pcie _ => false | .te k => k.val != 16 | .isl _ => true | _ => !m.cabin)
  | _ => false

/-- Whether the memory of an address is powered (12 R382, R383, R392, R397; 19 R609). -/
def State.memOn (s : State) (r : Region) (a : Nat) : Bool :=
  match r with
  | .lpddr => s.pds 33 40
  | .sbuf => s.pd (24 + (a - 0x80000000) / 2 ^ 23)
  | .hyper => s.pd (if a < 0x64000000 then 57 else 58)
  | .flash => s.pd 59
  | .sram => s.pd 2
  | .rom => s.pd 32
  | _ => true

/-- Why an access is refused. -/
inductive AccErr where
  | range | power | monitor | view
  | viol (kind : Nat)
  deriving DecidableEq, Repr

/-- Whether an address is Secure under its memory's watermark (14 R465). -/
def State.secureAddr (s : State) (a : Nat) : Bool :=
  if 0x100000000 ≤ a ∧ a < 0x4000000000 then decide (a - 0x100000000 < s.rd F.SEC_WM_LIMIT 0 * 2 ^ 20)
  else if 0x60000000 ≤ a ∧ a < 0x70000000 then decide (a - 0x60000000 < s.rd F.SEC_WM_LIMIT 1 * 2 ^ 16)
  else if 0x80000000 ≤ a ∧ a < 0x82000000 then decide (a - 0x80000000 < s.rd F.SEC_WM_LIMIT 2 * 4096)
  else if 0x10000000 ≤ a ∧ a < 0x10400000 then decide (a - 0x10000000 < s.rd F.SEC_WM_LIMIT 3 * 4096)
  else false

/-- Whether watermark checks apply (14 R463). -/
def State.wmOn (s : State) : Bool := bit (s.rd F.SEC_CFG_MODE) 0
/-- Whether Locker checks apply (14 R463). -/
def State.lkrOn (s : State) : Bool := bit (s.rd F.SEC_CFG_MODE) 1

/-- First byte, end of the code part and end of Locker `n` (14 R469). -/
def State.lockerSpan (s : State) (n : Nat) : Nat × Nat × Nat :=
  let b := s.rd F.SEC_LKR_BASE_BASE n * 4096
  (b, b + s.rd F.SEC_LKR_SIZE_CODE n * 4096, b + s.rd F.SEC_LKR_SIZE_SIZE n * 4096)

/-- The Locker check of R470 for an access of `n` bytes at `a`. -/
def State.lockerCheck (s : State) (m : Master) (write : Bool) (a n : Nat) : Option AccErr :=
  if m = .sec then none
  else
    let hit := (List.range 16).filterMap (fun l =>
      let (b, c, e) := s.lockerSpan l
      if s.flag F.SEC_LKR_BASE_VALID l ∧ a < e ∧ b < a + n then
        if s.tagOf m ≠ some l then some (AccErr.viol 1)
        else if write ∧ a < c then some (AccErr.viol 2) else none
      else none)
    hit.head?

/-- The requester function of a master's outbound requests (15 R513). -/
def State.requester (s : State) (m : Master) : Fin 33 :=
  match s.cabOf m with
  | some c => if (s.cab c).flash then 0 else fin 33 (by decide) (s.cab c).fn
  | none => 0

/-- Whether an access of `n` bytes at device address `a` is refused, and why. -/
def State.refuse (s : State) (m : Master) (write : Bool) (a n : Nat) : Option AccErr :=
  let r := s.region a
  let z := a + (n - 1)
  if r = .unmapped ∨ s.region z ≠ r ∨ !s.reaches m write r then some .range
  else if !s.memOn r a || !s.memOn r z then some .power
  else if r == .sbuf && (match m with | .te _ => true | _ => false) &&
      !(match s.cabOf m with
        | some c => s.flag F.SBUF_SHARE_EN c.val && decide (0x80000000 + s.rd F.SBUF_SHARE_BASE c.val * 4096 ≤ a)
            && decide (z < 0x80000000 + (s.rd F.SBUF_SHARE_BASE c.val + s.rd F.SBUF_SHARE_SIZE c.val) * 4096)
        | none => false) then some .range
  else if r == .sram && write && s.inPrivate a n && !(match m with | .isl _ => true | _ => false) then some .monitor
  else if r = .outbound ∧ (!(vget s.fns (s.requester m)).bme || !s.linkUp
      || (vget s.fns (s.requester m)).st == .resetting) then some .view
  else if s.wmOn ∧ !s.worldOf m ∧ (s.secureAddr a ∨ s.secureAddr z) then some (.viol 0)
  else if s.lkrOn then s.lockerCheck m write a n else none

/-- LPDDR5X channel or Stream Buffer slice of an address; 0 for other targets (12 R385, R391). -/
def chOf (a : Nat) : Nat :=
  if 0x100000000 ≤ a ∧ a < 0x4000000000 then (a - 0x100000000) / 256 % 32
  else if 0x80000000 ≤ a ∧ a < 0x82000000 then (a - 0x80000000) / 2 ^ 23
  else 0

/-- Where the memory controller places a line (12 R385): channel, data line, CRC line, and the slot of its CRC-16. -/
structure LinePlace where
  ch : Nat
  dataLine : Nat
  crcLine : Nat
  slot : Nat
  deriving DecidableEq, Repr

/-- The place of the line of a usable LPDDR5X address (12 R385). -/
def linePlace (a : Nat) : LinePlace :=
  let l := (a - 0x100000000) / 64
  let j := l / 128 * 4 + l % 4
  ⟨l / 4 % 32, j / 31 * 32 + j % 31, j / 31 * 32 + 31, j % 31⟩

/-- The usable address of data slot `x` of row group `g` of a channel: the inverse of R385's procedure. -/
def lineAddr (ch g x : Nat) : Nat :=
  let j := g * 31 + x
  0x100000000 + (j / 4 * 128 + ch * 4 + j % 4) * 64

/-- A CRC line of a channel (12 R385; 10 R296): the CRC-16 of slot s at bytes 2s and 2s + 1, and bytes 62 and 63 zero. -/
def State.crcLine (s : State) (ch g : Nat) : List Byte :=
  (List.range 31).flatMap (fun x => leBytes (crc16 (s.mem.readBytes (lineAddr ch g x) 64)) 2) ++ [0, 0]

/-- The group and slot of a usable HyperRAM granule, by its offset in its port's window (12 R394). -/
def granPlace (o : Nat) : Nat × Nat := (o / 32 / 15, o / 32 % 15)

/-- The channel or slice that the error log names for an address: 0 for a target that is neither (12 R391). -/
def State.chAt (s : State) (a : Nat) : Nat := if s.region a = .lpddr ∨ s.region a = .sbuf then chOf a else 0

/-- The memory system's error log (12 R391): kinds 0 DETECT, 1 RANGE, 2 POWER, 3 RMW. -/
def State.memLog (s : State) (kind a m : Nat) : State :=
  if !s.pd 61 then s else
  let bitF := match kind with
    | 0 => F.MEM_ERR_DETECT | 1 => F.MEM_ERR_RANGE | 2 => F.MEM_ERR_POWER | _ => F.MEM_ERR_RMW
  let s := s.put0 bitF 1
  if s.flag F.MEM_ERR_ADDR_VALID then s.put0 F.MEM_ERR_INFO_COUNT (satInc 16 (s.rd F.MEM_ERR_INFO_COUNT))
  else
    ((((s.put0 F.MEM_ERR_ADDR_ADDR a).put0 F.MEM_ERR_ADDR_VALID 1).put0 F.MEM_ERR_INFO_MASTER m).put0
      F.MEM_ERR_INFO_KIND kind).put0 F.MEM_ERR_INFO_CH (s.chAt a)

/-- The violation log (14 R475), with its Secure interrupt to the island. -/
def State.violLog (s : State) (kind a : Nat) (m : Master) : State :=
  let s := (s.put0 F.SEC_ERR_VIOL 1).tell (.irq "SEC_VIOL" 0)
  if s.flag F.SEC_VIOL_ADDR_VALID then s.put0 F.SEC_VIOL_INFO_COUNT (satInc 16 (s.rd F.SEC_VIOL_INFO_COUNT))
  else
    let t := s.tagOf m
    ((((((s.put0 F.SEC_VIOL_ADDR_ADDR a).put0 F.SEC_VIOL_ADDR_VALID 1).put0 F.SEC_VIOL_INFO_MASTER m.num).put0
      F.SEC_VIOL_INFO_WORLD (b2n (s.worldOf m))).put0 F.SEC_VIOL_INFO_LKR_VALID (b2n t.isSome)).put0
      F.SEC_VIOL_INFO_LOCKER (t.getD 0)).put0 F.SEC_VIOL_INFO_KIND kind

/-- What the log of a refused access records (12 R381, R382, R391; 13 R419, R421; 14 R475). -/
def State.logRefusal (s : State) (e : AccErr) (a : Nat) (m : Master) : State :=
  match e with
  | .range => s.memLog 1 a m.num
  | .power => s.memLog 2 a m.num
  | .monitor => s.tell (.irq "CABIN_MONITOR" a)
  | .view => s
  | .viol k => s.violLog k a m

/-- A VF-view address translated on behalf of a cabinet (15 R511, R512); none where it has no device address. -/
def State.viewAddr (s : State) (f : Fin 33) (c : Option CabId) (a n : Nat) : Option Nat :=
  let fn := vget s.fns f
  if 0x100000000 ≤ a ∧ a + n ≤ 0x100000000 + 2 ^ s.winLog2 then fn.win.map (fun b => b + (a - 0x100000000))
  else if 0x80000000 ≤ a ∧ a < 0x82000000 then
    match c with
    | some c =>
      if s.flag F.SBUF_SHARE_EN c.val ∧ a + n ≤ 0x80000000 + s.rd F.SBUF_SHARE_SIZE c.val * 4096
      then some (a + s.rd F.SBUF_SHARE_BASE c.val * 4096) else none
    | none => none
  else if 0x4000000000 ≤ a ∧ a + n ≤ 0x8000000000 then some a
  else none

/-- The device address of a master's request: translated for a cabinet assigned to a VF, itself otherwise. -/
def State.toDevice (s : State) (m : Master) (a n : Nat) : Option Nat :=
  match s.cabOf m with
  | some c =>
    if (s.cab c).flash ∨ (s.cab c).fn = 0 then some a
    else s.viewAddr (fin 33 (by decide) (s.cab c).fn) (some c) a n
  | none => some a

/-- Whether an access to a device address waits, since its Stream Buffer slice is powered and not READY (12 R398). -/
def State.sliceWaits (s : State) (a : Nat) : Bool :=
  s.region a == .sbuf && s.memOn .sbuf a && !bit (s.rd F.SBUF_STAT_READY) ((a - 0x80000000) / 2 ^ 23)

/-- Whether a request of a master at an urgency leaves its port in this window (12 R406). -/
def State.leaves (s : State) (m : Master) (urg : Nat) : Bool :=
  let lim := s.rdE F.QOS_M_BUDGET_LIMIT m.num
  lim == 0 || decide (s.rd F.QOS_M_USED_USED m.num < lim) || decide (2 ≤ urg)

/-- Whether a master's request at a supplied address is served now: its port lets it leave in this window (12 R406), and its Stream
Buffer slice is ready (12 R398). -/
def State.portServes (s : State) (m : Master) (a : Nat) (urg : Nat := 0) : Bool :=
  match s.toDevice m a 1 with
  | some x => (s.region x != .lpddr || s.leaves m urg) && !s.sliceWaits x
  | none => true

/-- The answer of a memory access: a status (OK, FABRIC_ERR for an error response of refusal, MEM_DETECT for one
of detection) and the bytes a read returns. -/
structure FabRes where
  st : Nat
  data : List Byte
  deriving DecidableEq, Repr

/-- The first keys of the granules that `n` bytes at `a` touch. -/
def granules (a n : Nat) : List Nat :=
  let g := granOf a
  (List.range (cdiv (a % g + n) g)).map (fun i => (a / g + i) * g)

/-- Units charged for an LPDDR5X request (12 R405); `dense` tells that a write covers its whole span. -/
def units (write : Bool) (a n : Nat) (dense : Bool) : Nat :=
  ((granules a n).map (fun l =>
    if !write then 1 else if dense ∧ a ≤ l ∧ l + 64 ≤ a + n then 1 else 2)).foldl (· + ·) 0

/-- Bytes of the request FIFO of a port with an urgency source; 0 without one (12 R402). -/
def fifoSize (p : Nat) : Nat :=
  if 29 ≤ p ∧ p ≤ 32 then 65536 else if p = 33 ∨ p = 34 then 32768 else if p = 35 then 262144 else if p = 36 then 4096 else 0

/-- The urgency that a port drives while its FIFO holds `fill` bytes (12 R410, R416): the number of the thresholds T1 to T3, in
whatever order they are set, that the fill has crossed, or, for a compositor's read FIFO, the free space. -/
def State.urgency (s : State) (p fill : Nat) : Nat :=
  let n := fifoSize p
  let x := if p = 33 ∨ p = 34 then n - fill else fill
  if n = 0 then 0
  else ([s.rd F.QOS_M_CFG_T1 p, s.rd F.QOS_M_CFG_T2 p, s.rd F.QOS_M_CFG_T3 p].filter (fun t => t != 0 && decide (t * n ≤ 16 * x))).length

/-- The class of a master's requests (12 R402, R403; 04 R97). -/
def State.reqClass (s : State) (m : Master) : Nat :=
  match m with
  | .te k => if k.val = 16 then s.rd F.QOS_M_CFG_CLASS m.num else (s.eng k).reqQct
  | .ppu c => match s.served c with | some k => (s.eng k).jobQct | none => 0
  | .rlog _ => s.ms.rlogQct
  | _ => s.rd F.QOS_M_CFG_CLASS m.num

/-- Whether a request of a master at an urgency leaves its port inside guarantee (12 R406). -/
def State.insideGuar (s : State) (m : Master) (urg : Nat) : Bool :=
  decide (s.rd F.QOS_M_USED_USED m.num < s.rdE F.QOS_M_BUDGET_GUAR m.num) || decide (1 ≤ urg)

/-- What a request of a master at an urgency carries (12 R402, R406, R410). -/
def State.portReq (s : State) (m : Master) (urg : Nat) : PortReq := ⟨m.num, s.reqClass m, urg, s.insideGuar m urg⟩

/-- A request that leaves its port, and its charge (12 R402, R405); it is recorded at urgency 0 (12 R410; LPDDR5X_READ and
LPDDR5X_WRITE record the level that they state). -/
def State.charge (s : State) (m : Master) (write : Bool) (a n : Nat) (dense : Bool := true) : State :=
  if m.cabin && m.num != 36 then s
  else
    let s : State := { s with ms := { s.ms with req := some (s.portReq m 0) } }
    if s.region a = .lpddr then
      let u := s.rd F.QOS_M_USED_USED m.num + units write a n dense
      s.put F.QOS_M_USED_USED m.num 0 (min u (2 ^ 32 - 1))
    else s

/-- A CRC line in its cache: it stays if held, else it is read and takes the place of the line that leaves a full cache; a write
marks it for writing back (12 R386, R387, R394). -/
def crcTouch (c line : Nat) (write : Bool) (l : List (Nat × Bool)) : List (Nat × Bool) :=
  if l.any (fun p => p.1 == line) then l.map (fun p => if p.1 = line then (p.1, p.2 || write) else p)
  else
    let cap := if c < 32 then 64 else 16
    (line, write) :: (if l.length < cap then l else l.eraseIdx (Config.crcVictim c (l.map (fun p => p.1)) % cap))

/-- The cached CRC line of a line or granule that is read or written. -/
def State.touchCrc (s : State) (c line : Nat) (write : Bool) : State :=
  { s with ms := { s.ms with crc := vmod s.ms.crc (fin 34 (by decide) c) (crcTouch c line write) } }

/-- Whether a channel or a HyperBus port holds a CRC line. -/
def State.crcHeld (s : State) (c line : Nat) : Bool := (vget s.ms.crc (fin 34 (by decide) c)).any (fun p => p.1 == line)

/-- Every CRC line written back and dropped: before self-refresh, and with the loss of power (12 R387). -/
def State.flushCrc (s : State) (cs : List Nat) : State :=
  cs.foldl (fun (s : State) c => { s with ms := { s.ms with crc := vmod s.ms.crc (fin 34 (by decide) c) (fun _ => []) } }) s

/-- One LPDDR5X line that an access touches (12 R386, R387; 18 R606): a partial write reads the line before it writes it, and a
CRC line that is not held is read. -/
def State.lineAccess (s : State) (m : Master) (write whole : Bool) (g : Nat) : State :=
  let p := linePlace g
  let s := if !write || !whole then s.countUnit 3 0x40 m.num p.ch else s
  let s := if s.crcHeld p.ch p.crcLine then s else s.countUnit 3 0x42 m.num p.ch
  let s := s.touchCrc p.ch p.crcLine write
  if write then s.countUnit 3 0x41 m.num p.ch else s

/-- What an access of a master does in the units it meets (18 R606; 12 R386, R387, R394): a request that leaves its port, the
64-byte pieces a slice serves, the lines a channel is sent, the CRC lines held. -/
def State.countAccess (s : State) (m : Master) (write : Bool) (a n : Nat) (dense : Bool := true) : State :=
  let s := s.countUnit 2 0x30 m.num 0
  match s.region a with
  | .sbuf => iter (fun i s => s.countUnit 0 (if write then 0x11 else 0x10) m.num (chOf (a / 64 * 64 + 64 * i)))
      (cdiv (a % 64 + n) 64) s
  | .lpddr => (granules a n).foldl (fun s g => s.lineAccess m write (dense && decide (a ≤ g ∧ g + 64 ≤ a + n)) g) s
  | .hyper => (granules a n).foldl (fun s g =>
      if g < 0x64000000 then s.touchCrc 32 (granPlace (g - 0x60000000)).1 write
      else s.touchCrc 33 (granPlace (g - 0x64000000)).1 write) s
  | _ => s

/-- The HyperBus port of an address and its offset in the window (12 R393). -/
def hbPort (a : Nat) : Nat × Nat := (if a < 0x64000000 then 0 else 1, a - 0x60000000)

/-- A HyperRAM read that failed both attempts (10 R298, R330; 19 R627). -/
def State.hbFail (s : State) (g : Nat) : State :=
  let (n, o) := hbPort g
  let s : State := { s with isl := { s.isl with faultN := true } }
  let s := (s.put F.HB_STAT_CRC_FAIL n 0 1).put F.HB_FAIL_CNT_CNT n 0 (satInc 32 (s.rd F.HB_FAIL_CNT_CNT n))
  if s.flag F.HB_ERR_ADDR_VALID n then s
  else (s.put F.HB_ERR_ADDR_VALID n 0 1).put F.HB_ERR_ADDR_OFFSET n 0 o

/-- A read of `n` bytes by a master (12 R381, R386, R388, R394, R397; 10 R297, R298). -/
def State.fabRead (s : State) (m : Master) (a n : Nat) : State × FabRes :=
  match s.toDevice m a n with
  | none => (s, ⟨stFABRIC_ERR, []⟩)
  | some a =>
    match s.refuse m false a n with
    | some e => (s.logRefusal e a m, ⟨stFABRIC_ERR, []⟩)
    | none =>
      let s := (s.charge m false a n).countAccess m false a n
      let r := s.region a
      if r = .outbound then
        let (c, s) := s.nextFree
        (s, ⟨stOK, (List.range n).map (fun i => Config.freeByte c (a + i))⟩)
      else if r = .rom then (s, ⟨stOK, (List.range n).map (fun i => Config.romByte (a + i))⟩)
      else
        let bad := (granules a n).filter (fun g => s.mem.isBad g)
        let s := if r = .lpddr ∨ r = .sbuf then bad.foldl (fun s g => s.memLog 0 g m.num) s
          else if r = .hyper then bad.foldl (fun s g => s.hbFail g) s
          else s
        (s, ⟨if bad.isEmpty then stOK else stMEM_DETECT, s.mem.readBytes a n⟩)

/-- The bits of the dirty bitmap for a write of `n` bytes to host address `h` (15 R536). -/
def State.markDirty (s : State) (f : Fin 33) (h n : Nat) : State :=
  match (vget s.fns f).dirty with
  | none => s
  | some d =>
    let map := if d.active1 then d.map1 else d.map0
    let pages := (List.range (cdiv (h % 4096 + n) 4096)).map (fun i => h / 4096 + i)
    let inside := pages.filter (fun p => p * 4096 < d.span)
    let m := inside.foldl (fun (m : Mem) p =>
      m.write (map + p / 8) (m.read (map + p / 8) ||| BitVec.ofNat 8 (2 ^ (p % 8)))) s.mem
    let d := if inside.length < pages.length then { d with beyond := d.beyond + 1 } else d
    { s with mem := m, fns := vmod s.fns f (fun x => { x with dirty := some d }) }

/-- The armed error injection meets a write (12, MEM_INJ): the first whole granule it covers in the selected
channel or slice is stored with an inverted code bit. -/
def State.inject (s : State) (a n : Nat) : State :=
  match s.inj with
  | none => s
  | some (target, sel) =>
    let r := s.region a
    let ok := fun g => decide (a ≤ g ∧ g + granOf g ≤ a + n) && chOf g == sel
      && ((target == 0 && r == .lpddr) || (target == 1 && r == .sbuf))
    match (granules a n).find? ok with
    | none => s
    | some g => { s with mem := s.mem.markBad g, inj := none }

/-- A write by a master of the bytes `ws`, by offset, of the span of `n` bytes at `a` (12 R381, R387, R388, R394,
R651; 15 R536). -/
def State.fabWriteSpan (s : State) (m : Master) (a n : Nat) (ws : List (Nat × Byte)) : State × Nat :=
  match s.toDevice m a n with
  | none => (s, stFABRIC_ERR)
  | some a =>
    match s.refuse m true a n with
    | some e => (s.logRefusal e a m, stFABRIC_ERR)
    | none =>
      let abs := ws.map (fun w => (a + w.1, w.2))
      let whole := fun g => coversGran abs g
      let s := (s.charge m true a n (decide (ws.length = n))).countAccess m true a n (decide (ws.length = n))
      let r := s.region a
      if r = .outbound then
        let f := s.requester m
        let s := s.markDirty f (a - 0x4000000000) n
        ({ s with hostOut := (f.val, a - 0x4000000000, ws.map (fun w => w.2)) :: s.hostOut }, stOK)
      else
        let lost := (granules a n).filter (fun g => s.mem.isBad g && !whole g)
        let s := { s with mem := (s.mem.store abs).1 }
        let s := if ws.length = n then s.inject a n else s
        let s := if r = .sram then lost.foldl (fun s g => s.tell (.irq "CABIN_MONITOR" g)) s
          else if r = .hyper then lost.foldl (fun s g => (s.hbFail g).memLog 3 g m.num) s
          else lost.foldl (fun s g => s.memLog 3 g m.num) s
        (s, if lost.isEmpty then stOK else stMEM_DETECT)

/-- A write of a run of bytes. -/
def State.fabWrite (s : State) (m : Master) (a : Nat) (l : List Byte) : State × Nat :=
  s.fabWriteSpan m a l.length (runOf 0 l)

/-- A read of firmware or of another unit as a number; an error answers 0 with its status. -/
def State.fabNat (s : State) (m : Master) (a n : Nat) : State × Nat × Nat :=
  let (s, r) := s.fabRead m a n
  (s, r.st, ofBytes r.data)

end Sys2Proof.Machine
end

