-- ==== Sys2Proof/Machine/Jobs.lean ====
section
/-! DEFINITION. What the scheduler's and the Cluster Control Cores' rules share: ranks, event posting (15 R528-R530),
deadline-miss records (09 R284, R285), semaphores and their waiters (05 R166, R167), drains (04 R105) and the placing of drawers
(02 R57, R58), job ends (09 R268), priorities (09 R272, R279), register images and save areas (04 R90; 09 R263, R274), and the
emptying of drawers (09 R281). -/

namespace Sys2Proof.Machine

/-! ### Ranks and addresses -/

/-- Number of engines of the gang of cabinet `c` (09 R259). -/
def State.gang (s : State) (c : CabId) : Nat := s.rd F.SN_CAB_CFG_SIZE c.val

/-- The engine of rank `r` of cabinet `c` (08, SN_CABc_RANKMAP: four bits per rank). -/
def State.rankEng (s : State) (c : CabId) (r : Nat) : EngineId :=
  engId (bits (s.rd F.SN_CAB_RANKMAP_MAP c.val) (4 * r + 3) (4 * r))

/-- The ranks of cabinet `c`. -/
def State.ranksOf (s : State) (c : CabId) : List Nat := List.range (s.gang c)

/-- The rank of an engine in its cabinet. -/
def State.rankOf (s : State) (c : CabId) (k : EngineId) : Nat := ((s.ranksOf c).find? (fun r => s.rankEng c r == k)).getD 0

/-- Whether the cabinet's authority is a VF: its addresses are VF-view addresses (15 R511). -/
def Cabinet.vf (b : Cabinet) : Option (Fin 33) := if b.flash ∨ b.fn = 0 then none else some (fin 33 (by decide) b.fn)

/-- The device address of an address that cabinet `c`'s authority supplied (15 R511, R512). -/
def State.cabAddr (s : State) (c : CabId) (a n : Nat) : Option Nat :=
  match (s.cab c).vf with
  | none => some a
  | some f => s.viewAddr f (some c) a n

/-- A read by SCH or a Core on behalf of cabinet `c`. -/
def State.cabRead (s : State) (m : Master) (c : CabId) (a n : Nat) : State × FabRes :=
  match s.cabAddr c a n with
  | none => (s, ⟨stFABRIC_ERR, []⟩)
  | some a => s.fabRead m a n

/-- A write by SCH or a Core on behalf of cabinet `c`. -/
def State.cabWrite (s : State) (m : Master) (c : CabId) (a : Nat) (l : List Byte) : State × Nat :=
  match s.cabAddr c a l.length with
  | none => (s, stFABRIC_ERR)
  | some a => s.fabWrite m a l

/-- Field of a byte record: `n` little-endian bytes at offset `o`. -/
def fieldAt (l : List Byte) (o n : Nat) : Nat := leNat (fun i => (nth 0 l (o + i)).toNat) n

/-! ### Events to a cabinet's authority -/

/-- The MTU time in timestamp form (11 R337). -/
def State.stamp (s : State) : Nat := s.mtu / 2 ^ 32 % 2 ^ 64

/-- A function's entry changed; index 32 is the island command page (09 R287). -/
def State.modFn (s : State) (f : Fin 33) (g : Fn → Fn) : State := { s with fns := vmod s.fns f g }

/-- Key of a function's MSI-X table (15 R514, R515): 16 entries of 16 bytes. -/
def msixBase (f : Fin 33) : Nat := 2 ^ 56 + f.val * 4096

/-- A byte of a function's MSI-X table; the mask bit of an entry, bit 0 of its byte 12, is 1 at reset and stored inverted
(notes/assumptions/51.md). -/
def State.msixByte (s : State) (f : Fin 33) (o : Nat) : Byte :=
  s.mem.read (msixBase f + o) ^^^ (if o % 16 = 12 then 1 else 0)

/-- Whether a vector is masked. -/
def State.msixMasked (s : State) (f : Fin 33) (v : Nat) : Bool := (s.msixByte f (16 * v + 12)).getLsbD 0

/-- A vector raised (15 R530): an MSI-X vector, which pends while it is masked, or the bit of ISL_CMD_VEC on the island page
(09 R287). -/
def State.vector (s : State) (f : Fin 33) (v : Nat) : State :=
  if f.val = 32 then (s.put0 F.ISL_CMD_VEC_VEC (s.rd F.ISL_CMD_VEC_VEC ||| 2 ^ v)).tell (.irq "ISL_SCHED" 0)
  else if s.msixMasked f v then s.modFn f (fun x => { x with vectors := insertNat v x.vectors })
  else s.tell (.irq "MSIX" (f.val * 16 + v))

/-- The vectors that pend and are no longer masked are sent. -/
def State.msixSend (s : State) (f : Fin 33) : State :=
  let go := (vget s.fns f).vectors.filter (fun v => !s.msixMasked f v)
  go.foldl (fun s v => s.tell (.irq "MSIX" (f.val * 16 + v)))
    (s.modFn f (fun x => { x with vectors := x.vectors.filter (fun v => !go.contains v) }))

/-- A function's MSI-X state back to reset. -/
def State.msixReset (s : State) (f : Fin 33) : State := { s with mem := s.mem.wipe (msixBase f) 4096 }

/-- The device address of an address a function supplied on behalf of no cabinet (15 R511, R512). -/
def State.fnAddr (s : State) (f : Fin 33) (a n : Nat) : Option Nat :=
  if f.val = 0 ∨ f.val = 32 then some a else s.viewAddr f none a n

/-- Entries a ring holds. -/
def Ring.used (r : Ring) : Nat := (r.tail + 2 ^ r.log2 - r.head) % 2 ^ r.log2

/-- A 32-byte entry written at a ring's write index, with its phase in byte `pb` (15 R522). -/
def State.ringWrite (s : State) (f : Fin 33) (r : Ring) (pb : Nat) (l : List Byte) : State × Ring :=
  let l := modAt (fun b => b ||| (if r.phase then 1 else 0)) pb l
  let s := match s.fnAddr f (r.base + 32 * r.tail) 32 with
    | some a => (s.fabWrite .sch a l).1
    | none => s
  let t := (r.tail + 1) % 2 ^ r.log2
  (s, { r with tail := t, phase := if t = 0 then !r.phase else r.phase })

/-- An event posted to one function (15 R528, R529). -/
def State.postTo (s : State) (f : Fin 33) (ty cab ctx st d0 d1 vec : Nat) : State :=
  let x := vget s.fns f
  if x.st ≠ .open_ ∨ x.eq.used + 1 = 2 ^ x.eq.log2 then
    s.modFn f (fun x => { x with evLost := satInc 16 x.evLost, lostNext := true })
  else
    let l := leBytes ty 1 ++ leBytes (2 * b2n x.lostNext) 1 ++ leBytes cab 1 ++ leBytes ctx 1 ++ leBytes st 1
      ++ leBytes 0 3 ++ leBytes d0 8 ++ leBytes d1 8 ++ leBytes s.stamp 8
    let (s, r) := s.ringWrite f x.eq 1 l
    (s.modFn f (fun x => { x with eq := r, lostNext := false })).vector f vec

/-- The vector of an event type (15 R530). -/
def vecOf (ty cab : Nat) : Nat := if ty = 1 then 3 + cab else 1

/-- An event posted to a cabinet's authority: the island page for a flash-launched cabinet, else the assigned
function, and the PF too where that is a VF (15 R528; 09 R289). -/
def State.postCab (s : State) (c : CabId) (ty ctx st d0 d1 : Nat) : State :=
  let b := s.cab c
  let v := vecOf ty c.val
  if b.flash then s.postTo 32 ty c.val ctx st d0 d1 v
  else
    let s := s.postTo (fin 33 (by decide) b.fn) ty c.val ctx st d0 d1 v
    if b.fn = 0 then s else s.postTo 0 ty c.val ctx st d0 d1 v

/-- A deadline-miss record (09 R284, R285, R271, R278): cause 0 DEADLINE, 1 EVICT_BLOCKED, 2 OVERRUN. -/
def State.deadlineLog (s : State) (c : CabId) (x cause job : Nat) : State :=
  let n := satInc 16 (s.rd { reg := R.SCH_DLM_LAST, hi := 15, lo := 0 })
  let s := s.setReg R.SCH_DLM_LAST 0 0 (c.val * 2 ^ 29 + x * 2 ^ 22 + cause * 2 ^ 20 + n)
  let s := s.put0 (if cause = 0 then F.SCH_ERR_DEADLINE_MISS else if cause = 1 then F.SCH_ERR_EVICT_BLOCKED
    else F.SCH_ERR_OVERRUN) 1
  (s.tell (.irq "DEADLINE_MISS" c.val)).postCab c 2 x cause job 0

/-- An integrity event (10 R309; 15 R528 type 4). -/
def State.integrity (s : State) (k : EngineId) (c : CabId) (x st word count : Nat) : State :=
  (s.tell (.integrity k.val c.val x st word count)).postCab c 4 x st
    (k.val + word * 256 + min count 255 * 2 ^ 24) 0

/-- A refusal reported to the cabinet's authority as an event (09 R285; 10 R312), whose TYPE the spec does not give
(notes/assumptions/133.md). -/
def State.refusal (s : State) (c : CabId) (x st : Nat) : State :=
  (s.tell (.refusal c.val x st)).postCab c Config.refusalType.toNat x st 0 0

/-! ### Drains -/

/-- The context of an engine's active drawer. -/
def State.actCtx (s : State) (k : EngineId) : Option (Fin 8 × CabId × CtxId) :=
  match (s.eng k).active with
  | some d => match (s.drw k d).ctx with
    | some (c, x) => some (d, c, x)
    | none => none
  | none => none

/-! ### Semaphores (05 R166, R167) -/

/-- Semaphore `i` of a cabinet. -/
def Cabinet.sem (b : Cabinet) (i : Nat) : Nat := vget b.sems (fin 64 (by decide) i)

/-- Semaphore `i` set. -/
def State.setSem (s : State) (c : CabId) (i v : Nat) : State :=
  s.modCab c (fun b => { b with sems := vmod b.sems (fin 64 (by decide) i) (fun _ => v) })

/-- A context's lock count changed by `n`; at 0 its raise on that semaphore ends (09 R277, R279). -/
def Ctx.hold (x : Ctx) (i : Nat) (n : Int) : Ctx :=
  let v := (match x.held.find? (fun h => h.1 == i) with | some h => h.2 | none => 0) + n
  { x with held := (i, v) :: x.held.filter (fun h => h.1 != i)
           raised := if v ≤ 0 then x.raised.filter (fun r => r.1 != i) else x.raised }

/-- A net lock count changed (10 R305). -/
def addNet (i : Nat) (n : Int) (l : List (Nat × Int)) : List (Nat × Int) :=
  (i, (match l.find? (fun h => h.1 == i) with | some h => h.2 | none => 0) + n) :: l.filter (fun h => h.1 != i)

/-- A completed SWAIT (positive) or SSIG (negative) of `n` on a semaphore counted: the context's hold (09 R277) and
its rank's net count since each checkpoint (10 R305), on lock semaphores only. -/
def State.countLock (s : State) (c : CabId) (x : CtxId) (rank i : Nat) (n : Int) : State :=
  if !bit (s.rd F.SCH_CAB_SEMLOCK_LOCK c.val) i then s
  else s.modCtx c x (fun t => { t.hold i n with
    ranks := modAt (fun r => { r with net0 := addNet i n r.net0, net1 := addNet i n r.net1 }) rank t.ranks })

/-- The oldest waiters of a semaphore satisfied while its value lasts, in order of arrival (05 R167). -/
def State.satisfy (s : State) (c : CabId) (i : Nat) : Nat → State
  | 0 => s
  | fuel + 1 =>
    match (s.cab c).waiters.find? (fun q => q.sem == i) with
    | none => s
    | some q =>
      if (s.cab c).sem i < q.count then s
      else
        let s := s.setSem c i ((s.cab c).sem i - q.count)
        let s := s.modCab c (fun b => { b with waiters := b.waiters.erase q })
        let w := s.drw q.eng q.drawer
        let s := s.modDrw q.eng q.drawer (fun w => { w with sb := w.sb.map (fun t =>
          if t.word = q.word ∧ t.st = .running ∧ (Ins.of t.iw).opc = 0x80 then { t with st := .done, status := stOK } else t) })
        let s : State := match w.ctx with
          | some (_, x) =>
            let s := s.countLock c x w.rank i q.count
            s.modCtx c x (fun t => if t.st = .waiting then { t with st := .active } else t)
          | none => s
        s.satisfy c i fuel

/-- Waiters of a cabinet taken off their semaphores; a younger one that now comes first takes what is there (05 R167). -/
def State.dropWaiters (s : State) (c : CabId) (p : SemWait → Bool) : State :=
  let gone := (s.cab c).waiters.filter p
  gone.foldl (fun s q => s.satisfy c q.sem (s.cab c).waiters.length)
    (s.modCab c (fun b => { b with waiters := b.waiters.filter (fun q => !p q) }))

/-- The waiters of a drawer of an engine, in whatever cabinet, taken off. -/
def State.dropWaitersOf (s : State) (k : EngineId) (d : Fin 8) : State :=
  (List.finRange 8).foldl (fun s c => s.dropWaiters c (fun q => q.eng == k && q.drawer == d)) s

/-! ### Queues, and what wakes a context (08 R240; 09 R265) -/

/-- Queue `q` changed. -/
def State.modQueue (s : State) (q : Fin 32) (f : Queue → Queue) : State :=
  { s with sn := { s.sn with queues := vmod s.sn.queues q f } }

/-- Queue number `i`. -/
def queueId (i : Nat) : Fin 32 := fin 32 (by decide) i

/-- Slots of a queue (08 R240). -/
def State.qDepth (s : State) (q : Fin 32) : Nat := 64 * s.rd F.SN_Q_GEOM_DEPTH q.val

/-- Whether a recorded wait can be satisfied now (09 R265). -/
def State.canSatisfy (s : State) (c : CabId) (w : WaitOn) : Bool :=
  match w with
  | .sem i n => decide (n ≤ (s.cab c).sem i)
  | .flit q => match (vget s.sn.queues (queueId q)).slots with | y :: _ => y.filled | [] => false
  | .slots q n => decide ((vget s.sn.queues (queueId q)).slots.length + n ≤ s.qDepth (queueId q))
  | .ppu p => (vget s.ppus (fin 4 (by decide) p)).isEmpty

/-- A WAITING context woken by an event that can satisfy one of its waits (09 R265). -/
def State.wake (s : State) (c : CabId) (p : WaitOn → Bool) : State :=
  (s.contexts c).foldl (fun s x =>
    match s.ctx? c x with
    | some t => if t.st = .waiting ∧ t.waits.any p then
        s.modCtx c x (fun t => { t with st := .ready, waits := t.waits.filter (fun w => !p w) }) else s
    | none => s) s

/-- The drained WAITING contexts that wait for a queue or a PPU woken where it can now serve them (09 R265). -/
def State.wakeAll (s : State) : State :=
  (List.finRange 8).foldl (fun s c => s.wake c (fun p => match p with | .sem _ _ => false | _ => s.canSatisfy c p)) s

/-! ### Drains and the placing of drawers -/

/-- Whether what a started instruction needs in order to go on is lacking, in the sense of 04 R105 step 3 and 08 R235: the
semaphore of a SWAIT and the other ranks of a BARR (a satisfied one is complete), a credit of a SEND that no queue has granted
its record, a flit of a RECV, the PPU of a POST until its commit (06 R195), the CMU of a Map instruction none of whose batches
it has served. -/
def State.lacks (s : State) (k : EngineId) (d : Fin 8) (e : SbEntry) : Bool :=
  let i := Ins.of e.iw
  let w := s.drw k d
  match i.opc with
  | 0x80 | 0x82 => true
  | 0x70 => !e.granted && epCount (w.rdE i.dst.num) == 0
  | 0x71 => epCount (w.rdE i.srca.num) == 0
  | 0x84 => (vget s.ppus (fin 4 (by decide) (k.val / 4))).any (fun q => q.eng == k && !q.served)
  | 0x60 | 0x61 | 0x62 | 0x63 | 0x64 => !e.granted && e.pos == 0
  | _ => false

/-- Whether a started entry waits (04 R105 step 3; for a SEND or RECV that has moved some flits, 08 R251 and
notes/assumptions/52.md). -/
def State.idleWait (s : State) (k : EngineId) (d : Fin 8) (e : SbEntry) : Bool := e.st == .running && s.lacks k d e

/-- What a withdrawn entry waits for (09 R265); `multi` tells which queues grant whole records (08 R243). -/
def waitOf (k : EngineId) (w : Drawer) (multi : Nat → Bool) (e : SbEntry) : Option WaitOn :=
  let i := Ins.of e.iw
  match i.opc with
  | 0x80 => some (.sem i.srca.num (match i.srcb with | .imm v => v.toNat | .reg _ n => w.rdS n | _ => 0))
  | 0x70 => if epQueueKind (w.rdE i.dst.num) then
      some (.slots (epQueue (w.rdE i.dst.num)) (if multi (epQueue (w.rdE i.dst.num)) then flitsOf (w.desc i.srca) else 1)) else none
  | 0x71 => if epQueueKind (w.rdE i.srca.num) then some (.flit (epQueue (w.rdE i.srca.num))) else none
  | 0x84 => some (.ppu (k.val / 4))
  | _ => none

/-- What the withdrawal of a waiting entry leaves: not started, or suspended where it has moved some flits. -/
def SbEntry.withdrawn (e : SbEntry) : SbEntry := { e with st := if e.pos = 0 then .waiting else .suspended }

/-- A drain begins (04 R105 steps 1 to 3): issue stops, and what waits is withdrawn; its semaphore
waits and PPU requests leave their lists and its context records them (09 R265). -/
def State.beginDrain (s : State) (k : EngineId) (why : DrainWhy) : State :=
  match (s.eng k).active with
  | none => s
  | some d =>
    let w := s.drw k d
    let waits := (w.sb.filter (s.idleWait k d)).filterMap (waitOf k w (fun q => s.flag F.SN_Q_CFG_MULTI q))
    let t := s.modEng k (fun e => { e with st := .draining, why := some why, drained := false })
    let t := t.modDrw k d (fun w => { w with sb := w.sb.map (fun e => if s.idleWait k d e then e.withdrawn else e) })
    let t : State := { t with ppus := t.ppus.map (fun l => l.filter (fun q => q.eng != k || q.served)) }
    match w.ctx with
    | some (c, x) =>
      let t : State := { t with sn := { t.sn with queues := t.sn.queues.map (fun q =>
        { q with requests := q.requests.filter (fun r => !(r.1.cab == c && r.1.ctx == x && r.1.rank == w.rank)) }) } }
      ((t.modCtx c x (fun t => { t with waits := t.waits ++ waits })).dropWaiters c (fun q => q.eng == k && q.drawer == d)).wakeAll
    | none => t

/-- Whether a drain may end: every complete entry is recorded (INSTRUCTION_COMPLETE) and no entry runs that must run to completion (04 R105, R106): YIELD_OK is 0, or its class
has no internal yield point (the Requantiser, Sync and PPU), or it is a SEND whose record a MULTI queue granted (08 R243,
R251), or a GATHER or SCATTER with a unit inside a row (`rows` tells that all its units stand at a whole row). -/
def Drawer.quiet (w : Drawer) (rows : SbEntry → Bool) : Bool :=
  w.sb.all (fun e =>
    let c := bits e.iw.toNat 119 116
    e.st != .done && (e.st != .running || (bit e.iw.toNat 109 && c != 4 && c != 8 && !(c == 7 && e.granted) && (c != 5 || rows e))))

/-- The engine's drain ends: what still runs is suspended (04 R105 step 4); the Weight Register is not kept. -/
def State.suspendAll (s : State) (k : EngineId) : State :=
  match (s.eng k).active with
  | none => s.modEng k (fun e => { e with drained := true })
  | some d =>
    ((s.samplesOut k d stOK true).modEng k (fun e => { e with drained := true })).modDrw k d (fun w =>
      { w with sb := w.sb.map (fun e => if e.st = .running then { e with st := .suspended, wts := [] } else e) })

/-- The engine is drained. -/
def State.isDrained (s : State) (k : EngineId) : Bool := (s.eng k).st == .draining && (s.eng k).drained

/-- A drawer that is no longer active keeps its instructions as scoreboard records (04 R90, R105). -/
def Drawer.park (w : Drawer) : Drawer := { w with recs := w.recs ++ w.sb, sb := [] }

/-- The saved scoreboard records re-enter the scoreboard in program order (04 R108 step 1). -/
def Drawer.unpark (w : Drawer) : Drawer := { w with sb := w.recs ++ w.sb, recs := [] }

/-- Whether a drawer is an engine's: active, or held while TE_CTRL.RUN is 0. -/
def Engine.has (e : Engine) (d : Fin 8) : Bool := e.active == some d || e.held == some d

/-- Drawer `d` becomes the active drawer of engine `k` where TE_CTRL.RUN permits issue; else the engine holds it, STOPPED, with
no drawer active and the scoreboard empty, until RUN is written 1 (02 R57, R58; notes/assumptions/63.md). -/
def State.place (s : State) (k : EngineId) (d : Fin 8) : State :=
  if s.flag F.TE_CTRL_RUN k.val then
    (s.modEng k (fun e => { e with active := some d, held := none, st := .running, why := none, drained := false })).modDrw k d Drawer.unpark
  else
    (s.modEng k (fun e => { e with active := none, held := some d, st := .stopped, why := none, drained := false })).modDrw k d Drawer.park

/-- The drawer resumes in place (04 R108), or is held while TE_CTRL.RUN is 0. -/
def State.undrain (s : State) (k : EngineId) : State :=
  match (s.eng k).active with
  | some d => s.place k d
  | none => s.modEng k (fun e => { e with st := .stopped, why := none, drained := false })

/-- The drawer of an engine leaves it (09 R265): no drawer is active or held. -/
def State.leave (s : State) (k : EngineId) : State :=
  let park := fun (s : State) (o : Option (Fin 8)) => match o with | some d => s.modDrw k d Drawer.park | none => s
  let e := s.eng k
  (park (park s e.active) e.held).modEng k (fun e => { e with
    active := none, held := none, st := if e.st = .fenced ∨ e.st = .patrol then e.st else .stopped, why := none, drained := false })

/-- Whether rank `r` of a context in drawer `d` is at rest: its drain has ended, TE_CTRL.RUN holds it, or its engine has left it. -/
def State.settled (s : State) (c : CabId) (d : Fin 8) (r : Nat) : Bool :=
  let e := s.eng (s.rankEng c r)
  e.active != some d || e.drained || e.st == .patrol

/-! ### Priorities -/

/-- A context's effective priority: its current job's PRIO, raised by what it inherits (09 R272, R279). -/
def Ctx.prio (x : Ctx) : Nat :=
  x.raised.foldl (fun m r => max m r.2) (match x.jobs with | j :: _ => j.prio | [] => 0)

/-- Priority inheritance (09 R279): every holder of lock semaphore `i` inherits priority `p` on it until its count there is 0 again,
and so on along the chain of what they wait on themselves. What a holder inherits on each semaphore is kept, so it falls back to
the highest that is left. -/
def State.inherit (s : State) (c : CabId) (i p : Nat) : Nat → State
  | 0 => s
  | fuel + 1 =>
    if !bit (s.rd F.SCH_CAB_SEMLOCK_LOCK c.val) i then s
    else (s.contexts c).foldl (fun s x =>
      match s.ctx? c x with
      | none => s
      | some t =>
        if (t.held.find? (fun h => h.1 == i)).any (fun h => decide (0 < h.2)) ∧ lookupN 0 i t.raised < p then
          let s := s.modCtx c x (fun t => { t with raised := insertN i p t.raised })
          let next := (t.waits.filterMap (fun w => match w with | .sem j _ => some j | _ => none))
            ++ ((s.cab c).waiters.filterMap (fun q =>
              match s.actCtx q.eng with
              | some (_, _, y) => if y = x then some q.sem else none
              | none => none))
          next.foldl (fun s j => s.inherit c j p fuel) s
        else s) s

/-- A context holds a lock semaphore (09 R277). -/
def Ctx.holdsLock (x : Ctx) : Bool := x.held.any (fun h => decide (0 < h.2))

/-- A context holds a link credit (08 R252): a send endpoint toward a queue with credits on some rank. -/
def State.holdsCredit (s : State) (c : CabId) (x : CtxId) : Bool :=
  match s.ctx? c x with
  | some t => match t.drawer with
    | some d => (s.ranksOf c).any (fun r =>
        let w := s.drw (s.rankEng c r) d
        (List.range 8).any (fun j => epBound (w.rdE j) && !epRecv (w.rdE j) && epQueueKind (w.rdE j)
          && decide (0 < epCount (w.rdE j))))
    | none => false
  | none => false

/-- The context that R272 wants active: the highest effective priority among ACTIVE and READY; ties to the ACTIVE
context, unless a slice has ended, then to the one that ran least recently. -/
def State.wanted (s : State) (c : CabId) : Option CtxId :=
  let b := s.cab c
  let cand := (List.finRange 72).filter (fun x => match s.ctx? c x with
    | some t => t.st == .active || t.st == .ready | none => false)
  let top := cand.foldl (fun m x => match s.ctx? c x with | some t => max m t.prio | none => m) 0
  let best := cand.filter (fun x => match s.ctx? c x with | some t => t.prio == top | none => false)
  let act := best.filter (fun x => match s.ctx? c x with | some t => t.st == .active | none => false)
  let ready := best.filter (fun x => match s.ctx? c x with | some t => t.st == .ready | none => false)
  let key : CtxId → Nat := fun x => match s.ctx? c x with | some t => (if t.ever then t.lastRun + 1 else (0 : Nat)) | none => (0 : Nat)
  let lru := (sortBy (fun (a b : CtxId) => decide (key a < key b ∨ (key a = key b ∧ a.val ≤ b.val))) ready).head?
  match act.head? with
  | some a => if b.sliceEnd ∧ lru.isSome then lru else some a
  | none => lru

/-! ### Register images (04 R90) and save areas (09 R263) -/

/-- The TE_DRW_FLTd value of a fault record (04 R118). -/
def fltOf (f : Option FaultRec) : Nat :=
  match f with
  | none => 0
  | some f => 2 ^ 31 + (f.word % 4096) * 2 ^ 16 + f.extra * 2 ^ 8 + f.status

/-- The 16 bytes of program state of a register image (04 R90): the next-issue word index, P0-P7, the number of open loops, the
INFO mask, and the open loops from the innermost, each as its start and counter. The places inside the 16 bytes are the model's
(notes/assumptions/125.md). -/
def progState (w : Drawer) : List Byte :=
  leBytes w.pc 2 ++ leBytes (((List.range 8).map (fun i => 2 ^ i * b2n (w.rdP i))).foldl (· + ·) 0) 1 ++ leBytes w.loops.length 1
    ++ leBytes w.info.toNat 4
    ++ (List.range 4).flatMap (fun i => match w.loops[i]? with | some l => leBytes (l.start * 4 + l.ctr.val) 2 | none => leBytes 0 2)

/-- The 4,096 bytes of a drawer's register image (04 R90); the progress and scoreboard records are opaque: free values
(notes/assumptions/2.md). -/
def imageOf (k : EngineId) (d : Fin 8) (w : Drawer) : List Byte :=
  let opq := fun (o n : Nat) => (List.range n).map (fun i => Config.imageByte k.val d.val (o + i))
  (List.range 32).flatMap (fun i => leBytes (w.rdS i) 4) ++ (List.range 32).flatMap (fun i => leBytes (w.rdT i) 32)
    ++ (List.range 4).flatMap (fun i => leBytes (w.rdL i) 4) ++ (List.range 4).flatMap (fun i => leBytes (w.rdQ i) 4)
    ++ progState w ++ leBytes (fltOf w.fault) 4 ++ leBytes 0 12
    ++ (List.range 8).flatMap (fun i => leBytes (w.rdE i) 16) ++ leBytes w.live.toNat 32 ++ leBytes 0 160
    ++ opq 0x600 512 ++ opq 0x800 2048

/-- A drawer read back from its image: registers, program state, fault record, endpoints and live pages from the bytes; what the
opaque parts hold from the record kept beside them. -/
def drawerOf (kept : Drawer) (l : List Byte) : Drawer :=
  let w := iter (fun i w => w.wrS i (fieldAt l (4 * i) 4)) 32 kept
  let w := iter (fun i w => w.wrT i (fieldAt l (0x80 + 32 * i) 32)) 32 w
  let w := iter (fun i w => w.wrL i (fieldAt l (0x480 + 4 * i) 4)) 4 w
  let w := iter (fun i w => w.wrQ i (fieldAt l (0x490 + 4 * i) 4)) 4 w
  let w := iter (fun i w => w.wrP i (bit (fieldAt l 0x4A2 1) i)) 8 w
  let w := iter (fun i w => w.wrE i (fieldAt l (0x4C0 + 16 * i) 16)) 8 w
  let flt := fieldAt l 0x4B0 4
  let loops := (List.range (min 4 (fieldAt l 0x4A3 1))).map (fun i =>
    let v := fieldAt l (0x4A8 + 2 * i) 2
    (⟨fin 4 (by decide) v, v / 4⟩ : LoopRec))
  { w with pc := fieldAt l 0x4A0 2
           info := BitVec.ofNat 32 (fieldAt l 0x4A4 4)
           loops := loops
           live := BitVec.ofNat 256 (fieldAt l 0x540 32)
           fault := if bit flt 31 then some ⟨bits flt 27 16, bits flt 15 8, bits flt 7 0⟩ else none }

/-- The accumulator sets in use of a drawer (04 R90). -/
def Drawer.used (w : Drawer) : List Nat := (List.range 8).filter (fun a => w.tag a != .empty)

/-- The live pages of a drawer (04 R89). -/
def Drawer.livePages (w : Drawer) : List Nat := (List.range 256).filter (fun p => w.live.getLsbD p)

/-- The bytes of accumulator set `a` (4 KiB: element (m, n) at 4 × (32m + n), notes/assumptions/20.md). -/
def State.setBytes (s : State) (k : EngineId) (d : Fin 8) (a : Nat) : List Byte := s.mem.readBytes (accAddr k d.val a 0 0) 4096

/-- Writes made one after another, with the first status other than OK. -/
def State.writeAll (s : State) (m : Master) (c : CabId) (ws : List (Nat × List Byte)) : State × Nat :=
  ws.foldl (fun (acc : State × Nat) w =>
    let (s, st) := acc.1.cabWrite m c w.1 w.2
    (s, if acc.2 = stOK then st else acc.2)) (s, stOK)

/-- The first status of two that is not OK. -/
def firstBad (a b : Nat) : Nat := if a = stOK then b else a

/-- Whether the parity of an element of a set in use fails (02 R37). -/
def State.setsBad (s : State) (k : EngineId) (d : Fin 8) : Bool :=
  (s.drw k d).used.any (fun a => s.mem.anyBad (accAddr k d.val a 0 0) 4096)

/-- The QoS class that moves of a context's state carry: the QCT of its job, 0 without one (12 R403). -/
def Ctx.moveQct (t : Ctx) : Nat := match t.jobs with | j :: _ => j.qct | [] => 0

/-- The class of an engine's further requests (04 R97; 12 R402, R403). -/
def State.setQct (s : State) (k : EngineId) (q : Nat) : State := s.modEng k (fun e => { e with reqQct := q })

/-- A drawer's image, with the given program state, and its sets written at `base` (10 R301: 36,864 bytes; 09 R263 for the save
area). A set whose parity fails gives ACC_DETECT (02 R37; 10 R293). -/
def State.writeImage (s : State) (k : EngineId) (d : Fin 8) (c : CabId) (base pc : Nat) : State × Nat :=
  let w := s.drw k d
  let bad := s.setsBad k d
  let (s, st) := s.writeAll (.te k) c ((base, imageOf k d { w with pc := pc }) ::
    w.used.map (fun a => (base + 4096 + 4096 * a, s.setBytes k d a)))
  (s, if bad then stACC_DETECT else st)

/-- A drawer emptied (09 R281): its window zero with valid codes, its sets EMPTY, everything else as a drawer that
holds nothing, and no ring slot of its context's rank marked as holding a poison flit (08 R255). -/
def State.emptyDrw (s : State) (k : EngineId) (d : Fin 8) : State :=
  let s1 : State := { s with
    mem := s.mem.wipe (s.lmKey k d 0) (s.winBytes k d)
    ppus := s.ppus.map (fun l => l.filter (fun q => !(q.eng == k && (s.eng k).active == some d)))
    sn := { s.sn with poison := s.sn.poison.filter (fun p => match (s.drw k d).ctx with
      | some (c, x) => !(p.1.cab == c && p.1.ctx == x && p.1.rank == (s.drw k d).rank)
      | none => true) } }
  (s1.dropWaitersOf k d).modDrw k d (fun _ => emptyDrawer)

/-- The image and sets of rank `r` read back from `base` into a drawer. -/
def State.readImage (s : State) (k : EngineId) (d : Fin 8) (c : CabId) (base : Nat) (kept : Drawer) : State × Nat :=
  let (s, r) := s.cabRead (.te k) c base 4096
  let w := drawerOf kept r.data
  let s := s.modDrw k d (fun _ => w)
  w.used.foldl (fun (acc : State × Nat) a =>
    let (s, r) := acc.1.cabRead (.te k) c (base + 4096 + 4096 * a) 4096
    ({ s with mem := (s.mem.store (runOf (accAddr k d.val a 0 0) r.data)).1 },
      if acc.2 = stOK then r.st else acc.2)) (s, r.st)

/-- Bytes of one rank's save area (09 R263). -/
def State.saveBase (s : State) (c : CabId) (x : Ctx) (r : Nat) : Nat :=
  x.saveAddr + r * (36864 + 16384 * s.rd F.SCH_CAB_CFG_WIN_PAGES c.val)

/-- A context's drawer saved on one rank (09 R274 step 2): image, sets in use and live pages; page i of the window
stands at offset 36,864 + 16,384 × i (notes/assumptions/20.md). The poison marks of its ring slots travel with it. The first
status other than OK: a failing code of what it reads (10 R293), or that of a write. -/
def State.saveRank (s : State) (c : CabId) (x : CtxId) (r : Nat) : State × Nat :=
  match s.ctx? c x with
  | none => (s, stOK)
  | some t => match t.drawer with
    | none => (s, stOK)
    | some d =>
      let k := s.rankEng c r
      let base := s.saveBase c t r
      let w := s.drw k d
      let marks := s.sn.poison
      let bad := w.livePages.any (fun p => s.mem.anyBad (s.lmKey k d (16384 * p)) 16384)
      let (s, st1) := (s.setQct k t.moveQct).writeImage k d c base w.pc
      let (s, st2) := s.writeAll (.te k) c (w.livePages.map (fun p =>
        (base + 36864 + 16384 * p, s.mem.readBytes (s.lmKey k d (16384 * p)) 16384)))
      let s := s.modCtx c x (fun t => { t with ranks := modAt (fun q => { q with saved := some w }) r t.ranks })
      let s := s.emptyDrw k d
      let st := firstBad st1 (if bad then stLM_DETECT else st2)
      let s := match teErrOf st with | some b => s.teErr k b | none => s
      ({ s with sn := { s.sn with poison := marks } }, st)

/-- A context's drawer restored on one rank (09 R274 step 3); a context that never ran starts from zero with its
endpoints bound (09 R263, 08 R232). -/
def State.restoreRank (s : State) (c : CabId) (x : CtxId) (r : Nat) (d : Fin 8) : State × Nat :=
  match s.ctx? c x with
  | none => (s, stOK)
  | some t =>
    let k := s.rankEng c r
    match (nth ⟨none, none, 0, 0, [], [], none⟩ t.ranks r).saved with
    | none =>
      let w := t.binds.foldl (fun (w : Drawer) b =>
        if b.1 = r then w.wrE b.2.1 (b.2.2.1 * 2 ^ 112 + b.2.2.2 * 2 ^ 72) else w)
        { emptyDrawer with ctx := some (c, x), rank := r }
      let w := (List.range 8).foldl (fun (w : Drawer) j =>
        let e := w.rdE j
        if epBound e ∧ !epRecv e ∧ !epQueueKind e then w.wrE j (putBits e 71 64 64) else w) w
      let w := w.ringPages.foldl (fun (w : Drawer) p => { w with live := w.live ||| BitVec.ofNat 256 (2 ^ p) }) w
      (s.modDrw k d (fun _ => w), stOK)
    | some kept =>
      let base := s.saveBase c t r
      let (s, st) := (s.setQct k t.moveQct).readImage k d c base { kept with ctx := some (c, x), rank := r, loaded := false }
      let (s, st) := (s.drw k d).livePages.foldl (fun (acc : State × Nat) p =>
        let (s, q) := acc.1.cabRead (.te k) c (base + 36864 + 16384 * p) 16384
        ({ s with mem := (s.mem.store (runOf (s.lmKey k d (16384 * p)) q.data)).1 },
          if acc.2 = stOK then q.st else acc.2)) (s, st)
      (s.modCtx c x (fun t => { t with ranks := modAt (fun q => { q with saved := none }) r t.ranks }), st)

/-! ### The end of a job (09 R268) -/

/-- The OR of the INFO masks of every rank, resident or stored. -/
def State.jobInfo (s : State) (c : CabId) (t : Ctx) : Nat :=
  (s.ranksOf c).foldl (fun m r =>
    match t.drawer with
    | some d => m ||| (s.drw (s.rankEng c r) d).info.toNat
    | none => m ||| (match (nth ⟨none, none, 0, 0, [], [], none⟩ t.ranks r).saved with
        | some w => w.info.toNat | none => 0)) 0

/-- A doubt flag raised in the current control cycle (10 R320, R321); none is while no cycle runs
(notes/assumptions/26.md). -/
def State.doubt (s : State) (i : Nat) : State :=
  if s.flag F.ARB_CFG_EN then s.put0 F.ARB_DOUBT_CUR (s.rd F.ARB_DOUBT_CUR ||| 2 ^ i) else s

/-- Whether a cabinet feeds the Arbiter (10 R320). -/
def State.safeCab (s : State) (c : CabId) : Bool := bit (s.rd F.ARB_CFG_SAFE_CABS) c.val

/-- The completion of one job posted (09 R268): the record where CMPL is not 0, and the event where NOTIFY is set. -/
def State.postJob (s : State) (c : CabId) (x : CtxId) (j : Job) (st cause rank info word : Nat) : State :=
  let l := leBytes j.tag 4 ++ leBytes st 1 ++ leBytes cause 1 ++ leBytes rank 1 ++ leBytes 0 1 ++ leBytes info 4
    ++ leBytes word 2 ++ leBytes 0 2
  let s := if j.cmpl = 0 then s else
    let (s, ok) := s.cabWrite .sch c j.cmpl l
    if ok = stOK then s else match s.cabAddr c j.cmpl 16 with
      | some a => s.scramble a 16
      | none => s
  let s := if s.safeCab c && (isDetect st || st == stFENCED) then s.doubt 2 else s
  if j.notify then s.postCab c 1 x.val st j.tag j.cmpl else s

/-- What a job's end leaves in a drawer: no INFO bit, no open loop, nothing issued or saved, no fault under way. -/
def Drawer.afterJob (w : Drawer) : Drawer :=
  { w with info := 0, loops := [], sb := [], recs := [], drainDets := [], jobOn := false, halted := false, faulting := false }

/-- The state of a context whose job has ended: IDLE with no job left, else as it was (09 R265). -/
def Ctx.afterJob (t : Ctx) : Ctx :=
  let js := t.jobs.tail
  { t with jobs := js, started := false, waits := [], recovering := false, ending := none
           ranks := t.ranks.map (fun r => { r with dets := 0, slot0 := none, slot1 := none, net0 := [], net1 := [] })
           st := if t.st = .stored ∨ t.st = .aborting then t.st
                 else if js.isEmpty then .idle else if t.st = .waiting then .ready else t.st }

/-- Context `x` has run until now (09 R272, R276). -/
def State.ranNow (s : State) (c : CabId) (x : CtxId) : State :=
  let n := s.runClock + 1
  ({ s with runClock := n } : State).modCtx c x (fun t => { t with lastRun := n, ever := true })

/-- The running job of a context ends (09 R268; 10 R307): with no job left its drawer leaves its engines, else it goes on there,
where another drain, or TE_CTRL.RUN, does not keep it. -/
def State.endJob (s : State) (c : CabId) (x : CtxId) (st cause rank word : Nat) : State :=
  match s.ctx? c x with
  | none => s
  | some t => match t.jobs with
    | [] => s
    | j :: js =>
      let s := s.postJob c x j st cause rank (s.jobInfo c t) word
      let s : State := match t.drawer with
        | none => s
        | some d => (s.ranksOf c).foldl (fun (s : State) r =>
            let k := s.rankEng c r
            let s := s.modDrw k d Drawer.afterJob
            let e := s.eng k
            if !e.has d then s
            else if js.isEmpty then s.leave k
            else if e.active = some d ∧ e.st = .draining ∧ (e.why = some .fault ∨ e.why = some .recovery ∨ e.why = some .abort) then s.undrain k
            else s) s
      let s := s.modCtx c x Ctx.afterJob
      let s : State := match t.drawer with
        | some _ => if js.isEmpty ∧ (s.cab c).act = some x then
            (s.ranNow c x).modCab c (fun b => { b with act := none, sliceEnd := false }) else s
        | none => s
      s.modCtx c x (fun t => { t with ranks := t.ranks.map (fun r =>
        { r with saved := r.saved.map Drawer.afterJob }) })

/-- The end that waits for a context's drains comes once every rank is at rest (04 R111; 09 R282 steps 2 and 3). -/
def State.tryEnd (s : State) (c : CabId) (x : CtxId) : State :=
  match s.ctx? c x with
  | none => s
  | some t => match t.ending with
    | none => s
    | some (st, cause, rank, word) =>
      if t.st = .aborting then s
      else if (match t.drawer with | some d => (s.ranksOf c).all (s.settled c d) | none => true) then s.endJob c x st cause rank word
      else s

/-- The running job of a context is to end (04 R111 steps 1 and 3; 09 R282): the ranks that still issue are drained, and the job
ends once every rank is at rest. An end already decided stands. -/
def State.endAfter (s : State) (c : CabId) (x : CtxId) (st cause rank word : Nat) : State :=
  let s := s.modCtx c x (fun t => if t.ending.isSome then t else { t with ending := some (st, cause, rank, word) })
  let s : State := match s.ctx? c x with
    | none => s
    | some t => match t.drawer with
      | none => s
      | some d => (s.ranksOf c).foldl (fun (s : State) r =>
          let k := s.rankEng c r
          if (s.eng k).active = some d ∧ (s.eng k).st = .running then s.beginDrain k .abort else s) s
  s.tryEnd c x

/-- A queued job that never started completes (09 R281, 10 R312). -/
def State.dropJob (s : State) (c : CabId) (x : CtxId) (j : Job) (st cause : Nat) : State :=
  s.postJob c x j st cause 0 0 0

end Sys2Proof.Machine
end

