-- ==== Sys2Proof/Machine/Issue.lean ====
section
/-! DEFINITION. Fetch, issue and the scoreboard (02 R53-R55; 04 R99-R104, R117), the control and scalar instructions
(05 R126-R135), and the driver that starts placed instructions and runs their units of work. -/

namespace Sys2Proof.Machine

/-! ### Entries -/

/-- The active drawer of engine `k`, its scoreboard entry `e` and the decoded instruction. -/
def State.entry (s : State) (k : EngineId) (e : Nat) : Option (Fin 8 × SbEntry × Ins) :=
  match (s.eng k).active with
  | none => none
  | some d => match (s.drw k d).sb[e]? with
    | none => none
    | some t => some (d, t, Ins.of t.iw)

/-- An entry complete with a status, its results being there (02 R54). -/
def State.setDone (s : State) (k : EngineId) (d : Fin 8) (e st : Nat) : State :=
  s.modEnt k d e (fun t => { t with st := .done, status := st })

/-- Most entries a class holds (02 R55). -/
def classMax (c : Nat) : Nat :=
  match c with
  | 1 => 64 | 2 => 8 | 3 => 32 | 4 => 16 | 5 => 32 | 6 => 32 | 7 => 64 | 8 => 32 | _ => 256

/-- The endpoint of a Stream instruction (04 R99). -/
def Ins.endpoint (i : Ins) : Nat := if i.opc = 0x70 then i.dst.num else i.srca.num

/-- Whether WAIT holds for an instruction, SSIG, BARR and CHKPT included (04 R102). -/
def Ins.waits (i : Ins) : Bool := i.wait || i.opc == 0x81 || i.opc == 0x82 || i.opc == 0x83

/-- Whether placed entry `e` may start (04 R99, R100, R102): its engine issues, it is the oldest of its class (of
its endpoint, for Stream), WAIT is satisfied, and it depends on no earlier entry. -/
def State.canStart (s : State) (k : EngineId) (d : Fin 8) (e : Nat) (i : Ins) : Bool :=
  let w := s.drw k d
  let before := w.sb.take e
  let f := footOf s k d i
  (s.eng k).st == .running && s.flag F.TE_CTRL_RUN k.val &&
  before.all (fun t =>
    let j := Ins.of t.iw
    !(j.cls == i.cls && (i.cls != 7 || j.endpoint == i.endpoint)) && !(footOf s k d j).blocks f) &&
  (!i.waits || before.isEmpty)

/-- An entry starts: it runs. -/
def State.starting (s : State) (k : EngineId) (d : Fin 8) (e : Nat) : State :=
  s.modEnt k d e (fun t => { t with st := .running })

/-- An instruction that passed its start checks begins: the pages of which it writes a byte become live (04 R89), and its
requests carry its effective QoS class (04 R97). -/
def State.begins (s : State) (k : EngineId) (d : Fin 8) (i : Ins) : State :=
  (s.modDrw k d (fun w => w.markLive (s.writesOf k d i true))).setQct k (i.effQct (s.eng k).jobQct)

/-- `n` units of work of a running entry of `total` units, stopping at the first that ends it or that has to wait. Of several
informational statuses that its units meet the numerically greatest is kept (notes/assumptions/139.md). -/
def State.units (s : State) (k : EngineId) (d : Fin 8) (e total : Nat) (ready : State → Nat → Bool)
    (unit : State → Nat → UnitRes) : Nat → State
  | 0 => s
  | n + 1 =>
    match (s.drw k d).sb[e]? with
    | none => s
    | some t =>
      if t.st = .done ∨ total ≤ t.pos ∨ !ready s t.pos then s
      else
        let (s1, r) := unit s t.pos
        let s2 := s1.modEnt k d e (fun t => { t with pos := t.pos + 1 })
        match r with
        | some st =>
          if 256 ≤ st then (s2.modEnt k d e (fun t => { t with status := max t.status (st - 256) })).units k d e total ready unit n
          else s2.setDone k d e st
        | none => s2.units k d e total ready unit n

/-- The parts of an instruction that runs in a unit: its start, the number of its units of work, whether one can be
done now, one of them, and its end. -/
structure UnitOps where
  start : State → Fin 8 → Ins → UnitRes
  total : State → Fin 8 → Ins → Nat
  ready : State → Fin 8 → Ins → Nat → Bool
  unit : State → Fin 8 → Ins → Nat → UnitRes
  fin : State → Fin 8 → Ins → UnitRes

/-- A start, or an end, with nothing to check. -/
def noCheck (s : State) (_ : Fin 8) (_ : Ins) : UnitRes := (s, none)

/-- A unit of work that never waits. -/
def always (_ : State) (_ : Fin 8) (_ : Ins) (_ : Nat) : Bool := true

/-- The units of a started entry, and its end once they are done: it completes with the status gathered so far. -/
def State.proceed (s : State) (k : EngineId) (e n : Nat) (o : UnitOps) (d : Fin 8) (i : Ins) : State :=
  let s1 := s.units k d e (o.total s d i) (fun t x => o.ready t d i x) (fun t x => o.unit t d i x) n
  match (s1.drw k d).sb[e]? with
  | none => s1
  | some t =>
    if t.st = .running ∧ o.total s1 d i ≤ t.pos then
      let (s2, r) := o.fin s1 d i
      match r with
      | some st => s2.setDone k d e st
      | none => s2.setDone k d e t.status
    else s1

/-- Entry `e` of engine `k`, where it is a placed instruction of opcode `opc`, starts if it has not and may, and
does up to `n` units of its work. -/
def State.runUnit (s : State) (k : EngineId) (e n opc : Nat) (o : UnitOps) : State :=
  match s.entry k e with
  | none => s
  | some (d, t, i) =>
    if i.opc ≠ opc then s
    else match t.st with
      | .done => s
      | .waiting =>
        if s.canStart k d e i then
          let (s1, r) := o.start (s.starting k d e) d i
          match r with
          | some st => s1.setDone k d e st
          | none => (s1.begins k d i).proceed k e n o d i
        else s
      | .suspended =>
        if (s.eng k).st = .running then
          ((s.starting k d e).setQct k (i.effQct (s.eng k).jobQct)).proceed k e n o d i
        else s
      | .running => (s.setQct k (i.effQct (s.eng k).jobQct)).proceed k e n o d i

/-! ### Fetch -/

/-- Words of a drawer's allotment and the key of word `x` (04 R114). -/
def State.allot (s : State) (k : EngineId) (d : Fin 8) : Nat := 128 * s.rd F.TE_DRW_IB_BLKS k.val d.val
def State.ibKey (s : State) (k : EngineId) (d : Fin 8) (x : Nat) : Nat :=
  ibBase k + (128 * s.rd F.TE_DRW_IB_BASE_BLK k.val d.val + x) * 16

/-- A fault of the issue unit itself (02 R53, 04 R117, 05 R132): recorded against a word, and the drawer drains. -/
def State.issueFault (s : State) (k : EngineId) (d : Fin 8) (word st : Nat) : State :=
  (s.modDrw k d (fun w => w.recordFault word w.seq st)).beginDrain k .fault

/-- What the issue unit would issue next on engine `k`: the active drawer and the word at its pc, where the engine
issues (02 R57, R58; 04 R117, R127). -/
def State.issuing (s : State) (k : EngineId) : Option (Fin 8 × Nat) :=
  match (s.eng k).active with
  | none => none
  | some d =>
    let w := s.drw k d
    if (s.eng k).st = .running ∧ s.flag F.TE_CTRL_RUN k.val ∧ w.loaded ∧ w.jobOn ∧ !w.halted ∧ !w.faulting
    then some (d, w.pc) else none

/-- The instruction at a word of the Instruction Buffer. -/
def State.ibWord (s : State) (k : EngineId) (d : Fin 8) (x : Nat) : IWord :=
  BitVec.ofNat 128 (s.mem.readNat (s.ibKey k d x) 16)

/-! ### Class 0x0 -/

/-- One 32-bit result of SADD (05 R134). -/
def saddVal (op a b : Nat) : Nat :=
  match op with
  | 0 => (a + b) % 2 ^ 32
  | 1 => (a + 2 ^ 32 - b) % 2 ^ 32
  | 2 => (a * b) % 2 ^ 32
  | 3 => Nat.land a b
  | 4 => Nat.lor a b
  | 5 => Nat.xor a b
  | 6 => (a <<< (b % 32)) % 2 ^ 32
  | 7 => a >>> (b % 32)
  | _ => toU 32 (fdiv (sext 32 a) (2 ^ (b % 32)))

/-- A comparison of SADD (05 R134). -/
def saddCmp (op a b : Nat) : Bool :=
  match op with
  | 9 => a == b
  | 10 => decide (sext 32 a < sext 32 b)
  | _ => decide (a < b)

/-- A descriptor's word with the field that TDSET names replaced (05 R135). -/
def tdField (w op v : Nat) : Nat :=
  match op with
  | 0 => putBits w 23 0 v
  | 1 => putBits w 47 32 v | 2 => putBits w 63 48 v | 3 => putBits w 79 64 v | 4 => putBits w 95 80 v
  | 5 => putBits w 119 96 v | 6 => putBits w 143 120 v | 7 => putBits w 167 144 v | 8 => putBits w 191 168 v
  | 9 => putBits w 27 24 v
  | 10 => putBits w 207 192 v
  | 11 => putBits w 255 255 v
  | _ => putBits w 23 0 (bits w 23 0 + v)

/-- A register of file S, Q or L read as SMOV reads it (05 R132 table). -/
def Drawer.rdSql (w : Drawer) (o : Opnd) : Nat :=
  match o with
  | .reg .S n => w.rdS n
  | .reg .Q n => w.rdQ n
  | .reg .L n => w.rdL n
  | _ => 0

/-- A register of file S, Q or L written. -/
def Drawer.wrSql (w : Drawer) (o : Opnd) (v : Nat) : Drawer :=
  match o with
  | .reg .S n => w.wrS n v
  | .reg .Q n => w.wrQ n v
  | .reg .L n => w.wrL n v
  | _ => w

/-- What a control or scalar instruction does to its drawer (05 R126-R135), the pc included; a status where it
ends in LOOP_DEPTH. `gang` is the gang size and `rd32` the 32 bytes TDSET reads. -/
def ctrlStep (w : Drawer) (i : Ins) (gang : Nat) (rd32 : Nat) : Drawer × Option Nat :=
  let tgt := bits i.imm 11 0
  let next := { w with pc := w.pc + 1 }
  match i.opc with
  | 0x03 => ({ w with pc := tgt }, none)
  | 0x04 =>
    let x := bits i.mod 4 0
    let v := if bits i.mod 7 6 = 0 then w.rdP x else w.info.getLsbD x
    if v != bit i.mod 5 then ({ w with pc := tgt }, none) else (next, none)
  | 0x05 =>
    let cnt := match i.srca with | .imm v => v.toNat | .reg _ n => w.rdS n | _ => 0
    if cnt = 0 then ({ w with pc := tgt }, none)
    else if 4 ≤ w.loops.length then (next, some stLOOP_DEPTH)
    else
      ({ (next.wrL i.dst.num cnt) with
          loops := ⟨fin 4 (by decide) i.dst.num, w.pc + 1⟩ :: w.loops }, none)
  | 0x06 =>
    match w.loops with
    | [] => (next, some stLOOP_DEPTH)
    | l :: ls =>
      if l.ctr.val ≠ i.srca.num then (next, some stLOOP_DEPTH)
      else
        let v := (w.rdL l.ctr.val + 2 ^ 32 - 1) % 2 ^ 32
        let w1 := w.wrL l.ctr.val v
        if v = 0 then ({ w1 with pc := w.pc + 1, loops := ls }, none) else ({ w1 with pc := l.start }, none)
  | 0x08 =>
    let op := bits i.mod 2 0
    match op with
    | 0 => (next.wrSql i.dst (bits i.imm 31 0), none)
    | 1 => (next.wrSql i.dst (w.rdSql i.srca), none)
    | 2 => (next.wrS i.dst.num w.info.toNat, none)
    | 3 => ({ next with info := w.info &&& ~~~(BitVec.ofNat 32 (w.rdS i.srca.num)) }, none)
    | _ => (next.wrS i.dst.num (w.rank % 256 + gang % 256 * 256), none)
  | 0x09 =>
    let op := bits i.mod 3 0
    let a := w.rdS i.srca.num
    let b := if bit i.mod 4 then bits i.imm 31 0 else
      match i.srcb with | .imm v => toU 32 v | .reg _ n => w.rdS n | _ => 0
    if 9 ≤ op then (next.wrP i.dst.num (saddCmp op a b), none) else (next.wrS i.dst.num (saddVal op a b), none)
  | 0x0A =>
    let op := bits i.mod 3 0
    let v := (match i.srca with | .reg .S n => w.rdS n | _ => 0) + bits i.imm 31 0
    match op with
    | 12 => (next.wrT i.dst.num (w.rdT i.srca.num), none)
    | 13 => (next.wrT i.dst.num rd32, none)
    | _ => (next.wrT i.dst.num (tdField (w.rdT i.dst.num) op v), none)
  | _ => (next, none)

/-- Whether every rank of a context has halted (09 R268). -/
def State.allHalted (s : State) (c : CabId) (x : CtxId) : Bool :=
  match s.ctx? c x with
  | some t => match t.drawer with
    | some d => (s.ranksOf c).all (fun r => (s.drw (s.rankEng c r) d).halted)
    | none => false
  | none => false

/-- The LAST rule on a class-0x0 instruction with a descriptor as SRCA (04 R98; TDSET from a T register, 05 R135): it writes no
byte of Local Memory. -/
def Drawer.releaseCtrl (w : Drawer) (i : Ins) : Drawer :=
  if i.last ∧ isReg .T i.srca ∧ (w.desc i.srca).shaped then w.releasePages (w.desc i.srca).range [] else w

/-- The Island Engine's job ends with a status (13 R432; 19 R618): reported by interrupt, and the engine stops. -/
def State.ieEnd (s : State) (st : Nat) : State :=
  let k := engId 16
  ((s.modDrw k 0 Drawer.afterJob).leave k).tell (.irq "IE_DONE" st)

/-- HALT with every earlier instruction complete (05 R127; 09 R268): the rank halts, and the job ends once every
rank has. -/
def State.haltDrw (s : State) (k : EngineId) (d : Fin 8) : State :=
  let s := s.modDrw k d (fun w => { w with halted := true, pc := w.pc + 1, prev := w.pc, seq := w.seq + 1 })
  if k.val = 16 then s.ieEnd stOK
  else match (s.drw k d).ctx with
    | none => s
    | some (c, x) => if s.allHalted c x then s.endJob c x stOK 0 0 0 else s

/-- FREE VALUE. A number of `n` 32-bit words that the spec leaves undefined, by the free-value counter. -/
def freeBits (c : Nat) : Nat → Nat
  | 0 => 0
  | n + 1 => freeBits c n * 2 ^ 32 + (Config.freeWord c n).toNat

/-- The issue unit executes a control or scalar instruction that passed its decode checks, where no dependency and
no WAIT holds it (04 R101; 05 R122, R126-R128). -/
def State.control (s : State) (k : EngineId) (d : Fin 8) (i : Ins) : State :=
  let w := s.drw k d
  let f := footOf s k d i
  if w.sb.any (fun t => (footOf s k d (Ins.of t.iw)).blocks f) then s
  else if (i.wait || i.opc == 0x01 || i.opc == 0x02) && !w.sb.isEmpty then s
  else if i.opc = 0x01 then s.haltDrw k d
  else
    let off := bits i.imm 23 0
    let isMem := i.opc = 0x0A ∧ bits i.mod 3 0 = 13
    if isMem ∧ s.lmBad k d [off] 32 then
      (s.modDrw k d (fun w => w.wrT i.dst.num (freeBits s.freeCtr 8))).nextFree.2.issueFault k d w.pc stLM_DETECT
    else
      let gang := match w.ctx with | some (c, _) => s.gang c | none => 1
      let (w1, r) := ctrlStep w i gang (if isMem then s.lmNat k d off 32 else 0)
      match r with
      | some st => s.issueFault k d w.pc st
      | none => s.modDrw k d (fun _ => { w1 with prev := w.pc, seq := w.seq + 1, live := (w.releaseCtrl i).live })

/-- The issue unit takes the next instruction of the active drawer (02 R53-R55; 04 R99, R104, R117), where its
opcode is the one asked for (any where none is): it executes class 0x0 itself, and places every other, and every
instruction that fails a decode check, in the scoreboard; one of class 0x0 with WAIT that fails one, only once every earlier
instruction is complete (05 R122). -/
def State.issue (s : State) (k : EngineId) (only : Option Nat) : State :=
  match s.issuing k with
  | none => s
  | some (d, x) =>
    let w := s.drw k d
    if s.allot k d ≤ x then (if only.isSome then s else s.issueFault k d w.prev stPC_BOUNDS)
    else if s.mem.anyBad (s.ibKey k d x) 16 then (if only.isSome then s else s.issueFault k d x stIB_DETECT)
    else
      let iw := s.ibWord k d x
      let i := Ins.of iw
      if only.isSome ∧ only ≠ some i.opc then s
      else
        let place := fun (r : Option Nat) =>
          if 256 ≤ w.sb.length ∨ classMax i.cls ≤ (w.sb.filter (fun t => (Ins.of t.iw).cls == i.cls)).length then s
          else
            let ent : SbEntry := 
              ⟨x, w.seq, iw, if r.isSome then .done else .waiting, 0, [], [], [], r.getD stOK, false,
                if (s.eng k).tagNext then some (s.perfTime k) else none⟩
            let s1 := s.modDrw k d (fun w => { w with sb := w.sb ++ [ent], pc := x + 1, prev := x, seq := w.seq + 1 })
            let s2 := (s1.modEng k (fun e => { e with tagNext := false })).leftIssue k d x
            if r = some stLM_BOUNDS then s2.teErr k F.TE_ERR_LM_BOUNDS else s2
        let chk := decodeCheck s k d i
        let regWait := i.cls = 0 ∧ opcClass i.opc = some 0 ∧ !i.rsv ∧ kindsOk i
          ∧ w.sb.any (fun t => anyShared (footOf s k d (Ins.of t.iw)).wrr (footOf s k d i).rr)
        let held := i.cls = 0 ∧ opcClass i.opc = some 0 ∧ !i.rsv ∧ i.wait ∧ chk.isSome ∧ w.sb ≠ []
        if regWait ∨ held then s
        else match chk with
          | some st => place (some st)
          | none =>
            if i.cls = 0 then
              let t := s.control k d i
              if (t.drw k d).seq = w.seq then t
              else
                let t := if (s.eng k).tagNext then
                    (t.psbRecord k d x iw stOK 0 (s.perfTime k) false).modEng k (fun e => { e with tagNext := false })
                  else t
                t.leftIssue k d x
            else place none

end Sys2Proof.Machine
end

