-- ==== Sys2Proof/Machine/Dma.lean ====
section
/-! DEFINITION. Tensor DMA, and gather and scatter (05 R123, R124, R136-R138, R158-R162; 07 R221-R223). -/

namespace Sys2Proof.Machine

/-! ### Tensors in fabric memory (05 R124) -/

/-- Fabric strides and element size of the tensor moved to or from `t` (05 R124): those of a layout descriptor, or
dense. A B4 row counts bytes. -/
def fabStrides (w : Drawer) (o : Opnd) (t : Desc) : Nat × Nat × Nat × Nat :=
  match o with
  | .reg .T n => let l := Desc.of (w.rdT n); (l.st0, l.st1, l.st2, l.st3)
  | _ =>
    let e := esize t.fmt
    let f1 := if t.fmt = 1 then t.d0 / 2 else t.d0 * e
    (e, f1, f1 * t.d1, f1 * t.d1 * t.d2)

/-- The tensor operand of a DMA instruction. -/
def dmaTensor (w : Drawer) (i : Ins) : Desc := if i.opc = 0x10 then w.desc i.dst else w.desc i.srca

/-- Elements of one row as (fabric address, window offset); bytes for B4. -/
def dmaRow (t : Desc) (f0 f1 f2 f3 addr i1 i2 i3 : Nat) : List (Nat × Nat) :=
  let n := if t.fmt = 1 then t.d0 / 2 else t.d0
  let l0 := if t.fmt = 1 then 1 else t.st0
  (List.range n).map (fun x =>
    (addr + x * f0 + i1 * f1 + i2 * f2 + i3 * f3, t.base + x * l0 + i1 * t.st1 + i2 * t.st2 + i3 * t.st3))

/-- The pieces of a transfer, in order. -/
def dmaPieces (w : Drawer) (i : Ins) : List (List (Nat × Nat)) :=
  let t := dmaTensor w i
  let (f0, f1, f2, f3) := fabStrides w i.srcb t
  (List.range (t.d1 * t.d2 * t.d3)).flatMap (fun r =>
    byLine (dmaRow t f0 f1 f2 f3 (bits i.imm 47 0) (r % t.d1) (r / t.d1 % t.d2) (r / (t.d1 * t.d2))))

/-- First fabric byte and bytes of a piece. -/
def pieceSpan (e : Nat) (p : List (Nat × Nat)) : Nat × Nat :=
  let lo := p.foldl (fun m q => min m q.1) (nth (0, 0) p 0).1
  let hi := p.foldl (fun m q => max m (q.1 + e)) 0
  (lo, hi - lo)

/-- Fabric bytes a master could write left undefined (05 R123), without a log entry. -/
def State.scrambleFab (s : State) (m : Master) (l : List (Nat × Nat)) : State :=
  l.foldl (fun s r =>
    match s.toDevice m r.1 r.2 with
    | none => s
    | some a => if (s.refuse m true a r.2).isNone ∧ s.region a ≠ .outbound then s.scramble a r.2 else s) s

/-- Whether a piece's request leaves the engine's port in this window (12 R406), and its Stream Buffer slice serves it (12 R398). -/
def dmaReady (k : EngineId) (s : State) (d : Fin 8) (i : Ins) (n : Nat) : Bool :=
  s.portServes (.te k) (nth (0, 0) (nth [] (dmaPieces (s.drw k d) i) n) 0).1

/-- One piece of a TLOAD (05 R136; 05 R123, 10 R297). -/
def tloadUnit (k : EngineId) (s : State) (d : Fin 8) (i : Ins) (n : Nat) : UnitRes :=
  let w := s.drw k d
  let t := dmaTensor w i
  let e := esize t.fmt
  let p := nth [] (dmaPieces w i) n
  let (lo, len) := pieceSpan e p
  let (s, r) := s.fabRead (.te k) lo len
  if r.st ≠ stOK then (s.scrambleDesc k d t, some r.st)
  else
    let (s, bad) := s.lmStore k d (p.flatMap (fun q => (List.range e).map (fun x => (q.2 + x, nth 0 r.data (q.1 - lo + x)))))
    (s, if bad then noteLM else none)

/-- One piece of a TSTORE (05 R136; 05 R123, 12 R387, R651). -/
def tstoreUnit (k : EngineId) (s : State) (d : Fin 8) (i : Ins) (n : Nat) : UnitRes :=
  let w := s.drw k d
  let t := dmaTensor w i
  let e := esize t.fmt
  let ps := dmaPieces w i
  let p := nth [] ps n
  let (lo, len) := pieceSpan e p
  let rest := (ps.drop n).flatMap (fun q => q.map (fun x => (x.1, e)))
  if s.lmBad k d (p.map (fun q => q.2)) e then (s.scrambleFab (.te k) rest, some stLM_DETECT)
  else
    let (s, st) := s.fabWriteSpan (.te k) lo len (p.flatMap (fun q =>
      (List.range e).map (fun x => (q.1 - lo + x, s.mem.read (s.lmKey k d (q.2 + x))))))
    if st = stOK then (s, none)
    else if st = stMEM_DETECT then (s, some (256 + stMEM_DETECT))
    else (s.scrambleFab (.te k) rest, some st)

/-- TLOAD as units. -/
def tloadOps (k : EngineId) : UnitOps :=
  { start := noCheck, total := fun s d i => (dmaPieces (s.drw k d) i).length, ready := dmaReady k,
    unit := tloadUnit k, fin := noCheck }

/-- TSTORE as units. -/
def tstoreOps (k : EngineId) : UnitOps :=
  { start := noCheck, total := fun s d i => (dmaPieces (s.drw k d) i).length, ready := dmaReady k,
    unit := tstoreUnit k, fin := noCheck }

/-! ### Gather and scatter -/

/-- Segments of a row (05 R162). -/
def rowSegs (t : Desc) : Nat := cdiv (t.d0 * esize t.fmt) 64

/-- The fabric bytes that an instruction writes, as (address, length): those of a TSTORE's elements, and of a
fabric SCATTER's rows. -/
def State.fabWrites (s : State) (k : EngineId) (d : Fin 8) (i : Ins) : List (Nat × Nat) :=
  let w := s.drw k d
  if i.opc = 0x11 then (dmaPieces w i).flatMap (fun p => p.map (fun q => (q.1, esize (dmaTensor w i).fmt)))
  else if i.opc = 0x51 ∧ bit i.mod 0 then
    let (t, r) := tableOf w i
    (List.range r.d1).filterMap (fun x => match s.gsRow k d i x with | .fab a => some (a, t.d0 * esize t.fmt) | _ => none)
  else []

/-- The destination of a SCATTER or GATHER left undefined (02 R46, 05 R123). -/
def State.gsUndefined (s : State) (k : EngineId) (d : Fin 8) (i : Ins) : State :=
  (s.scrambleRanges k d (s.writesOf k d i false)).scrambleFab (.te k) (s.fabWrites k d i)

/-- Bytes of a segment of a row: first byte and length (05 R162). -/
def segSpan (t : Desc) (g : Nat) : Nat × Nat := (64 * g, min 64 (t.d0 * esize t.fmt - 64 * g))

/-- The value that SCATTER's max compares: of BF16 and FP32 the exact one, subnormals included (07 R222). -/
def maxFV (fmt v : Nat) : FV := fvF32 (if fmt = 4 then v * 65536 else v)

/-- One contribution of SCATTER to one destination element (05 R161; 07 R222). -/
def scatterElem (mode fmt old new : Nat) : Nat :=
  match mode with
  | 0 => if fmt = 6 then (old + new) % 2 ^ 32 else (fvSum [fvF32z old, fvF32z new]).toF32
  | 1 =>
    if fmtInt fmt then (if intOf fmt old < intOf fmt new then new else old)
    else
      let a := maxFV fmt old
      let b := maxFV fmt new
      if a == .nan || b == .nan then (if fmt = 4 then 0x7FC0 else nan32) else if a.ltz b then new else old
  | _ => new

/-- Whether a SCATTER updates fabric rows by reading and writing them: two pieces a row, between which another master may write
(07 R223). -/
def fabUpdate (i : Ins) : Bool := i.opc == 0x51 && bits i.mod 2 1 != 2 && bit i.mod 0

/-- One segment of a GATHER row, or of a row of a SCATTER in last-writer mode; or one row of a SCATTER in sum or max mode, in Local
Memory in one piece, in fabric memory its read and then its write (05 R158-R162; 07 R221-R223). `u` is the unit that does it, which
keeps what it has read in entry `e`. -/
def State.gsPiece (s : State) (k : EngineId) (d : Fin 8) (e' : Nat) (i : Ins) (u r g : Nat) : UnitRes :=
  let w := s.drw k d
  let (t, row) := tableOf w i
  let e := esize t.fmt
  let gather := i.opc = 0x50
  let mode := bits i.mod 2 1
  let wholeRow := !gather && mode != 2
  let (o, len) := if wholeRow then (0, t.d0 * e) else segSpan t g
  let lmOff := row.base + r * row.st1 + o
  match s.gsRow k d i r with
  | .bad => (s.gsUndefined k d i, some stLM_DETECT)
  | .skip st =>
    if gather ∧ st = stROW_SKIPPED then
      let (s, bad) := s.lmStore k d (runOf lmOff (List.replicate len 0))
      (s, if bad then noteLM else some (256 + st))
    else (s, some (256 + st))
  | .absent =>
    if gather then
      let (s, bad) := s.lmStore k d (runOf lmOff (List.replicate len 0))
      (s, if bad then noteLM else none)
    else (s, none)
  | .lm a =>
    let src := if gather then a + o else lmOff
    let dst := if gather then lmOff else a + o
    if s.lmBad k d [src] len then (s.gsUndefined k d i, some stLM_DETECT)
    else if wholeRow ∧ s.lmBad k d [dst] len then (s.gsUndefined k d i, some stLM_DETECT)
    else
      let data := if wholeRow then
          (List.range t.d0).flatMap (fun c =>
            leBytes (scatterElem mode t.fmt (s.lmNat k d (dst + c * e) e) (s.lmNat k d (src + c * e) e)) e)
        else s.mem.readBytes (s.lmKey k d src) len
      let (s, bad) := s.lmStore k d (runOf dst data)
      (s, if bad then noteLM else none)
  | .fab a =>
    if gather then
      let (s, q) := s.fabRead (.te k) (a + o) len
      if q.st ≠ stOK then (s.gsUndefined k d i, some q.st)
      else
        let (s, bad) := s.lmStore k d (runOf lmOff q.data)
        (s, if bad then noteLM else none)
    else if s.lmBad k d [lmOff] len then (s.gsUndefined k d i, some stLM_DETECT)
    else
      if wholeRow ∧ g = 0 then
        let (s, q) := s.fabRead (.te k) (a + o) len
        if q.st ≠ stOK then (s.gsUndefined k d i, some q.st)
        else (s.modEnt k d e' (fun t => { t with chk := (List.range (4 * row.d0)).map (fun x =>
          if x / row.d0 = u then fieldAt q.data (x % row.d0 * e) e else nth 0 t.chk x) }), none)
      else
        let old := match w.sb[e']? with | some t => t.chk | none => []
        let data := if wholeRow then
            (List.range t.d0).flatMap (fun c =>
              leBytes (scatterElem mode t.fmt (nth 0 old (u * row.d0 + c)) (s.lmNat k d (lmOff + c * e) e)) e)
          else s.mem.readBytes (s.lmKey k d lmOff) len
        let (s, st) := s.fabWrite (.te k) (a + o) data
        if st = stOK then (s, none) else if st = stMEM_DETECT then (s, some (256 + st))
        else (s.gsUndefined k d i, some st)

/-- Pieces of one row. -/
def gsPieces (i : Ins) (t : Desc) : Nat :=
  if fabUpdate i then 2 else if i.opc = 0x51 ∧ bits i.mod 2 1 ≠ 2 then 1 else rowSegs t

/-- Whether every unit of a GATHER or SCATTER stands at a whole row (04 R106). -/
def wholeRows (w : Drawer) (e : SbEntry) : Bool :=
  let i := Ins.of e.iw
  e.acc.all (fun p => p % max 1 (gsPieces i (tableOf w i).1) == 0)

/-- The piece unit `u` does next, by the pieces each unit has done (07 R221: row r belongs to unit r mod 4). -/
def gsNext (i : Ins) (t row : Desc) (done : List Nat) (u : Nat) : Option (Nat × Nat) :=
  let n := gsPieces i t
  let p := nth 0 done u
  let r := 4 * (p / n) + u
  if n = 0 ∨ row.d1 ≤ r then none else some (r, p % n)

/-- Whether row `r`'s access to a table in fabric memory waits for its slice or its budget (12 R398, R406), or its update for that of
another unit on the same bytes, which contributions do not overlap (07 R221). -/
def State.gsWaits (s : State) (k : EngineId) (d : Fin 8) (i : Ins) (done : List Nat) (u r : Nat) : Bool :=
  let (t, row) := tableOf (s.drw k d) i
  let n := t.d0 * esize t.fmt
  match s.gsRow k d i r with
  | .fab a => !s.portServes (.te k) a || (fabUpdate i && [0, 1, 2, 3].any (fun v => v != u && nth 0 done v % 2 == 1 &&
      (match gsNext i t row done v with
       | some (q, _) => (match s.gsRow k d i q with | .fab b => overlap (a, a + n - 1) (b, b + n - 1) | _ => false)
       | none => false)))
  | _ => false

/-- A GATHER or SCATTER follows a schedule: each number names the unit that does its next piece (07 R221: the order
between units is not defined). It ends once every unit has no piece left. -/
def State.gsRun (s : State) (k : EngineId) (d : Fin 8) (e : Nat) (i : Ins) : List (Fin 4) → State
  | [] =>
    match (s.drw k d).sb[e]? with
    | none => s
    | some t =>
      let (tb, row) := tableOf (s.drw k d) i
      if t.st = .running ∧ [0, 1, 2, 3].all (fun u => (gsNext i tb row t.acc u).isNone) then
        s.setDone k d e t.status else s
  | u :: us =>
    match (s.drw k d).sb[e]? with
    | none => s
    | some t =>
      let (tb, row) := tableOf (s.drw k d) i
      if t.st ≠ .running then s
      else match gsNext i tb row t.acc u.val with
      | none => s.gsRun k d e i us
      | some (r, g) =>
        if s.gsWaits k d i t.acc u.val r then s.gsRun k d e i us else
        let (s, st) := s.gsPiece k d e i u.val r g
        let s := s.modEnt k d e (fun t =>
          { t with acc := modAt (fun x => x + 1) u.val t.acc, pos := t.pos + 1 })
        match st with
        | none => s.gsRun k d e i us
        | some v =>
          if 256 ≤ v then (s.modEnt k d e (fun t => { t with status := max t.status (v - 256) })).gsRun k d e i us
          else s.setDone k d e v

/-- Entry `e` of engine `k`, a GATHER or SCATTER, starts if it has not and may, and follows a schedule. -/
def State.runGs (s : State) (k : EngineId) (e opc : Nat) (sched : List (Fin 4)) : State :=
  match s.entry k e with
  | none => s
  | some (d, t, i) =>
    if i.opc ≠ opc then s
    else match t.st with
      | .done => s
      | .waiting =>
        if s.canStart k d e i then
          (((s.starting k d e).begins k d i).modEnt k d e (fun t => { t with acc := [0, 0, 0, 0] })).gsRun k d e i sched
        else s
      | .suspended =>
        if (s.eng k).st = .running then ((s.starting k d e).setQct k (i.effQct (s.eng k).jobQct)).gsRun k d e i sched
        else s
      | .running => (s.setQct k (i.effQct (s.eng k).jobQct)).gsRun k d e i sched

end Sys2Proof.Machine
end

