-- ==== Sys2Proof/Machine/MapUnit.lean ====
section
/-! DEFINITION. The Coordinate Map Unit and the Map instructions (07 R196-R220, R224; 05 R163, R164). -/

namespace Sys2Proof.Machine

/-- The enabled share of a cabinet (07 R198, R226). -/
def State.shareOf (s : State) (c : CabId) : Option (Fin 8) :=
  (List.finRange 8).find? (fun n => s.flag F.CMU_SHARE_CFG_EN n.val && s.rd F.CMU_SHARE_CFG_CABINET n.val == c.val)

/-- The share an engine's Map instructions use (07 R199). -/
def State.shareAt (s : State) (k : EngineId) : Option (Fin 8) := (s.holder k.val).bind (fun c => s.shareOf c)

/-- The cabinet of an enabled share. -/
def State.cabOfShare (s : State) (n : Fin 8) : Option CabId :=
  if s.flag F.CMU_SHARE_CFG_EN n.val then some (cabId (s.rd F.CMU_SHARE_CFG_CABINET n.val)) else none

/-- Share `n` changed. -/
def State.modShare (s : State) (n : Fin 8) (f : Share → Share) : State := { s with shares := vmod s.shares n f }

/-- The value a share holds for a key. -/
def Share.find (h : Share) (key : Nat) : Option Nat := (h.entries.find? (fun e => e.1 == key)).map (fun e => e.2)

/-- An entry put in its place by rising key. -/
def insertKV (k v : Nat) : List (Nat × Nat) → List (Nat × Nat)
  | [] => [(k, v)]
  | e :: l => if k < e.1 then (k, v) :: e :: l else e :: insertKV k v l

/-- A share emptied and open (07 R208); codes are new. -/
def Share.cleared (h : Share) : Share :=
  { h with st := .open_, entries := [], rlogCnt := 0, clearAfter := false, badKeys := [] }

/-- A detection in a share (07 R216). -/
def State.shareFault (s : State) (n : Fin 8) : State :=
  (s.modShare n (fun h => { h with st := .faulted })).put0 F.CMU_ERR_DETECT 1

/-- Whether the search for a key meets a failing entry (07 R216): always where the failing entry holds that key;
where another entry fails, which entries a search reads is not specified: a free value. -/
def State.searchBad (s : State) (n : Fin 8) (key : Nat) : State × Bool :=
  let h := vget s.shares n
  if h.badKeys.isEmpty then (s, false)
  else if h.badKeys.contains key then (s, true)
  else
    let (c, s) := s.nextFree
    (s, Config.freeBool c key)

/-- Key `j` of a key tensor (05 R163). -/
def State.keyAt (s : State) (k : EngineId) (d : Fin 8) (t : Desc) (j : Nat) : Nat :=
  s.lmNat k d (t.off 0 j 0 0) 4 + 2 ^ 32 * s.lmNat k d (t.off 1 j 0 0) 4

/-- Whether key `j` fails its code. -/
def State.keyBad (s : State) (k : EngineId) (d : Fin 8) (t : Desc) (j : Nat) : Bool :=
  s.lmBad k d [t.off 0 j 0 0, t.off 1 j 0 0] 4

/-- The absent result (07 R197). -/
def absent : Nat := 0xFFFFFFFF

/-- A rejection logged (07 R205, R206). -/
def State.rejectLog (s : State) (n : Fin 8) (k : EngineId) (d : Fin 8) (key v reason : Nat) : State :=
  let cnt := (vget s.shares n).rlogCnt
  let s := s.modShare n (fun h => { h with rlogCnt := satInc 32 h.rlogCnt })
  if s.rd F.CMU_SHARE_RLOG_LEN_LEN n.val ≤ cnt then s
  else
    let s : State := { s with ms := { s.ms with rlogQct := (s.eng k).reqQct } }
    let a := s.rd F.CMU_SHARE_RLOG_ADDR n.val / 64 * 64 + 16 * cnt
    let (s, st) := s.fabWrite (.rlog (cabId (s.rd F.CMU_SHARE_CFG_CABINET n.val))) a
      (leBytes key 8 ++ leBytes v 4 ++ leBytes reason 1 ++ leBytes k.val 1 ++ leBytes d.val 1 ++ leBytes 0 1)
    if st = stOK then s else s.put0 F.CMU_ERR_RLOG_FABRIC 1

/-- The accepted pairs and the two rejection marks a MINS carries: accepted, a FULL rejection, a VALUE rejection. -/
def minsAcc (a : List Nat) : Nat × Nat × Nat := (nth 0 a 0, nth 0 a 1, nth 0 a 2)

/-- One pair of a MINS (07 R202). -/
def State.minsPair (s : State) (n : Fin 8) (k : EngineId) (d : Fin 8) (e key v : Nat) : State × Bool :=
  let upd := fun (s : State) (f : Nat × Nat × Nat → List Nat) => s.modEnt k d e (fun t => { t with acc := f (minsAcc t.acc) })
  if v = absent then ((s.rejectLog n k d key v 2).modEnt k d e (fun t =>
    { t with acc := [(minsAcc t.acc).1, (minsAcc t.acc).2.1, 1] }), true)
  else
    let (s, bad) := (s.countUnit 1 0x20 k.val 0).searchBad n key
    if bad then (s, false)
    else
      let h := vget s.shares n
      match h.find key with
      | some _ => (upd s (fun a => [a.1 + 1, a.2.1, a.2.2]), true)
      | none =>
        if h.entries.length < s.rd F.CMU_SHARE_CFG_LIMIT n.val then
          (upd (s.modShare n (fun h => { h with entries := insertKV key v h.entries })) (fun a => [a.1 + 1, a.2.1, a.2.2]), true)
        else (upd (s.rejectLog n k d key v 1) (fun a => [a.1, 1, a.2.2]), true)

/-- DST S of a MINS receives its accepted count (07 R203, R213). -/
def State.minsCount (s : State) (k : EngineId) (d : Fin 8) (e : Nat) (i : Ins) : State :=
  match (s.drw k d).sb[e]? with
  | some t => if isReg .S i.dst then s.modDrw k d (fun w => w.wrS i.dst.num (minsAcc t.acc).1) else s
  | none => s

/-- Up to `m` pairs of a MINS from pair `j` on; a status where it ends. -/
def State.minsPairs (s : State) (n : Fin 8) (k : EngineId) (d : Fin 8) (e : Nat) (a b : Desc) (j : Nat) : Nat → UnitRes
  | 0 => (s, none)
  | m + 1 =>
    if s.keyBad k d a j || s.lmBad k d [b.off 0 j 0 0] 4 then (s, some stLM_DETECT)
    else
      let (s, ok) := s.minsPair n k d e (s.keyAt k d a j) (s.lmNat k d (b.off 0 j 0 0) 4)
      if ok then s.minsPairs n k d e a b (j + 1) m else (s.shareFault n, some stCMU_DETECT)

/-- The start of a Map instruction that the given share states accept (07 R199, R200). -/
def mapStart (k : EngineId) (ok : ShareState → Bool) (s : State) (_ : Fin 8) (_ : Ins) : UnitRes :=
  match s.shareAt k with
  | none => (s, some stNO_SHARE)
  | some n => if ok (vget s.shares n).st then (s, none) else (s, some stMAP_STATE)

/-- Batches of up to 256 (07 R212). -/
def batches (n : Nat) : Nat := cdiv n 256

/-- The start of a MINS: one that ends there has accepted no pair, and DST S receives that count for every status (07 R213). -/
def minsStart (k : EngineId) (s : State) (d : Fin 8) (i : Ins) : UnitRes :=
  match mapStart k (fun t => t == .open_) s d i with
  | (s, some st) => (if isReg .S i.dst then s.modDrw k d (fun w => w.wrS i.dst.num 0) else s, some st)
  | r => r

/-- One batch of a MINS (07 R212, R213). -/
def minsUnit (k : EngineId) (e : Nat) (s : State) (d : Fin 8) (i : Ins) (x : Nat) : UnitRes :=
  let w := s.drw k d
  let a := w.desc i.srca
  match s.shareAt k with
  | none => (s.minsCount k d e i, some stNO_SHARE)
  | some n =>
    if (vget s.shares n).st ≠ .open_ then (s.minsCount k d e i, some stMAP_STATE)
    else
      let (s, r) := s.minsPairs n k d e a (w.desc i.srcb) (256 * x) (min 256 (a.d1 - 256 * x))
      match r with
      | some st => (s.minsCount k d e i, some st)
      | none => (s, none)

/-- The end of a MINS (07 R203). -/
def minsFin (k : EngineId) (e : Nat) (s : State) (d : Fin 8) (i : Ins) : UnitRes :=
  match (s.drw k d).sb[e]? with
  | none => (s, none)
  | some t =>
    let (_, full, val) := minsAcc t.acc
    (s.minsCount k d e i, some (if full = 1 then stMAP_FULL else if val = 1 then stVALUE_RESERVED else stOK))

/-- MINS as units. -/
def minsOps (k : EngineId) (e : Nat) : UnitOps :=
  { start := minsStart k, total := fun s d i => batches ((s.drw k d).desc i.srca).d1,
    ready := always, unit := minsUnit k e, fin := minsFin k e }

/-- The result of one lookup (07 R209, R216); none where it meets a detection. -/
def State.lookup (s : State) (n : Fin 8) (key : Nat) : State × Option Nat :=
  let (s, bad) := (s.countUnit 1 0x21 0 0).searchBad n key
  if bad then (s, none) else (s, some (((vget s.shares n).find key).getD absent))

/-- Lookups `j` on of a MLOOK or MKMAP: `key` gives the key of one (none: absent without a lookup), `off` its place
in DST, `bad` whether its operands fail. -/
def State.lookups (s : State) (n : Fin 8) (k : EngineId) (d : Fin 8) (dst : Desc) (key : Nat → Option Nat)
    (off : Nat → Nat) (bad : Nat → Bool) (j : Nat) : Nat → UnitRes
  | 0 => (s, none)
  | m + 1 =>
    if bad j then (s.scrambleDesc k d dst, some stLM_DETECT)
    else
      let (s, v) := match key j with
        | none => (s, some absent)
        | some x => s.lookup n x
      match v with
      | none => ((s.shareFault n).scrambleDesc k d dst, some stCMU_DETECT)
      | some v =>
        let (s, b) := s.lmStore k d (runOf (off j) (leBytes v 4))
        let (s, r) := s.lookups n k d dst key off bad (j + 1) m
        (s, match r with | some st => some st | none => if b then noteLM else none)

/-- One batch of a MLOOK (07 R209). -/
def mlookUnit (k : EngineId) (s : State) (d : Fin 8) (i : Ins) (x : Nat) : UnitRes :=
  let w := s.drw k d
  let a := w.desc i.srca
  let t := w.desc i.dst
  match s.shareAt k with
  | none => (s, some stNO_SHARE)
  | some n =>
    if (vget s.shares n).st ≠ .sealed then (s, some stMAP_STATE)
    else s.lookups n k d t (fun j => some (s.keyAt k d a j)) (fun j => t.off 0 j 0 0)
      (fun j => s.keyBad k d a j) (256 * x) (min 256 (a.d1 - 256 * x))

/-- MLOOK as units. -/
def mlookOps (k : EngineId) : UnitOps :=
  { start := mapStart k (fun t => t == .sealed), total := fun s d i => batches ((s.drw k d).desc i.srca).d1,
    ready := always, unit := mlookUnit k, fin := noCheck }

/-- The key MKMAP forms from a site and an offset (07 R210); none outside the coordinate range. -/
def kmapKey (site off : Nat) : Option Nat :=
  let c := fun (lo : Nat) => ((bits site (lo + 17) lo : Nat) : Int) + sext 18 (bits off (lo + 17) lo)
  let ok := fun (z : Int) => decide (0 ≤ z ∧ z ≤ 262143)
  if ok (c 0) && ok (c 18) && ok (c 36) then
    some ((c 0).toNat + (c 18).toNat * 2 ^ 18 + (c 36).toNat * 2 ^ 36 + bits site 63 54 * 2 ^ 54)
  else none

/-- One batch of a MKMAP (07 R210, R212). -/
def mkmapUnit (k : EngineId) (s : State) (d : Fin 8) (i : Ins) (x : Nat) : UnitRes :=
  let w := s.drw k d
  let a := w.desc i.srca
  let b := w.desc i.srcb
  let t := w.desc i.dst
  let o := b.d1
  match s.shareAt k with
  | none => (s, some stNO_SHARE)
  | some n =>
    if (vget s.shares n).st ≠ .sealed then (s, some stMAP_STATE)
    else s.lookups n k d t (fun j => kmapKey (s.keyAt k d a (j / o)) (s.keyAt k d b (j % o)))
      (fun j => t.off (j % o) (j / o) 0 0) (fun j => s.keyBad k d a (j / o) || s.keyBad k d b (j % o))
      (256 * x) (min 256 (a.d1 * o - 256 * x))

/-- MKMAP as units. -/
def mkmapOps (k : EngineId) : UnitOps :=
  { start := mapStart k (fun t => t == .sealed),
    total := fun s d i => batches (((s.drw k d).desc i.srca).d1 * ((s.drw k d).desc i.srcb).d1),
    ready := always, unit := mkmapUnit k, fin := noCheck }

/-- One query of a MNBR (07 R219). -/
def mnbrUnit (k : EngineId) (s : State) (d : Fin 8) (i : Ins) (r : Nat) : UnitRes :=
  let w := s.drw k d
  let a := w.desc i.srca
  let b := w.desc i.srcb
  let t := w.desc i.dst
  let len := bits i.imm 47 24
  let col := bits i.imm 23 0
  let G := t.d0
  let row := fun (f : Nat → Nat) => (List.range G).flatMap (fun j => runOf (t.off j r 0 0) (leBytes (f j) 4))
  let put := fun (s : State) (f : Nat → Nat) (st : Nat) =>
    let (s, bad) := s.lmStore k d (row f)
    (s, if bad then noteLM else if st = stOK then none else some (256 + st))
  if s.lmBad k d [a.off 0 r 0 0] 4 then (s.scrambleDesc k d t, some stLM_DETECT)
  else
    let v := sext 32 (s.lmNat k d (a.off 0 r 0 0) 4)
    if v = -1 then put s (fun _ => absent) stOK
    else if v < -1 ∨ (b.d0 : Int) - 1 ≤ v then put s (fun _ => absent) stNODE_INVALID
    else
      let p := fun (j : Nat) => b.off (v.toNat + j) 0 0 0
      if s.lmBad k d [p 0, p 1] 4 then (s.scrambleDesc k d t, some stLM_DETECT)
      else
        let lo := sext 32 (s.lmNat k d (p 0) 4)
        let hi := sext 32 (s.lmNat k d (p 1) 4)
        if lo < 0 ∨ hi < lo ∨ (len : Int) < hi then put s (fun _ => absent) stNODE_INVALID
        else
          let m := min (hi - lo).toNat G
          let src := fun j => col + 4 * (lo.toNat + j)
          if s.lmBad k d ((List.range m).map src) 4 then (s.scrambleDesc k d t, some stLM_DETECT)
          else put s (fun j => if j < m then s.lmNat k d (src j) 4 else absent)
            (if (G : Int) < hi - lo then stNBR_TRUNCATED else stOK)

/-- MNBR as units: NODE_INVALID stands above NBR_TRUNCATED in the order of their codes, as 07 R219 wants. -/
def mnbrOps (k : EngineId) : UnitOps :=
  { start := mapStart k (fun _ => true), total := fun s d i => ((s.drw k d).desc i.srca).d1,
    ready := always, unit := mnbrUnit k, fin := noCheck }

/-- The CMU serves the next batch of a started MINS, MLOOK or MKMAP (07 R212). -/
def State.mapBatch (s : State) (k : EngineId) (e : Nat) : State :=
  match s.entry k e with
  | none => s
  | some (d, t, i) =>
    if t.st ≠ .running then s
    else let s := s.setQct k (i.effQct (s.eng k).jobQct)
    match i.opc with
      | 0x60 => s.proceed k e 1 (minsOps k e) d i
      | 0x62 => s.proceed k e 1 (mlookOps k) d i
      | 0x63 => s.proceed k e 1 (mkmapOps k) d i
      | _ => s

/-- MSEAL with MOD[0] = 0 (07 R207, R213, R214): the CMU accepts the seal; a seal that was suspended completes once
the share is no longer SEALING. -/
def State.mseal (s : State) (k : EngineId) (e : Nat) (clear : Bool) : State :=
  match s.entry k e with
  | none => s
  | some (d, t, i) =>
    if i.opc ≠ 0x61 ∨ bit i.mod 0 ≠ clear then s
    else match t.st with
      | .done => s
      | .waiting =>
        if !s.canStart k d e i then s
        else
          let s := (s.starting k d e).setQct k (i.effQct (s.eng k).jobQct)
          match s.shareAt k with
          | none => s.setDone k d e stNO_SHARE
          | some n =>
            let h := vget s.shares n
            if clear then
              if h.st = .sealing then
                (s.modShare n (fun h => { h with clearAfter := true })).modEnt k d e (fun t => { t with granted := true })
              else (s.modShare n Share.cleared).setDone k d e stOK
            else if h.st ≠ .open_ then s.setDone k d e stMAP_STATE
            else (s.modShare n (fun h => { h with st := .sealing })).modEnt k d e (fun t => { t with granted := true })
      | _ =>
        if t.st = .suspended ∧ (s.eng k).st ≠ .running then s
        else if t.acc ≠ [] then s.setDone k d e (nth stOK t.acc 0)
        else match s.shareAt k with
          | none => s.setDone k d e stNO_SHARE
          | some n =>
            let h := vget s.shares n
            if h.st = .sealing then s.modEnt k d e (fun t => { t with st := .running })
            else s.setDone k d e stOK

/-- A seal ends (07 R207, R213, R216): the share is SEALED, or FAULTED where an entry's code fails; a clear that
waited then empties it; the MSEALs that run on it complete, and those that are suspended, on whatever drawer of the cabinet, keep
their outcome until they resume (R214). -/
def State.sealEnd (s : State) (n : Fin 8) : State :=
  let h := vget s.shares n
  if h.st ≠ .sealing then s
  else
    let bad := !h.badKeys.isEmpty
    let s := if bad then s.shareFault n else s.modShare n (fun h => { h with st := .sealed })
    let s := if h.clearAfter then s.modShare n Share.cleared else s
    let outcome := fun (t : SbEntry) =>
      let i := Ins.of t.iw
      let st := if bad && !bit i.mod 0 then stCMU_DETECT else stOK
      if i.opc = 0x61 ∧ t.granted ∧ t.st = .running then { t with st := .done, status := st }
      else if i.opc = 0x61 ∧ t.granted ∧ t.st = .suspended then { t with acc := [st] }
      else t
    let s : State := (List.finRange 17).foldl (fun s k =>
      if s.shareAt k ≠ some n then s
      else s.modEng k (fun e => { e with drawers := e.drawers.map (fun w =>
        { w with sb := w.sb.map outcome, recs := w.recs.map outcome }) })) s
    match s.cabOfShare n with
    | none => s
    | some c => s.modCab c (fun b => { b with ctxs := b.ctxs.map (fun o => o.map (fun t =>
        { t with ranks := t.ranks.map (fun r => { r with saved := r.saved.map (fun w => { w with recs := w.recs.map outcome }) }) })) })

/-! ### Enabling and disabling a share -/

/-- EN of share `n` set to 1 (07 R198, R226): refused where the limits overcommit or the cabinet has a share. -/
def State.shareEnable (s : State) (n : Fin 8) : State :=
  if s.flag F.CMU_SHARE_CFG_EN n.val then s
  else
    let on := (List.finRange 8).filter (fun m => m != n && s.flag F.CMU_SHARE_CFG_EN m.val)
    let sum := on.foldl (fun t m => t + s.rd F.CMU_SHARE_CFG_LIMIT m.val) (s.rd F.CMU_SHARE_CFG_LIMIT n.val)
    if 2097152 < sum ∨ on.any (fun m => s.rd F.CMU_SHARE_CFG_CABINET m.val == s.rd F.CMU_SHARE_CFG_CABINET n.val) then
      s.put0 F.CMU_ERR_OVERCOMMIT 1
    else (s.put F.CMU_SHARE_CFG_EN n.val 0 1).modShare n (fun _ => ⟨.open_, [], 0, false, []⟩)

/-- EN of share `n` set to 0 (07 R201): its entries and its log count are discarded. -/
def State.shareDisable (s : State) (n : Fin 8) : State :=
  (s.put F.CMU_SHARE_CFG_EN n.val 0 0).modShare n (fun _ => ⟨.disabled, [], 0, false, []⟩)

end Sys2Proof.Machine
end

