-- ==== Sys2Proof/Machine/Ppu.lean ====
section
/-! DEFINITION. POST and the Post-Processing Units (05 R171; 06 R183-R195). -/

namespace Sys2Proof.Machine

/-- A request block taken apart (06 R184). -/
structure PpuBlock where
  score : Nat
  box : Nat
  anchor : Nat
  cls : Nat
  out : Nat
  work : Nat
  n : Nat
  keepMax : Nat
  mode : Nat
  formats : Nat
  scoreMin : Nat
  iouMax : Nat
  scale : Nat
  clamp : Nat
  rsv : Nat
  deriving DecidableEq, Repr

/-- The fields of a request block (06 R184). -/
def PpuBlock.of (l : List Byte) : PpuBlock :=
  let g := fieldAt l
  ⟨g 0 6, g 6 6, g 12 6, g 18 6, g 24 6, g 30 6, g 36 4, g 40 2, g 42 1, g 43 1, g 44 4, g 48 4, g 52 4, g 56 4, g 60 4⟩

/-- BEV boxes rather than image boxes. -/
def PpuBlock.bev (b : PpuBlock) : Bool := bits b.mode 1 0 == 1
/-- Elements of a box. -/
def PpuBlock.elems (b : PpuBlock) : Nat := if b.bev then 5 else 4
/-- Bytes of an element format of the block. -/
def ppuSize (f : Nat) : Nat := if f = 4 then 2 else if f = 7 then 4 else 1

/-- The faults of R185; true where the block is refused. -/
def PpuBlock.faulty (b : PpuBlock) : Bool :=
  let fmtOk := fun f => f == 0 || f == 4 || f == 7
  let sf := bits b.formats 3 0
  let bf := bits b.formats 7 4
  let one := 0x3F800000
  decide (bits b.mode 7 4 ≠ 0) || decide (2 ≤ bits b.mode 1 0) || !fmtOk sf || !fmtOk bf || b.rsv != 0
    || decide (65536 < b.n) || decide (b.keepMax = 0 ∨ 2048 < b.keepMax)
    || f32isNan b.scoreMin || f32isNan b.iouMax || f32lt b.iouMax 0 || f32lt one b.iouMax
    || !f32finite b.scale || !f32finite b.clamp
    || decide (b.score % ppuSize sf ≠ 0 ∨ b.box % ppuSize bf ≠ 0 ∨ b.out % 32 ≠ 0 ∨ b.work % 64 ≠ 0)
    || (bit b.mode 2 && decide (b.anchor % 4 ≠ 0))

/-- Raw bits of a candidate element to FP32 (06 R186; 03 R74); box elements in I8 are scaled. -/
def ppuF32 (fmt raw : Nat) (scale : Option Nat) : Nat :=
  if fmt = 0 then
    let v := intToF32 (sext 8 raw)
    match scale with | some k => f32mul v k | none => v
  else if fmt = 4 then (fvBf16 raw).toF32 else raw

/-- FP32 one half and the FP32 values nearest to π and 2π (06 R189). -/
def half32 : Nat := 0x3F000000
def pi32 : Nat := 0x40490FDB
def twoPi32 : Nat := 0x40C90FDB

/-- Whether an FP32 value lies in [−π, π). -/
def angleIn (v : Nat) : Bool := f32finite v && !f32lt v (f32neg pi32) && f32lt v pi32

/-- An angle normalised to [−π, π) by steps of 2π (06 R189); where they do not bring it there, a free value of that range. -/
def normAngle (a : Nat) : Nat → Nat
  | 0 =>
    let v := (Config.angleF32 (BitVec.ofNat 32 a)).toNat
    if angleIn v then v else 0
  | fuel + 1 =>
    if !f32finite a then a
    else if f32lt a (f32neg pi32) then normAngle (f32add a twoPi32) fuel
    else if f32lt a pi32 then a
    else normAngle (f32sub a twoPi32) fuel

/-- exp(min(d, clamp)) × size (06 R189). -/
def growBy (size d clamp : Nat) : Nat := f32mul size (f32exp (f32min d clamp))

/-- A decoded box (06 R189) from its elements and its anchor. -/
def decodeBox (b : PpuBlock) (e a : List Nat) : List Nat :=
  let x := nth 0 e
  let y := nth 0 a
  let dec := bit b.mode 2
  if !b.bev then
    if !dec then [x 0, x 1, x 2, x 3]
    else
      let cx := f32add (y 0) (f32mul (x 0) (y 2))
      let cy := f32add (y 1) (f32mul (x 1) (y 3))
      let w := f32mul (growBy (y 2) (x 2) b.clamp) half32
      let h := f32mul (growBy (y 3) (x 3) b.clamp) half32
      [f32sub cx w, f32sub cy h, f32add cx w, f32add cy h]
  else if !dec then [x 0, x 1, x 2, x 3, normAngle (x 4) 1000]
  else
    let d := f32sqrt (f32add (f32mul (y 2) (y 2)) (f32mul (y 3) (y 3)))
    [f32add (y 0) (f32mul (x 0) d), f32add (y 1) (f32mul (x 1) d), growBy (y 2) (x 2) b.clamp, growBy (y 3) (x 3) b.clamp,
      normAngle (f32add (y 4) (x 4)) 1000]

/-- Whether a decoded box is valid (06 R189). -/
def validBox (b : PpuBlock) (e : List Nat) : Bool :=
  let x := nth 0 e
  e.all f32finite && (if b.bev then f32lt 0 (x 2) && f32lt 0 (x 3) else f32lt (x 0) (x 2) && f32lt (x 1) (x 3))

/-- The corners of a BEV box from the front-left on (06 R190). -/
def corners (e : List Nat) : List (Nat × Nat) :=
  let x := nth 0 e
  let c := (Config.cosF32 (BitVec.ofNat 32 (x 4))).toNat
  let s := (Config.sinF32 (BitVec.ofNat 32 (x 4))).toNat
  let hl := f32mul (x 2) half32
  let hw := f32mul (x 3) half32
  let at_ := fun (u v : Nat) => (f32add (x 0) (f32sub (f32mul u c) (f32mul v s)), f32add (x 1) (f32add (f32mul u s) (f32mul v c)))
  [at_ hl hw, at_ (f32neg hl) hw, at_ (f32neg hl) (f32neg hw), at_ hl (f32neg hw)]

/-- The cross product of edge (p, q) and point r: positive on its left. -/
def cross32 (p q r : Nat × Nat) : Nat :=
  f32sub (f32mul (f32sub q.1 p.1) (f32sub r.2 p.2)) (f32mul (f32sub q.2 p.2) (f32sub r.1 p.1))

/-- A polygon clipped against one edge (06 R190). -/
def clipEdge (p q : Nat × Nat) (poly : List (Nat × Nat)) : List (Nat × Nat) :=
  let n := poly.length
  (List.range n).flatMap (fun i =>
    let a := nth (0, 0) poly i
    let b := nth (0, 0) poly ((i + 1) % n)
    let da := cross32 p q a
    let db := cross32 p q b
    let inA := !f32lt da 0
    let inB := !f32lt db 0
    let t := f32div da (f32sub da db)
    let cut := (f32add a.1 (f32mul (f32sub b.1 a.1) t), f32add a.2 (f32mul (f32sub b.2 a.2) t))
    (if inA then [a] else []) ++ (if inA != inB then [cut] else []))

/-- The area of a polygon by the shoelace formula (06 R190). -/
def shoelace (poly : List (Nat × Nat)) : Nat :=
  let n := poly.length
  let sum := (List.range n).foldl (fun t i =>
    let a := nth (0, 0) poly i
    let b := nth (0, 0) poly ((i + 1) % n)
    f32add t (f32sub (f32mul a.1 b.2) (f32mul b.1 a.2))) 0
  f32mul (putBits sum 31 31 0) half32

/-- The area of a box. -/
def boxArea (bev : Bool) (e : List Nat) : Nat :=
  let x := nth 0 e
  if bev then f32mul (x 2) (x 3) else f32mul (f32sub (x 2) (x 0)) (f32sub (x 3) (x 1))

/-- IoU of a kept box and an examined one (06 R190). -/
def iou (bev : Bool) (kept ex : List Nat) : Nat :=
  let a := nth 0 kept
  let b := nth 0 ex
  let inter :=
    if bev then
      let ks := corners kept
      shoelace ((List.range 4).foldl (fun poly i => clipEdge (nth (0, 0) ks i) (nth (0, 0) ks ((i + 1) % 4)) poly) (corners ex))
    else
      f32mul (f32max 0 (f32sub (f32min (a 2) (b 2)) (f32max (a 0) (b 0))))
        (f32max 0 (f32sub (f32min (a 3) (b 3)) (f32max (a 1) (b 1))))
  f32div inter (f32sub (f32add (boxArea bev kept) (boxArea bev ex)) inter)

/-- The selection loop of R187 over the sorted list: the kept boxes in order and whether KEEP_MAX ended it. -/
def keepLoop (b : PpuBlock) (kept : List Box) : List Box → List Box × Bool
  | [] => (kept, false)
  | w :: ws =>
    if kept.length = b.keepMax then (kept, true)
    else if kept.any (fun q => (!bit b.mode 3 || q.cls == w.cls) && f32lt b.iouMax (iou b.bev q.b w.b)) then keepLoop b kept ws
    else keepLoop b (kept ++ [w]) ws

/-- A read of the PPU; the flag tells that an access failed (06 R193). -/
def State.ppuRead (s : State) (c : Fin 4) (ok : Bool) (a n : Nat) : State × Bool × List Byte :=
  if !ok then (s, false, [])
  else
    let (s, r) := s.fabRead (.ppu c) a n
    (s, r.st == stOK, r.data)

/-- The candidates that survive filtering, in candidate order (06 R187). -/
def State.candidates (s : State) (c : Fin 4) (b : PpuBlock) : State × Bool × List Box :=
  (List.range b.n).foldl (fun (acc : State × Bool × List Box) i =>
    let (s, ok, l) := acc
    let sf := bits b.formats 3 0
    let bf := bits b.formats 7 4
    let (s, ok, sb) := s.ppuRead c ok (b.score + i * ppuSize sf) (ppuSize sf)
    let score := ppuF32 sf (ofBytes sb) none
    if !ok then (s, false, l)
    else if f32isNan score || f32lt score b.scoreMin then (s, ok, l)
    else
      let m := b.elems
      let (s, ok, bb) := s.ppuRead c ok (b.box + i * m * ppuSize bf) (m * ppuSize bf)
      let (s, ok, ab) := if bit b.mode 2 then s.ppuRead c ok (b.anchor + i * m * 4) (m * 4) else (s, ok, [])
      let es := (List.range m).map (fun x => ppuF32 bf (fieldAt bb (x * ppuSize bf) (ppuSize bf)) (some b.scale))
      let as_ := (List.range m).map (fun x => fieldAt ab (4 * x) 4)
      let box := decodeBox b es as_
      if !ok then (s, false, l)
      else if !validBox b box then (s, ok, l)
      else
        let (s, ok, cb) := if b.cls = 0 then (s, ok, []) else s.ppuRead c ok (b.cls + i) 1
        if !ok then (s, false, l) else (s, ok, l ++ [⟨box, score, i, ofBytes cb⟩])) (s, true, [])

/-- The order of R187: score descending, then candidate index ascending. -/
def boxBefore (p q : Box) : Bool := f32lt q.score p.score || (!f32lt p.score q.score && decide (p.idx ≤ q.idx))

/-- An engine's POST ends with a status and, where the rule gives one, a number of kept boxes (06 R193). -/
def State.postDone (s : State) (k : EngineId) (word st : Nat) (kept : Option Nat) : State :=
  match (s.eng k).active with
  | none => s
  | some d => s.modDrw k d (fun w =>
      let w1 := match w.sb.find? (fun t => t.word == word && t.st == .running && (Ins.of t.iw).opc == 0x84), kept with
        | some t, some n => if isReg .S (Ins.of t.iw).dst then w.wrS (Ins.of t.iw).dst.num n else w
        | _, _ => w
      { w1 with sb := w1.sb.map (fun t => if t.word = word ∧ t.st = .running ∧ (Ins.of t.iw).opc = 0x84 then
          { t with st := .done, status := st } else t) })

/-- The requests of PPU `c` changed. -/
def State.modPpu (s : State) (c : Fin 4) (f : List PpuReq → List PpuReq) : State := { s with ppus := vmod s.ppus c f }

/-- A request in its place of the queue (06 R183): in order of acceptance, and among those accepted in one FCLK cycle that are not
yet served, lowest engine first. -/
def putReq (r : PpuReq) (l : List PpuReq) : List PpuReq :=
  let first := fun (q : PpuReq) => q.served || q.arrived != r.arrived || decide (q.eng.val ≤ r.eng.val)
  l.takeWhile first ++ r :: l.dropWhile first

/-- POST (05 R171; 06 R183): the request is accepted by the cluster's unit, in order. -/
def State.post (s : State) (k : EngineId) (e : Nat) : State :=
  match s.entry k e with
  | none => s
  | some (d, t, i) =>
    if i.opc ≠ 0x84 ∨ t.st ≠ .waiting ∨ !s.canStart k d e i then s
    else (s.starting k d e).modPpu (fin 4 (by decide) (k.val / 4)) (putReq ⟨k, t.word, s.ticks, [], false, [], false, stOK⟩)

/-- The rest of the work area left undefined (06 R193). -/
def State.ppuWork (s : State) (m : Master) (a lo hi : Nat) : State :=
  match s.toDevice m a hi with
  | none => s
  | some a => if lo < hi ∧ (s.refuse m true a hi).isNone ∧ s.region a ≠ .outbound then s.scramble (a + lo) (hi - lo) else s

/-- Whether the PPU's requests for the arrays of a block, or for its output, leave its port now (12 R398, R406). -/
def State.ppuOpen (s : State) (c : Fin 4) (l : List Nat) : Bool := l.all (fun a => s.portServes (.ppu c) a)

/-- The oldest request of PPU `c` ends its POST; who waits for a free PPU is woken (09 R265). -/
def State.ppuEnd (s : State) (c : Fin 4) (r : PpuReq) (st : Nat) (kept : Option Nat) : State :=
  ((s.postDone r.eng r.word st kept).modPpu c List.tail).wakeAll

/-- Where the arrays of a block stand (06 R186). -/
def PpuBlock.arrays (b : PpuBlock) : List Nat :=
  [b.score, b.box, b.work] ++ (if bit b.mode 2 then [b.anchor] else []) ++ (if b.cls = 0 then [] else [b.cls])

/-- PPU `c` works on its oldest request up to its commit phase (06 R184-R191, R193, R195): refusals and an empty result end the POST;
what is kept waits for the commit. After any POST that was served, its work area is undefined. -/
def State.ppuServe (s : State) (c : Fin 4) : State :=
  match vget s.ppus c with
  | [] => s
  | r :: rest =>
    match r.served, (s.eng r.eng).active with
    | false, some d =>
      let w := s.drw r.eng d
      match w.sb.find? (fun t => t.word == r.word && t.st == .running && (Ins.of t.iw).opc == 0x84) with
      | none => s.modPpu c (fun _ => rest)
      | some t =>
        let a := (w.desc (Ins.of t.iw).srca).base
        if s.lmBad r.eng d [a] 64 then s.ppuEnd c r stLM_DETECT none
        else
          let blk := s.mem.readBytes (s.lmKey r.eng d a) 64
          let b := PpuBlock.of blk
          if b.faulty then s.ppuEnd c r stPPU_REQUEST none
          else if b.n = 0 then s.ppuEnd c r stEMPTY (some 0)
          else if !s.ppuOpen c b.arrays then s
          else
            let (s, ok, l) := s.candidates c b
            if !ok then (s.ppuWork (.ppu c) b.work 0 (32 * b.n)).ppuEnd c r stFABRIC_ERR none
            else
              let (f, s) := s.nextFree
              let (s, st) := if l.isEmpty then (s, stOK) else s.fabWrite (.ppu c) b.work
                ((List.range (32 * l.length)).map (fun x => Config.freeByte f x))
              let s := s.ppuWork (.ppu c) b.work (32 * l.length) (32 * b.n)
              if st ≠ stOK then s.ppuEnd c r stFABRIC_ERR none
              else
                let (kept, full) := keepLoop b [] (sortBy boxBefore l)
                if kept.isEmpty then s.ppuEnd c r stEMPTY (some 0)
                else s.modPpu c (fun _ => { r with
                  block := blk
                  served := true
                  kept := kept
                  status := if full then stKEEP_FULL else stOK } :: rest)
    | _, _ => s

/-- One output record (06 R192). -/
def outRecord (bev : Bool) (x : Box) : List Byte :=
  (List.range 5).flatMap (fun j => leBytes (if j = 4 ∧ !bev then 0 else nth 0 x.b j) 4) ++ leBytes x.score 4
    ++ leBytes x.idx 4 ++ leBytes x.cls 4

/-- The places of the records of a request (06 R192). -/
def PpuReq.outs (r : PpuReq) : List Nat := (List.range r.kept.length).map (fun q => (PpuBlock.of r.block).out + 32 * q)

/-- The records of a request left undefined: an access of the commit failed, or a fence abandoned it (06 R193, R195). -/
def State.scrambleOut (s : State) (c : Fin 4) (r : PpuReq) : State :=
  r.outs.foldl (fun (s : State) o =>
    match s.toDevice (.ppu c) o 32 with
    | some a => if (s.refuse (.ppu c) true a 32).isNone ∧ s.region a ≠ .outbound then s.scramble a 32 else s
    | none => s) s

/-- The kept records written in order, and whether every write went well. -/
def State.writeKept (s : State) (c : Fin 4) (r : PpuReq) : State × Bool :=
  let b := PpuBlock.of r.block
  (List.range r.kept.length).foldl (fun (acc : State × Bool) q =>
    let (s, st) := acc.1.fabWrite (.ppu c) (b.out + 32 * q) (outRecord b.bev (nth ⟨[], 0, 0, 0⟩ r.kept q))
    (s, acc.2 && st == stOK)) (s, true)

/-- PPU `c` commits the kept boxes of its oldest request, and the POST completes (06 R192, R193, R195): with PPU_DETECT and nothing
written where the code of the kept-box buffer fails, else with the records at OUT, and with ABORTED where an abort waits for them. -/
def State.ppuCommit (s : State) (c : Fin 4) : State :=
  match vget s.ppus c with
  | [] => s
  | r :: _ =>
    if !r.served then s
    else if r.keptBad then s.ppuEnd c r stPPU_DETECT none
    else if !s.ppuOpen c r.outs then s
    else
      let (s, ok) := s.writeKept c r
      let s := if ok then s else s.scrambleOut c r
      let aborted := r.status == stABORTED
      s.ppuEnd c r (if ok || aborted then r.status else stFABRIC_ERR) (if ok && !aborted then some r.kept.length else none)

end Sys2Proof.Machine
end

