-- ==== Sys2Proof/Machine/Stream.lean ====
section
/-! DEFINITION. The stream network (08 R227-R258) and SEND and RECV (05 R165). -/

namespace Sys2Proof.Machine

/-- The name of endpoint `j` of a drawer. -/
def epOf (w : Drawer) (j : Nat) : Option EpName := w.ctx.map (fun p => ⟨p.1, p.2, w.rank, fin8 j⟩)

/-- The endpoint an engine peer names (08 R230). -/
def peerOf (n : EpName) (e : Nat) : EpName := { n with rank := epPeerRank e, ep := fin8 (epPeerEp e) }

/-- The engine and drawer where an endpoint's context is resident. -/
def State.epHome (s : State) (n : EpName) : Option (EngineId × Fin 8) :=
  match s.ctx? n.cab n.ctx with
  | some t => t.drawer.map (fun d => (s.rankEng n.cab n.rank, d))
  | none => none

/-- Key of ring index `i` of a queue in the Stream Buffer (08 R240). -/
def State.qKey (s : State) (q : Fin 32) (i : Nat) : Nat :=
  0x80000000 + s.rd F.SN_Q_GEOM_BASE q.val * 4096 + (i % max 1 (s.qDepth q)) * 64

/-- An endpoint register changed. -/
def State.modE (s : State) (k : EngineId) (d : Fin 8) (j : Nat) (f : Nat → Nat) : State :=
  s.modDrw k d (fun w => w.wrE j (f (w.rdE j)))

/-- COUNT, HEAD and FLITS of an endpoint register set (08 R230). -/
def epSetCount (v : Nat) (e : Nat) : Nat := putBits e 71 64 v
def epSetHead (v : Nat) (e : Nat) : Nat := putBits e 37 32 v
def epAddFlit (e : Nat) : Nat := putBits e 31 0 (epFlits e + 1)

/-- The bytes of flit `n` of a tensor as window offsets, in element order (05 R165). -/
def flitBytes (t : Desc) (n : Nat) : List Nat :=
  let e := esize t.fmt
  (List.range 64).filterMap (fun b =>
    let x := n * 64 + b
    if x < t.count * e then some (t.offN (x / e) + x % e) else none)

/-! ### SEND -/

/-- The start of a SEND: bound and a send endpoint (08 R235); on a MULTI queue it asks for its record (08 R243). -/
def sendStart (k : EngineId) (s : State) (d : Fin 8) (i : Ins) : UnitRes :=
  let w := s.drw k d
  let e := w.rdE i.dst.num
  if !epBound e || epRecv e then (s, some stSTREAM_UNBOUND)
  else if epQueueKind e && s.flag F.SN_Q_CFG_MULTI (epQueue e) then
    match epOf w i.dst.num with
    | some n => (s.modQueue (queueId (epQueue e)) (fun q => { q with requests := q.requests ++ [(n, flitsOf (w.desc i.srca))] }), none)
    | none => (s, some stSTREAM_UNBOUND)
  else (s, none)

/-- Whether a SEND can inject a flit: it holds a credit (08 R235). -/
def sendReady (k : EngineId) (s : State) (d : Fin 8) (i : Ins) (_ : Nat) : Bool :=
  decide (1 ≤ epCount ((s.drw k d).rdE i.dst.num))

/-- One flit of a SEND (08 R234-R238, R242, R243). -/
def sendUnit (k : EngineId) (s : State) (d : Fin 8) (i : Ins) (n : Nat) : UnitRes :=
  let w := s.drw k d
  let t := w.desc i.srca
  let e := w.rdE i.dst.num
  let bs := flitBytes t n
  if s.lmBad k d bs 1 then (s, some stLM_DETECT)
  else
    match epOf w i.dst.num with
    | none => (s, some stSTREAM_UNBOUND)
    | some me =>
      let data := bs.map (fun o => s.mem.read (s.lmKey k d o)) ++ List.replicate (64 - bs.length) 0
      let p := peerOf me e
      let f : Flit := ⟨p.cab, p.ctx, p.rank, p.ep, some k, me.ep, data, false, false⟩
      let s := (s.modE k d i.dst.num (fun e => epAddFlit (epSetCount (epCount e - 1) e))).countEvent k 0x11
      if epQueueKind e then
        let q := queueId (epQueue e)
        let s := s.modQueue q (fun x => { x with slots := x.slots.map (fun y =>
          if y.owner = me ∧ !y.filled then { y with begun := true } else y) })
        ({ s with sn := { s.sn with toQueue := s.sn.toQueue ++ [(q, { f with rank := me.rank, ep := me.ep })] } }, none)
      else ({ s with sn := { s.sn with transit := s.sn.transit ++ [f] } }, none)

/-- SEND as units of one flit. -/
def sendOps (k : EngineId) : UnitOps :=
  { start := sendStart k, total := fun s d i => flitsOf ((s.drw k d).desc i.srca), ready := sendReady k,
    unit := sendUnit k, fin := noCheck }

/-! ### RECV -/

/-- The start of a RECV (08 R235). -/
def recvStart (k : EngineId) (s : State) (d : Fin 8) (i : Ins) : UnitRes :=
  let e := (s.drw k d).rdE i.srca.num
  if !epBound e || !epRecv e then (s, some stSTREAM_UNBOUND) else (s, none)

/-- Whether a flit waits in the ring. -/
def recvReady (k : EngineId) (s : State) (d : Fin 8) (i : Ins) (_ : Nat) : Bool :=
  decide (1 ≤ epCount ((s.drw k d).rdE i.srca.num))

/-- One flit taken by a RECV: from slot HEAD to DST, and a credit back to an engine peer (08 R235, R238, R255). -/
def recvUnit (k : EngineId) (s : State) (d : Fin 8) (i : Ins) (n : Nat) : UnitRes :=
  let w := s.drw k d
  let t := w.desc i.dst
  let e := w.rdE i.srca.num
  let src := epRing e + 64 * epHead e
  if s.lmBad k d [src] 64 then (s.scrambleRanges k d [t.range], some stLM_DETECT)
  else
    match epOf w i.srca.num with
    | none => (s, some stSTREAM_UNBOUND)
    | some me =>
      let offs := flitBytes t n
      let ws := (List.range offs.length).map (fun b => (nth 0 offs b, s.mem.read (s.lmKey k d (src + b))))
      let poisoned := s.sn.poison.contains (me, epHead e)
      let (s, bad) := s.lmStore k d ws
      let s := s.modE k d i.srca.num (fun e => epAddFlit (epSetCount (epCount e - 1) (epSetHead ((epHead e + 1) % 64) e)))
      let s := { s with sn := { s.sn with
        poison := s.sn.poison.filter (fun p => p != (me, epHead e))
        credits := if epQueueKind e then s.sn.credits else s.sn.credits ++ [⟨peerOf me e⟩] } }
      (s, if poisoned then some stSTREAM_POISON else if bad then noteLM else none)

/-- RECV as units of one flit. -/
def recvOps (k : EngineId) : UnitOps :=
  { start := recvStart k, total := fun s d i => flitsOf ((s.drw k d).desc i.dst), ready := recvReady k,
    unit := recvUnit k, fin := noCheck }

/-! ### Arrivals -/

/-- A flit written into slot (HEAD + COUNT) mod 64 of a receive endpoint's ring (08 R234), with its poison mark (R255). -/
def State.ringIn (s : State) (k : EngineId) (d : Fin 8) (n : EpName) (data : List Byte) (bad poison : Bool) : State :=
  let e := (s.drw k d).rdE n.ep.val
  let slot := (epHead e + epCount e) % 64
  let a := s.lmKey k d (epRing e + 64 * slot)
  let m := (s.mem.store (runOf a data)).1
  let m := if bad then m.markBad a else m
  let s := { s with mem := m, sn := { s.sn with poison :=
    (if poison then [(n, slot)] else []) ++ s.sn.poison.filter (fun p => p != (n, slot)) } }
  (s.modE k d n.ep.val (fun e => epSetCount (epCount e + 1) e)).countEvent k 0x12

/-- Element `i` of a list taken out. -/
def dropAt {α : Type} (l : List α) (i : Nat) : List α := l.take i ++ l.drop (i + 1)

/-- Flit `i` under way reaches its destination engine (08 R228, R229, R234, R237): flits of one engine to one engine arrive in
order; one that finds another context active, no drawer active, or no free slot is discarded and MISROUTE set. -/
def State.flitArrive (s : State) (i : Nat) : State :=
  match s.sn.transit[i]? with
  | none => s
  | some f =>
    if (s.sn.transit.take i).any (fun g => g.src == f.src && g.cab == f.cab && g.rank == f.rank) then s
    else
      let s := { s with sn := { s.sn with transit := dropAt s.sn.transit i } }
      let k := s.rankEng f.cab f.rank
      let n : EpName := ⟨f.cab, f.ctx, f.rank, f.ep⟩
      match s.actCtx k with
      | some (d, c, x) =>
        if c = f.cab ∧ x = f.ctx ∧ epCount ((s.drw k d).rdE f.ep.val) < 64 then s.ringIn k d n f.data f.badCode f.poison
        else s.put0 F.SN_ERR_MISROUTE 1
      | none => s.put0 F.SN_ERR_MISROUTE 1

/-- Credit `i` under way reaches its send endpoint (08 R229, R235). -/
def State.creditReturn (s : State) (i : Nat) : State :=
  match s.sn.credits[i]? with
  | none => s
  | some c =>
    let s := { s with sn := { s.sn with credits := dropAt s.sn.credits i } }
    match s.epHome c.dest with
    | none => s
    | some (k, d) => s.modE k d c.dest.ep.val (fun e => if epBound e && !epRecv e then epSetCount (min 64 (epCount e + 1)) e else e)

/-- The send endpoint whose SEND on queue `q` runs on an active drawer and may get a credit of a MULTI = 0 queue. -/
def State.qAsker (s : State) (q : Fin 32) : Option (EngineId × Fin 8 × EpName) :=
  ((List.finRange 17).filterMap (fun k =>
    match (s.eng k).active with
    | none => none
    | some d =>
      let w := s.drw k d
      (w.sb.find? (fun t =>
        let i := Ins.of t.iw
        let e := w.rdE i.dst.num
        t.st == .running && i.opc == 0x70 && epBound e && !epRecv e && epQueueKind e && epQueue e == q.val
          && decide (epCount e < 64))).bind (fun t => (epOf w (Ins.of t.iw).dst.num).map (fun n => (k, d, n))))).head?

/-- Queue `q` grants (08 R241-R243): one credit to the producer of a MULTI = 0 queue, or the whole reservation of the
oldest request of a MULTI queue, for slots that are neither filled nor granted. -/
def State.queueGrant (s : State) (q : Fin 32) : State :=
  let x := vget s.sn.queues q
  let free := s.qDepth q - x.slots.length
  if !s.flag F.SN_Q_CFG_EN q.val then s
  else if s.flag F.SN_Q_CFG_MULTI q.val then
    match x.requests with
    | [] => s
    | (n, m) :: rest =>
      match s.epHome n with
      | none => s.modQueue q (fun x => { x with requests := rest })
      | some (k, d) =>
        if free < m then s
        else
          let s := s.modQueue q (fun x => { x with
            requests := rest
            lastServed := some n
            slots := x.slots ++ List.replicate m ⟨n, false, false, false, false⟩ })
          let s := s.modE k d n.ep.val (fun e => epSetCount m e)
          s.modDrw k d (fun w => { w with sb := w.sb.map (fun t =>
            let i := Ins.of t.iw
            if i.opc = 0x70 ∧ i.dst.num = n.ep.val ∧ t.st = .running then { t with granted := true } else t) })
  else
    match s.qAsker q with
    | none => s
    | some (k, d, n) =>
      if free = 0 then s
      else
        let s := s.modQueue q (fun x => { x with lastServed := some n, slots := x.slots ++ [⟨n, false, false, false, false⟩] })
        s.modE k d n.ep.val (fun e => epSetCount (epCount e + 1) e)

/-- A queue without void slots at its ends; `depth` its slots. -/
def Queue.trim (depth : Nat) (q : Queue) : Queue :=
  let l := q.slots.dropWhile (fun y => y.void)
  { q with slots := (l.reverse.dropWhile (fun y => y.void)).reverse
           head := (q.head + (q.slots.length - l.length)) % max 1 depth }

/-- The index of the first slot of an owner that is not filled. -/
def firstOpen (n : EpName) (l : List QSlot) : Option Nat := l.findIdx? (fun y => y.owner == n && !y.filled && !y.void)

/-- Flit `i` on its way to a queue reaches it and fills its slot (08 R229, R237, R240; 12 R398). -/
def State.flitToQueue (s : State) (i : Nat) : State :=
  match s.sn.toQueue[i]? with
  | none => s
  | some (q, f) =>
    let n : EpName := ⟨f.cab, f.ctx, f.rank, f.ep⟩
    let x := vget s.sn.queues q
    let slot := firstOpen n x.slots
    if (s.sn.toQueue.take i).any (fun g => g.1 == q && g.2.src == f.src) then s
    else if (match slot with | some p => s.sliceWaits (s.qKey q (x.head + p)) | none => false) then s
    else
      let s := { s with sn := { s.sn with toQueue := dropAt s.sn.toQueue i } }
      match slot with
      | none => s
      | some p =>
        let a := s.qKey q (x.head + p)
        let s := s.countUnit 0 0x12 f.cab.val (chOf a)
        let m := (s.mem.store (runOf a f.data)).1
        ({ s with mem := if f.badCode then m.markBad a else m }.modQueue q (fun x =>
          { x with slots := modAt (fun y => { y with filled := true }) p x.slots })).wakeAll

/-- The receive endpoint bound to queue `q` whose drawer is active (08 R244). -/
def State.qConsumer (s : State) (q : Fin 32) : Option (EngineId × Fin 8 × EpName) :=
  ((List.finRange 17).filterMap (fun k =>
    match s.actCtx k with
    | none => none
    | some (d, c, _) =>
      let w := s.drw k d
      if c.val ≠ s.rd F.SN_Q_CFG_CABINET q.val then none
      else ((List.range 8).find? (fun j => epBound (w.rdE j) && epRecv (w.rdE j) && epQueueKind (w.rdE j)
        && epQueue (w.rdE j) == q.val)).bind (fun j => (epOf w j).map (fun n => (k, d, n))))).head?

/-- Queue `q` delivers its oldest flit to its consumer's ring, in slot order, and frees the slot (08 R244). -/
def State.queueDeliver (s : State) (q : Fin 32) : State :=
  let x := vget s.sn.queues q
  match x.slots with
  | [] => s
  | y :: rest =>
    match s.qConsumer q with
    | none => s
    | some (k, d, n) =>
      if !y.filled || decide (64 ≤ epCount ((s.drw k d).rdE n.ep.val)) || ((s.eng k).st != .running && (s.eng k).st != .draining) then s
      else
        let a := s.qKey q x.head
        let s := s.countUnit 0 0x12 k.val (chOf a)
        ((s.ringIn k d n (s.mem.readBytes a 64) (s.mem.anyBad a 64) y.poison).modQueue q (fun x =>
          Queue.trim (s.qDepth q) { x with slots := rest, head := (x.head + 1) % max 1 (s.qDepth q) })).wakeAll

/-- A SEND or RECV has waited WDOG µs: a stall report (08 R248; 09 R286; 15 R528 type 3). -/
def State.streamStall (s : State) (k : EngineId) (e : Nat) : State :=
  match s.entry k e with
  | none => s
  | some (d, t, i) =>
    let ready := if i.opc = 0x70 then sendReady k s d i 0 else recvReady k s d i 0
    if (i.opc ≠ 0x70 ∧ i.opc ≠ 0x71) ∨ t.st ≠ .running ∨ ready then s
    else match (s.drw k d).ctx with
      | none => s
      | some (c, x) =>
        if s.rd F.SN_CAB_CFG_WDOG c.val = 0 then s
        else (s.put0 F.SN_ERR_STALL 1).postCab c 3 x.val 0 (s.drw k d).rank i.endpoint

/-- Queue `q` enabled (08 R258); it starts empty (08 R245). -/
def State.queueEnable (s : State) (q : Fin 32) : State :=
  if s.rd F.SN_Q_GEOM_DEPTH q.val = 0 ∨ s.flag F.SN_Q_CFG_EN q.val then s
  else (s.put F.SN_Q_CFG_EN q.val 0 1).modQueue q (fun _ => ⟨[], 0, [], none⟩)

/-- Queue `q` disabled: its contents are discarded (08 R245). -/
def State.queueDisable (s : State) (q : Fin 32) : State :=
  let s := { s with sn := { s.sn with toQueue := s.sn.toQueue.filter (fun f => f.1 != q) } }
  (s.put F.SN_Q_CFG_EN q.val 0 0).modQueue q (fun _ => ⟨[], 0, [], none⟩)

/-! ### What a drain, an abort and a fence do to streams -/

/-- The newest `m` open slots of an owner given back. -/
def giveBack (n : EpName) (m : Nat) (l : List QSlot) : List QSlot :=
  (l.reverse.foldl (fun (acc : List QSlot × Nat) y =>
    if acc.2 < m ∧ y.owner = n ∧ !y.filled ∧ !y.begun ∧ !y.void then ({ y with void := true } :: acc.1, acc.2 + 1)
    else (y :: acc.1, acc.2)) ([], 0)).1

/-- Every queue credit that a send endpoint of a drawer holds and no flit has used returns to its queue; COUNT
becomes 0 (08 R251). -/
def State.returnCredits (s : State) (k : EngineId) (d : Fin 8) : State :=
  (List.range 8).foldl (fun s j =>
    let w := s.drw k d
    let e := w.rdE j
    match epOf w j with
    | none => s
    | some n =>
      if epBound e && !epRecv e && epQueueKind e then
        (s.modQueue (queueId (epQueue e)) (fun q => Queue.trim (s.qDepth (queueId (epQueue e)))
          { q with slots := giveBack n (epCount e) (q.slots.map (fun y =>
              if y.owner = n ∧ !y.filled ∧ !s.flag F.SN_Q_CFG_MULTI (epQueue e) then { y with begun := false } else y)) })).modE k d j
          (epSetCount 0)
      else s) s

/-- Whether a flit or a credit of a context is under way (08 R251). -/
def State.inTransit (s : State) (c : CabId) (x : CtxId) : Bool :=
  s.sn.credits.any (fun p => p.dest.cab == c && p.dest.ctx == x) || s.sn.transit.any (fun f => f.cab == c && f.ctx == x) || s.sn.toQueue.any (fun f => f.2.cab == c && f.2.ctx == x)

/-- The unfilled slots of the records of an owner completed with poison flits: of those it has begun, after an abort (08 R253,
R255); of every reservation, after a fence (08 R254). -/
def State.poisonRecord (s : State) (q : Fin 32) (hit : EpName → Bool) (fenced : Bool) : State :=
  let x := vget s.sn.queues q
  (List.range x.slots.length).foldl (fun s p =>
    match (vget s.sn.queues q).slots[p]? with
    | some y =>
      if hit y.owner ∧ !y.filled ∧ !y.void ∧ (y.begun ∨ fenced) then
        let a := s.qKey q (x.head + p)
        ({ s with mem := (s.mem.store (runOf a (List.replicate 64 0xFF))).1 }.modQueue q (fun x =>
          { x with slots := modAt (fun y => { y with filled := true, poison := true }) p x.slots })).put0 F.SN_ERR_POISON 1
      else s
    | none => s) s

/-- The streams of endpoints taken away by an abort (08 R253) or a fence (08 R254): flits in transit discarded, records poisoned,
unfilled grants and requests returned. -/
def State.cutStreams (s : State) (hit : EpName → Bool) (gone : Flit → Bool) (fenced : Bool) : State :=
  let s := { s with sn := { s.sn with
    transit := s.sn.transit.filter (fun f => !gone f)
    toQueue := s.sn.toQueue.filter (fun f => !gone f.2)
    credits := s.sn.credits.filter (fun c => !hit c.dest) } }
  ((List.finRange 32).foldl (fun s q =>
    let s := if s.flag F.SN_Q_CFG_MULTI q.val then s.poisonRecord q hit fenced else s
    s.modQueue q (fun x => Queue.trim (s.qDepth q) { x with
      requests := x.requests.filter (fun r => !hit r.1)
      slots := x.slots.map (fun y => if hit y.owner ∧ !y.filled then { y with void := true } else y) })) s).wakeAll

end Sys2Proof.Machine
end

