-- ==== Sys2Proof/Machine/Sync.lean ====
section
/-! DEFINITION. Semaphores, barriers and checkpoints (05 R166-R170; 09 R277, R279; 10 R301-R305). -/

namespace Sys2Proof.Machine

/-- The count operand of SWAIT and SSIG (05 R166); none outside 1 to 65,535. -/
def semCount (w : Drawer) (i : Ins) : Option Nat :=
  let n := match i.srcb with | .imm v => v.toNat | .reg _ r => w.rdS r | _ => 0
  if 1 ≤ n ∧ n ≤ 65535 then some n else none

/-- A waiter in its place: in order of arrival, and among those of one FCLK cycle lowest engine, then lowest drawer first (05 R167). -/
def putWaiter (r : SemWait) (l : List SemWait) : List SemWait :=
  let first := fun (q : SemWait) => q.arrived != r.arrived || decide (q.eng.val < r.eng.val ∨ (q.eng.val = r.eng.val ∧ q.drawer.val ≤ r.drawer.val))
  l.takeWhile first ++ r :: l.dropWhile first

/-- SWAIT (05 R166, R167; 09 R279): it arrives behind the earlier waiters; on a held lock it raises the holder. -/
def State.swait (s : State) (k : EngineId) (e : Nat) : State :=
  match s.entry k e with
  | none => s
  | some (d, t, i) =>
    if i.opc ≠ 0x80 ∨ t.st ≠ .waiting ∨ !s.canStart k d e i then s
    else
      let w := s.drw k d
      let s := s.starting k d e
      match semCount w i, w.ctx with
      | some n, some (c, x) =>
        let m := i.srca.num
        let s := s.modCab c (fun b => { b with waiters := putWaiter ⟨k, d, t.word, m, n, s.ticks⟩ b.waiters })
        let s := s.satisfy c m (s.cab c).waiters.length
        if (s.cab c).waiters.any (fun q => q.eng == k && q.drawer == d && q.word == t.word) then
          s.inherit c m (match s.ctx? c x with | some t => t.prio | none => 0) 72
        else s
      | _, _ => s.setDone k d e stILLEGAL_OPERAND

/-- SSIG (05 R166, R167). -/
def State.ssig (s : State) (k : EngineId) (e : Nat) : State :=
  match s.entry k e with
  | none => s
  | some (d, t, i) =>
    if i.opc ≠ 0x81 ∨ t.st ≠ .waiting ∨ !s.canStart k d e i then s
    else
      let w := s.drw k d
      let s := s.starting k d e
      match semCount w i, w.ctx with
      | some n, some (c, x) =>
        let m := i.srca.num
        let v := (s.cab c).sem m + n
        if 65535 < v then s.setDone k d e stSEM_OVERFLOW
        else
          let s := (s.setSem c m v).countLock c x w.rank m (-(n : Int))
          let s := s.satisfy c m (s.cab c).waiters.length
          let v := (s.cab c).sem m
          let s := s.wake c (fun p => match p with | .sem j n => j == m && decide (n ≤ v) | _ => false)
          s.setDone k d e stOK
      | _, _ => s.setDone k d e stILLEGAL_OPERAND

/-- Whether the active drawer of rank `r` runs a BARR with an identifier (05 R168). -/
def State.atBarrier (s : State) (c : CabId) (x : CtxId) (r : Nat) (id : Int) : Bool :=
  let k := s.rankEng c r
  match s.actCtx k with
  | some (d, c', x') => c' == c && x' == x && (s.drw k d).sb.any (fun t =>
      let i := Ins.of t.iw
      t.st == .running && i.opc == 0x82 && i.srca == .imm id)
  | none => false

/-- BARR (05 R168): started, and complete on every rank once every rank has started one with its identifier. -/
def State.barr (s : State) (k : EngineId) (e : Nat) : State :=
  match s.entry k e with
  | none => s
  | some (d, t, i) =>
    if i.opc ≠ 0x82 ∨ t.st ≠ .waiting ∨ !s.canStart k d e i then s
    else
      let s := s.starting k d e
      match (s.drw k d).ctx, i.srca with
      | some (c, x), .imm id =>
        if (s.ranksOf c).all (fun r => s.atBarrier c x r id) then
          (s.ranksOf c).foldl (fun s r =>
            let k := s.rankEng c r
            match (s.eng k).active with
            | some d => s.modDrw k d (fun w => { w with sb := w.sb.map (fun t =>
                if (Ins.of t.iw).opc = 0x82 ∧ t.st = .running then { t with st := .done, status := stOK } else t) })
            | none => s) s
        else s
      | _, _ => s

/-! ### Checkpoints -/

/-- The slot CHKPT writes: the one that does not hold the rank's newest valid checkpoint (05 R169). -/
def RankRec.writeSlot (r : RankRec) : Bool :=
  match r.slot0, r.slot1 with
  | none, _ => false
  | some _, none => true
  | some a, some b => decide (b.seq < a.seq)

/-- The rank's record with slot `second` replaced. -/
def RankRec.put (r : RankRec) (second : Bool) (o : Option CkSlot) : RankRec :=
  if second then { r with slot1 := o } else { r with slot0 := o }

/-- A checkpoint of rank `r` of a context written (05 R169; 10 R301-R303; 12 R403): the image, with the resume index as its next-issue
word, and the sets in use, into the slot that does not hold the newest one; valid only where the write succeeds and no parity
fails. -/
def State.checkpoint (s : State) (k : EngineId) (d : Fin 8) (c : CabId) (x : CtxId) (r resume ckid : Nat) (start : Bool) :
    State × Nat :=
  match s.ctx? c x with
  | none => (s, stFABRIC_ERR)
  | some t =>
    let rr := nth ⟨none, none, 0, 0, [], [], none⟩ t.ranks r
    let second := rr.writeSlot
    let j := nth ⟨false, false, 0, 0, 0, 0, 0, [], 0, 0, 0, none, false, 0, 0⟩ t.jobs 0
    let base := (if second then j.ckpt1 else j.ckpt0) + r * 36864
    let w := s.drw k d
    let seq := if start then 0 else rr.nextSeq
    let s := s.modCtx c x (fun t => { t with ranks := modAt (fun q => q.put second none) r t.ranks })
    let (s, st) := (s.setQct k t.moveQct).writeImage k d c base resume
    if st ≠ stOK then (s, st)
    else
      let slot : CkSlot := ⟨ckid, seq, (List.range 8).map (fun a => w.tag a)⟩
      (s.modCtx c x (fun t => { t with ranks := modAt (fun q =>
        let q := { q.put second (some slot) with nextSeq := seq + 1 }
        if second then { q with net1 := [] } else { q with net0 := [] }) r t.ranks }), stOK)

/-- Whether a rank has completed the checkpoint of a sequence number (10 R303). -/
def RankRec.hasSeq (r : RankRec) (n : Nat) : Bool :=
  (r.slot0.any (fun z => z.seq == n)) || (r.slot1.any (fun z => z.seq == n))

/-- Whether a rank has completed the checkpoint of a sequence number with a CKID (05 R170). -/
def RankRec.hasCk (r : RankRec) (n ckid : Nat) : Bool :=
  (r.slot0.any (fun z => z.seq == n && z.ckid == ckid)) || (r.slot1.any (fun z => z.seq == n && z.ckid == ckid))

/-- The highest sequence number every rank has completed; the CKID plays no part in the choice (10 R303). -/
def Ctx.commonSeq (t : Ctx) : Option Nat :=
  let all := t.ranks.flatMap (fun r => (r.slot0.toList ++ r.slot1.toList).map (fun z => z.seq))
  (all.filter (fun n => t.ranks.all (fun r => r.hasSeq n))).foldl (fun m n => match m with
    | none => some n | some v => some (max v n)) none

/-- CHKPT (05 R169, R170; 10 R302, R303): the checkpoint is reported; once every rank has completed it with its CKID, the
context's detections count from 0 again (10 R307). -/
def State.chkpt (s : State) (k : EngineId) (e : Nat) : State :=
  match s.entry k e with
  | none => s
  | some (d, t, i) =>
    if i.opc ≠ 0x83 ∨ t.st ≠ .waiting ∨ !s.canStart k d e i then s
    else
      let w := s.drw k d
      let s := s.starting k d e
      match w.ctx with
      | none => s.setDone k d e stFABRIC_ERR
      | some (c, x) =>
        let ckid := bits i.imm 15 0
        let (s, st) := s.checkpoint k d c x w.rank (if bit i.imm 28 then bits i.imm 27 16 else t.word + 1) ckid false
        if st ≠ stOK then s.setDone k d e st
        else
          let seq := match s.ctx? c x with
            | some t => (nth ⟨none, none, 0, 0, [], [], none⟩ t.ranks w.rank).nextSeq - 1 | none => 0
          let s := s.tell (.checkpoint k.val ckid seq)
          let s := s.modCtx c x (fun t =>
            if t.ranks.all (fun r => r.hasCk seq ckid) then { t with ranks := t.ranks.map (fun r => { r with dets := 0 }) } else t)
          (s.setDone k d e stOK).countEvent k 0x16

end Sys2Proof.Machine
end

