-- ==== Sys2Proof/Machine/Contexts.lean ====
section
/-! DEFINITION. Contexts and jobs: the context record and the stream table (09 R261-R263; 08 R231, R232), job submission
(09 R265-R267), and the Abort command (09 R280-R283; 08 R253; 07 R215). -/

namespace Sys2Proof.Machine

/-! ### Command statuses (15 R526) -/

def csOK : Nat := 0x00
def csBAD_COMMAND : Nat := 0x01
def csDENIED_AUTHORITY : Nat := 0x02
def csNOT_FOUND : Nat := 0x03
def csCABINET_LIMIT : Nat := 0x04
def csENGINE_BUSY : Nat := 0x05
def csCABINET_GEOMETRY : Nat := 0x06
def csREGION : Nat := 0x07
def csWINDOW : Nat := 0x08
def csWORLD_LAYOUT : Nat := 0x09
def csRESOURCE : Nat := 0x0A
def csCONTEXT_LIMIT : Nat := 0x0B
def csSTREAM_TABLE : Nat := 0x0C
def csJOB_QUEUE_FULL : Nat := 0x0D
def csJOB_INVALID : Nat := 0x0E
def csDENIED_SECURE : Nat := 0x0F
def csFENCED : Nat := 0x10
def csSERVICE_UNAVAILABLE : Nat := 0x11
def csVF_STATE : Nat := 0x12
def csMIGRATE_MISMATCH : Nat := 0x13
def csBUFFER_SHORT : Nat := 0x14
def csVF_RESET : Nat := 0x15

/-! ### Context records -/

/-- A stream table entry (09 R263): rank, endpoint, BIND, RING, reserved byte. -/
structure StreamEnt where
  rank : Nat
  ep : Nat
  bind : Nat
  ring : Nat
  rsv : Nat
  deriving DecidableEq, Repr

/-- The entries of a stream table's bytes. -/
def streamEnts (n : Nat) (l : List Byte) : List StreamEnt :=
  (List.range n).map (fun i => ⟨fieldAt l (8 * i) 1, fieldAt l (8 * i + 1) 1, fieldAt l (8 * i + 2) 2,
    fieldAt l (8 * i + 4) 3, fieldAt l (8 * i + 7) 1⟩)

def StreamEnt.recv (e : StreamEnt) : Bool := bit e.bind 14
def StreamEnt.kind (e : StreamEnt) : Nat := bits e.bind 13 12
def StreamEnt.peerRank (e : StreamEnt) : Nat := bits e.bind 11 8
def StreamEnt.peerEp (e : StreamEnt) : Nat := bits e.bind 7 5
def StreamEnt.queue (e : StreamEnt) : Nat := bits e.bind 4 0

/-- No two elements of a list are related. -/
def pairwiseOk {α : Type} (ok : α → α → Bool) : List α → Bool
  | [] => true
  | a :: l => l.all (fun b => ok a b) && pairwiseOk ok l

/-- The rules of 08 R232 for a stream table of a cabinet; `others` are the bindings of its other contexts. -/
def State.streamOk (s : State) (c : CabId) (es others : List StreamEnt) : Bool :=
  let g := s.gang c
  let win := 16384 * s.rd F.SCH_CAB_CFG_WIN_PAGES c.val
  let eng := es.filter (fun e => e.kind == 0)
  let que := (es ++ others).filter (fun e => e.kind == 1)
  (eng.filter (fun e => !e.recv)).all (fun e => eng.any (fun f => f.recv && f.rank == e.peerRank && f.ep == e.peerEp
      && f.peerRank == e.rank && f.peerEp == e.ep))
    && pairwiseOk (fun a b => !(a.peerRank == b.peerRank && a.peerEp == b.peerEp)) eng
    && eng.all (fun e => decide (e.peerRank < g))
    && es.all (fun e => decide (e.rank < g ∧ e.ep < 8))
    && pairwiseOk (fun a b => !(a.rank == b.rank && a.ep == b.ep)) es
    && es.all (fun e => bit e.bind 15 && decide (e.kind ≤ 1) && e.rsv == 0)
    && (es.filter (fun e => e.recv)).all (fun e => e.ring % 4096 == 0 && decide (e.ring + 4096 ≤ win))
    && (es.filter (fun e => e.kind == 1)).all (fun e =>
        s.flag F.SN_Q_CFG_EN e.queue && s.rd F.SN_Q_CFG_CABINET e.queue == c.val)
    && pairwiseOk (fun a b => !(a.queue == b.queue && a.recv == b.recv
        && (a.recv || !s.flag F.SN_Q_CFG_MULTI a.queue))) que
    && pairwiseOk (fun a b => !(a.rank == b.rank && a.ring == b.ring)) (es.filter (fun e => e.recv))

/-- Whether `n` bytes at an authority's address lie in the cabinet's region (09 R263). -/
def State.inRegion (s : State) (c : CabId) (a n : Nat) : Bool :=
  let b := s.cab c
  match s.cabAddr c a n with
  | some d => decide (b.base ≤ d ∧ d + n ≤ b.base + b.size)
  | none => false

/-- Bytes of one rank's save area (09 R263). -/
def State.saveSize (s : State) (c : CabId) : Nat := 36864 + 16384 * s.rd F.SCH_CAB_CFG_WIN_PAGES c.val

/-- A rank of a context that has run nothing. -/
def freshRank : RankRec := ⟨none, none, 0, 0, [], [], none⟩

/-- Who reads a program image's header for the check of 09 R263: SCH, and for a cabinet bound to a Locker, whose code part SCH
could not read, with the tag of the rank's engine (notes/assumptions/50.md). -/
def State.headerReader (s : State) (c : CabId) (r : Nat) : Master :=
  if s.flag F.SEC_CAB_LKR_VALID c.val then .te (s.rankEng c r) else .sch

/-- Whether the images that a program table names lie in the region, their headers read by SCH (09 R263 step 2). -/
def State.imagesOk (s : State) (c : CabId) (prog : Nat) : State × Bool :=
  (s.ranksOf c).foldl (fun (acc : State × Bool) r =>
    if !acc.2 then acc
    else
      let (s, t) := acc.1.cabRead .sch c (prog + 8 * r) 8
      let a := ofBytes t.data
      if t.st ≠ stOK ∨ !s.inRegion c a 64 then (s, false)
      else
        let (s, h) := s.cabRead (s.headerReader c r) c a 64
        (s, h.st == stOK && s.inRegion c a (64 + 16 * fieldAt h.data 4 4))) (s, true)

/-- Whether the program images of a cabinet bound to a Locker lie wholly in its code part (14 R472). -/
def State.imagesInLocker (s : State) (c : CabId) (prog : Nat) : State × Bool :=
  if !s.flag F.SEC_CAB_LKR_VALID c.val then (s, true)
  else
    let (b, e, _) := s.lockerSpan (s.rd F.SEC_CAB_LOCKER c.val)
    (s.ranksOf c).foldl (fun (acc : State × Bool) r =>
      let (s, t) := acc.1.cabRead .sch c (prog + 8 * r) 8
      let a := ofBytes t.data
      let (s, h) := s.cabRead (s.headerReader c r) c a 64
      (s, acc.2 && decide (b ≤ a ∧ a + 64 + 16 * fieldAt h.data 4 4 ≤ e))) (s, true)

/-- The bindings of the contexts of a cabinet other than `but`. -/
def State.otherBinds (s : State) (c : CabId) (but : Option CtxId) : List StreamEnt :=
  (List.finRange 72).flatMap (fun x => if but = some x then [] else match s.ctx? c x with
    | some t => t.binds.map (fun b => ⟨b.1, b.2.1, b.2.2.1, b.2.2.2, 0⟩)
    | none => [])

/-- A context record read and checked (09 R263; 14 R472): a status other than OK, or the context it describes. -/
def State.readContext (s : State) (c : CabId) (a : Nat) (but : Option CtxId) : State × Nat × Option Ctx :=
  if !s.inRegion c a 64 then (s, csREGION, none)
  else
    let (s, q) := s.cabRead .sch c a 64
    if q.st ≠ stOK then (s, csREGION, none)
    else
      let l := q.data
      let flags := fieldAt l 0 1
      let prog := fieldAt l 8 8
      let tab := fieldAt l 16 8
      let len := fieldAt l 24 2
      let save := fieldAt l 32 8
      let g := s.gang c
      if 2 ≤ flags ∨ fieldAt l 1 7 ≠ 0 ∨ fieldAt l 26 6 ≠ 0 ∨ fieldAt l 40 24 ≠ 0 ∨ save % 4096 ≠ 0 ∨ 8 * g < len then
        (s, csBAD_COMMAND, none)
      else if !s.inRegion c prog (8 * g) || !s.inRegion c tab (8 * len) || !s.inRegion c save (g * s.saveSize c) then
        (s, csREGION, none)
      else
        let (s, ok) := s.imagesOk c prog
        if !ok then (s, csREGION, none)
        else
          let (s, t) := if len = 0 then (s, ⟨stOK, []⟩) else s.cabRead .sch c tab (8 * len)
          let es := streamEnts len t.data
          if t.st ≠ stOK then (s, csREGION, none)
          else if !s.streamOk c es (s.otherBinds c but) then (s, csSTREAM_TABLE, none)
          else
            let (s, inside) := s.imagesInLocker c prog
            if !inside then (s, Config.lockerImageStatus, none)
            else (s, csOK, some
            { rt := bit flags 0, st := .stored, drawer := none, progTable := prog, saveAddr := save,
              binds := es.map (fun e => (e.rank, e.ep, e.bind, e.ring)), jobs := [], started := false,
              ranks := List.replicate g freshRank, held := [], waits := [], lastRun := 0, ever := false,
              recovering := false, blockedLogged := false, raised := [], record := a, ending := none })

/-! ### Residence -/

/-- Resident contexts of a cabinet. -/
def State.residents (s : State) (c : CabId) : List CtxId :=
  (List.finRange 72).filter (fun x => match s.ctx? c x with | some t => t.drawer.isSome | none => false)

/-- Stored contexts of a cabinet. -/
def State.storeds (s : State) (c : CabId) : List CtxId :=
  (List.finRange 72).filter (fun x => match s.ctx? c x with | some t => t.drawer.isNone | none => false)

/-- Resident contexts that a cabinet may hold (09 R261). -/
def State.resMax (s : State) (c : CabId) : Nat := s.rd F.SCH_CAB_CFG_RES_MAX c.val

/-- The lowest free drawer below RES_MAX. -/
def State.freeDrawer (s : State) (c : CabId) : Option (Fin 8) :=
  (List.finRange 8).find? (fun d => decide (d.val < s.resMax c) && (s.residents c).all (fun x =>
    match s.ctx? c x with | some t => t.drawer != some d | none => true))

/-- A context takes drawer `d` on every rank, from its save area or as one that has never run (09 R262, R263, R274); the
first status other than OK of the reads. -/
def State.takeDrawer (s : State) (c : CabId) (x : CtxId) (d : Fin 8) : State × Nat :=
  let (s, st) := (s.ranksOf c).foldl (fun (acc : State × Nat) r =>
    let (s, st) := acc.1.restoreRank c x r d
    (s, if acc.2 = stOK then st else acc.2)) (s, stOK)
  (s.modCtx c x (fun t => { t with drawer := some d, waits := [], blockedLogged := false,
                                   st := if t.jobs.isEmpty then .idle else .ready }), st)

/-- Whether a cabinet holds all the contexts it may (09 R262). -/
def State.ctxFull (s : State) (c : CabId) : Bool :=
  (decide (s.resMax c ≤ (s.residents c).length) && decide (64 ≤ (s.storeds c).length))
    || (List.finRange 72).all (fun x => (s.ctx? c x).isSome)

/-- CONTEXT_CREATE's effect on a cabinet (09 R262, R263): the status and, where OK, the context's number. The status listed first
in 15 R526 applies: CONTEXT_LIMIT comes before STREAM_TABLE. An engine of the cabinet that is fenced and not yet remapped gives
FENCED (01 R26). -/
def State.createContext (s : State) (c : CabId) (a : Nat) : State × Nat × Nat :=
  let (s, st, o) := s.readContext c a none
  if st ≠ csBAD_COMMAND ∧ st ≠ csREGION ∧ s.ctxFull c then (s, csCONTEXT_LIMIT, 0)
  else match o, (List.finRange 72).find? (fun x => (s.ctx? c x).isNone) with
    | some t, some x =>
      if (s.cab c).lost ≠ [] then (s, csFENCED, 0)
      else
        let s := s.modCab c (fun b => { b with ctxs := vmod b.ctxs x (fun _ => some t) })
        match s.freeDrawer c with
        | some d => ((s.takeDrawer c x d).1, csOK, x.val)
        | none => (s, csOK, x.val)
    | _, _ => (s, st, 0)

/-! ### Jobs -/

/-- The fields of a job descriptor (09 R266); none where it uses a reserved bit. -/
def jobOf (l : List Byte) (addr qctMax now : Nat) (fired : Option Nat) : Option Job :=
  let g := fieldAt l
  if 4 ≤ g 1 1 ∨ 8 ≤ g 2 1 ∨ 8 ≤ g 3 1 ∨ g 6 2 ≠ 0 ∨ g 56 8 ≠ 0 then none
  else some
    { entryValid := bit (g 1 1) 0, notify := bit (g 1 1) 1, qct := min (g 2 1) qctMax, prio := g 3 1, entry := g 4 2,
      deadline := g 8 4, tag := g 12 4,
      arg := [g 16 4, g 20 4, g 24 4, g 28 4], ckpt0 := g 32 8, ckpt1 := g 40 8, cmpl := g 48 8, fired := fired,
      missed := false, addr := addr, origin := now }

/-- A submission checked and queued (09 R265-R267; 10 R313): the status and the jobs the context then holds. A DEGRADED
cabinet completes the job at once with FENCED. -/
def State.submit (s : State) (c : CabId) (a : Nat) (fired : Option Nat) : State × Nat × Nat :=
  let (s, q) := s.cabRead .sch c a 64
  if q.st ≠ stOK then (s, csWINDOW, 0)
  else
      let x := ctxId (fieldAt q.data 0 1)
      match (if fieldAt q.data 0 1 < 72 then s.ctx? c x else none) with
      | none => (s, csNOT_FOUND, 0)
      | some t =>
        if t.st = .aborting then (s, csNOT_FOUND, 0)
        else if 16 ≤ t.jobs.length then (s, csJOB_QUEUE_FULL, 0)
        else match jobOf q.data a (s.cab c).qctMax s.itu fired with
          | none => (s, csJOB_INVALID, 0)
          | some j =>
            if (s.cab c).degraded then (s.dropJob c x j stFENCED 0, csOK, t.jobs.length + 1)
            else (s.modCtx c x (fun t => { t with jobs := t.jobs ++ [j], st := if t.st = .idle then .ready else t.st }),
              csOK, t.jobs.length + 1)

/-! ### The Abort command (09 R280-R283) -/

/-- Whether an entry has fabric accesses under way: a started DMA, or a fabric gather or scatter, short of its end. -/
def SbEntry.onFabric (e : SbEntry) : Bool :=
  let i := Ins.of e.iw
  e.st == .running && ((i.cls == 1 && i.opc != 0x12) || (i.cls == 5 && bit i.mod 0))

/-- What a running instruction that is stopped leaves undefined (09 R281): its sets, the bytes of its drawer's window it writes, and
the fabric bytes it writes. A REQ leaves its table as it is (03 R82), a POST its output (06 R195). -/
def State.stopEntry (s : State) (k : EngineId) (d : Fin 8) (e : SbEntry) : State :=
  let i := Ins.of e.iw
  if e.st ≠ .running ∨ s.idleWait k d e ∨ i.cls = 8 then s
  else ((s.scrambleSets k d (if i.cls = 2 then i.dst.sets else [])).scrambleRanges k d (s.writesOf k d i false)).scrambleFab (.te k)
    (s.fabWrites k d i)

/-- What an abort or a fence does to the PPU request of an engine (06 R195): before its commit phase it is withdrawn; during it, an
abort waits for the commit and the POST completes with ABORTED, and a fence leaves OUT undefined. -/
def State.stopPost (s : State) (k : EngineId) (st : Nat) : State :=
  let c : Fin 4 := fin 4 (by decide) (k.val / 4)
  let s := if st = stFENCED then
      ((vget s.ppus c).filter (fun q => q.eng == k && q.served)).foldl (fun s q => s.scrambleOut c q) s else s
  (s.modPpu c (fun l => (l.filter (fun q => q.eng != k || (q.served && st != stFENCED))).map (fun q =>
    if q.eng = k then { q with status := st } else q))).wakeAll

/-- Issue stops on one rank of an aborted or lost context: placed instructions complete with `st` and change nothing, what
runs stops with its destinations undefined, and its POSTs and semaphore waits are withdrawn (09 R281; 06 R195). -/
def State.squashRank (s : State) (k : EngineId) (d : Fin 8) (st : Nat) : State :=
  let w := s.drw k d
  let s := if st = stFENCED then s else s.samplesOut k d st false
  let s := w.sb.foldl (fun s e => s.stopEntry k d e) s
  let s := if (s.eng k).active = some d then s.stopPost k st else s
  (s.dropWaitersOf k d).modDrw k d (fun w => { w with sb := [], recs := [], jobOn := false })

/-- A held lock count given back, saturating; a context drained while it waited for it is woken (09 R265, R282). -/
def State.addBack (s : State) (c : CabId) (i n : Nat) : State :=
  let s := s.setSem c i (min 65535 ((s.cab c).sem i + n))
  s.wake c (fun p => match p with | .sem j m => j == i && decide (m ≤ (s.cab c).sem i) | _ => false)

/-- The SWAITs of other contexts on released locks complete with ABORTED and subtract nothing; the ranks of their contexts drain,
and then their jobs end with ABORTED, cause SEM_RELEASED (09 R282). -/
def State.endWaiters (s : State) (c : CabId) (sems : List Nat) (me : CtxId) : State :=
  let hit := (s.cab c).waiters.filter (fun q => sems.contains q.sem)
  let ctxs := (hit.filterMap (fun q => (s.drw q.eng q.drawer).ctx.map (fun p => p.2))).eraseDups
  let s := hit.foldl (fun (s : State) q => s.modDrw q.eng q.drawer (fun w => { w with sb := w.sb.filter (fun t =>
    !(t.word == q.word && t.st == .running && (Ins.of t.iw).opc == 0x80)) })) s
  let s := s.modCab c (fun b => { b with waiters := b.waiters.filter (fun q => !sems.contains q.sem) })
  ctxs.foldl (fun s x =>
    if x = me then s
    else match s.ctx? c x with
      | none => s
      | some t => if t.st = .aborting then s else s.endAfter c x stABORTED 1 0 0) s

/-- The held counts of lock semaphores given back, and their waiters ended (09 R282). -/
def State.releaseLocks (s : State) (c : CabId) (x : CtxId) : State :=
  match s.ctx? c x with
  | none => s
  | some t =>
    let held := t.held.filter (fun h => decide (0 < h.2))
    let s := s.endWaiters c (held.map (fun h => h.1)) x
    held.foldl (fun s h => (s.addBack c h.1 h.2.toNat).modCtx c x (fun t => t.hold h.1 (-h.2))) s

/-- Whether an endpoint belongs to a context. -/
def ofCtx (c : CabId) (x : CtxId) (n : EpName) : Bool := n.cab == c && n.ctx == x

/-- The rest of an abort once nothing of it is under way any more (09 R281, R282; 08 R253): drawers
emptied, locks and credits released, the running job completed with ABORTED, the context destroyed. -/
def State.finishAbort (s : State) (c : CabId) (x : CtxId) (st : Nat) : State :=
  match s.ctx? c x with
  | none => s
  | some t =>
    let info := s.jobInfo c t
    let s : State := match t.drawer with
      | some d => (s.ranksOf c).foldl (fun (s : State) r =>
          let k := s.rankEng c r
          let s := (s.squashRank k d st).emptyDrw k d
          if (s.eng k).has d then s.leave k else s) s
      | none => s
    let s := s.cutStreams (ofCtx c x) (fun f => f.cab == c && f.ctx == x) false
    let s := s.releaseLocks c x
    let s := match t.started, t.jobs with
      | true, j :: _ => s.postJob c x j st 0 0 info 0
      | _, _ => s
    s.modCab c (fun b => { b with
      ctxs := vmod b.ctxs x (fun _ => none)
      act := if b.act = some x then none else b.act
      aborting := b.aborting.filter (fun p => p.1 != x) })

/-- Whether a rank of a context has fabric accesses under way. -/
def State.onFabric (s : State) (c : CabId) (x : CtxId) : Bool :=
  match s.ctx? c x with
  | some t => match t.drawer with
    | some d => (s.ranksOf c).any (fun r => (s.drw (s.rankEng c r) d).sb.any (fun e => e.onFabric))
    | none => false
  | none => false

/-- Whether an engine of a resident context runs a patrol (01 R27). -/
def State.inPatrol (s : State) (c : CabId) (x : CtxId) : Bool :=
  match s.ctx? c x with
  | some t => t.drawer.isSome && (s.ranksOf c).any (fun r => (s.eng (s.rankEng c r)).st == .patrol)
  | none => false

/-- Whether a PPU still commits for an aborted context of a cabinet (06 R195). -/
def State.committing (s : State) (c : CabId) : Bool :=
  s.ppus.toList.any (fun l => l.any (fun q => q.served && q.status == stABORTED && s.holder q.eng.val == some c))

/-- Issue stops on every rank of an aborted context whose engine runs no patrol (09 R281; 01 R27). -/
def State.stopRanks (s : State) (c : CabId) (x : CtxId) : State :=
  match s.ctx? c x with
  | none => s
  | some t => match t.drawer with
    | none => s
    | some d => (s.ranksOf c).foldl (fun (s : State) r =>
        let k := s.rankEng c r
        if (s.eng k).st = .patrol then s else s.squashRank k d stABORTED) s

/-- An abort under way goes as far as it can: every rank whose patrol has ended stops, and the abort ends once no fabric access is
outstanding, no patrol runs and no commit is left (09 R281; 01 R27; 06 R195). A fence of an engine of the cabinet makes it end with
FENCED (01 R26; 09 R283). -/
def State.tryAbort (s : State) (c : CabId) (x : CtxId) : State :=
  match (s.cab c).aborting.find? (fun p => p.1 == x) with
  | none => s
  | some p =>
    let s := s.stopRanks c x
    if p.2 || s.inPatrol c x || s.committing c then s
    else s.finishAbort c x (if (s.cab c).lost = [] then stABORTED else stFENCED)

/-- The aborts under way of a cabinet go as far as they can. -/
def State.tryAborts (s : State) (c : CabId) : State := (s.cab c).aborting.foldl (fun s p => s.tryAbort c p.1) s

/-- An abort of a context begins (09 R281): ABORTING, and the queued jobs complete with ABORTED, DEQUEUED. -/
def State.abortCtx (s : State) (c : CabId) (x : CtxId) : State :=
  match s.ctx? c x with
  | none => s
  | some t =>
    if t.st = .aborting then s
    else
      let queued := if t.started then t.jobs.tail else t.jobs
      let s := queued.foldl (fun s j => s.dropJob c x j stABORTED 2) s
      let s := s.modCtx c x (fun t => { t with st := .aborting, jobs := if t.started then t.jobs.take 1 else [] })
      (s.modCab c (fun b => { b with aborting := b.aborting ++ [(x, s.onFabric c x)] })).tryAbort c x

/-- Every fabric access of the aborted contexts of a cabinet has returned or is abandoned after 1 ms (09 R281). -/
def State.abandon (s : State) (c : CabId) : State :=
  (s.modCab c (fun b => { b with aborting := b.aborting.map (fun p => (p.1, false)) })).tryAborts c

/-- An abort of one context, or of every context of the cabinet (09 R280). -/
def State.abort (s : State) (c : CabId) (x : Option CtxId) : State :=
  match x with
  | some x => s.abortCtx c x
  | none => (s.contexts c).foldl (fun s x => s.abortCtx c x) s

end Sys2Proof.Machine
end

