-- ==== Sys2Proof/Machine/Sched.lean ====
section
/-! DEFINITION. The job scheduler: waiting and eviction (09 R264, R265, R276, R278), drains and context switches (04 R105,
R108; 08 R251; 09 R272-R275), program loads and job starts (04 R115-R117; 09 R268; 10 R301), the cyclic table (09
R269-R271), slices (09 R273) and deadlines (09 R284). -/

namespace Sys2Proof.Machine

/-! ### What SCH wants -/

/-- Whether a cabinet's contexts are kept from running: stopped (09 R288), at rest (17 R572), its host suspended (15 R532, R538),
DEGRADED (10 R313), or to be remapped (10 R312). -/
def State.paused (s : State) (c : CabId) : Bool :=
  let b := s.cab c
  b.stopped || b.degraded || !b.lost.isEmpty || b.resting ||
    (!b.flash && ((vget s.fns (fin 33 (by decide) b.fn)).suspended || (vget s.fns (fin 33 (by decide) b.fn)).st == .quiesced))

/-- Whether rank `r`'s part of a context cannot proceed: halted, or its scoreboard holds nothing but waiting
instructions and instructions that cannot start (09 R264; notes/assumptions/27.md). -/
def State.rankStuck (s : State) (c : CabId) (r : Nat) (d : Fin 8) : Bool :=
  let k := s.rankEng c r
  let w := s.drw k d
  w.halted || (w.sb.any (s.idleWait k d) && (List.range w.sb.length).all (fun e =>
    match w.sb[e]? with
    | some t => s.idleWait k d t || (t.st == .waiting && !s.canStart k d e (Ins.of t.iw))
    | none => true))

/-- Whether the waiting condition of 09 R264 holds of a resident context with a started job. -/
def State.stuck (s : State) (c : CabId) (x : CtxId) : Bool :=
  match s.ctx? c x with
  | some t => match t.drawer with
    | some d => t.started && (s.ranksOf c).all (fun r => s.rankStuck c r d)
        && (s.ranksOf c).any (fun r => !(s.drw (s.rankEng c r) d).halted)
    | none => false
  | none => false

/-- An active context that was WAITING in place and can proceed is ACTIVE again (09 R265; notes/assumptions/27.md). -/
def State.revive (s : State) (c : CabId) : State :=
  match (s.cab c).act with
  | some x => match s.ctx? c x with
    | some t => if t.st = .waiting ∧ t.waits = [] ∧ !s.stuck c x then s.modCtx c x (fun t => { t with st := .active }) else s
    | none => s
  | none => s

/-- The context SCH keeps or makes active (09 R272). -/
def State.chosen (s : State) (c : CabId) : Option CtxId := if s.paused c then none else s.wanted c

/-- A runnable stored context (09 R264, R265): one with a job and no unsatisfied wait, or one that inherits a priority (R279). -/
def State.storedRunnable (s : State) (c : CabId) (x : CtxId) : Bool :=
  match s.ctx? c x with
  | some t => t.drawer.isNone && t.st == .stored && !t.jobs.isEmpty && (t.waits.isEmpty || t.waits.any (s.canSatisfy c) || !t.raised.isEmpty)
  | none => false

/-- A blocked context (09 R264). -/
def State.blocked (s : State) (c : CabId) (x : CtxId) : Bool :=
  match s.ctx? c x with
  | some t => t.st == .idle || t.st == .waiting
  | none => false

/-- The order of least recently run: a context that never ran first, then the lower number (09 R272, R276). -/
def State.runKey (s : State) (c : CabId) (x : CtxId) : Nat :=
  match s.ctx? c x with
  | some t => if t.ever then t.lastRun + 1 else 0
  | none => 0

/-- The stored context to restore: the highest priority, then the lowest number (notes/assumptions/28.md). -/
def State.toRestore (s : State) (c : CabId) : Option CtxId :=
  let cand := (List.finRange 72).filter (fun x => s.storedRunnable c x)
  let top := cand.foldl (fun m x => match s.ctx? c x with | some t => max m t.prio | none => m) 0
  cand.find? (fun x => match s.ctx? c x with | some t => t.prio == top | none => false)

/-- Whether RES_MAX contexts are resident and all of them are blocked (09 R276). -/
def State.allBlocked (s : State) (c : CabId) : Bool :=
  decide (s.resMax c ≤ (s.residents c).length) && (s.residents c).all (fun x => s.blocked c x)

/-- The context that R276 evicts: the blocked one that ran least recently, without lock semaphore and link credit. -/
def State.evictee (s : State) (c : CabId) : Option CtxId :=
  if (s.toRestore c).isNone ∨ !s.allBlocked c then none
  else
    let cand := (s.residents c).filter (fun x => match s.ctx? c x with
      | some t => !t.holdsLock && !s.holdsCredit c x | none => false)
    (sortBy (fun a b => decide (s.runKey c a < s.runKey c b ∨ (s.runKey c a = s.runKey c b ∧ a.val ≤ b.val))) cand).head?

/-- The log of one stored context: an RT one that is runnable, that nothing can be evicted for, and that has not been logged
since it became runnable (09 R278). -/
def State.evictLogOf (s : State) (c : CabId) (x : CtxId) : State :=
  match s.ctx? c x with
  | none => s
  | some t =>
    if !t.rt ∨ t.drawer.isSome then s
    else if !s.storedRunnable c x then s.modCtx c x (fun t => { t with blockedLogged := false })
    else if t.blockedLogged then s
    else (s.modCtx c x (fun t => { t with blockedLogged := true })).deadlineLog c x.val 1
      (match t.jobs with | j :: _ => j.addr | [] => 0)

/-- The logs of the RT stored contexts that wait since every blocked resident context holds a lock semaphore or a link
credit (09 R278); one that is not runnable is logged again when it becomes so. -/
def State.evictLog (s : State) (c : CabId) : State :=
  let stored := (List.finRange 72).filter (fun x => match s.ctx? c x with
    | some t => t.blockedLogged || (t.rt && t.drawer.isNone)
    | none => false)
  if stored.isEmpty then s
  else
    let now := s.allBlocked c && (s.evictee c).isNone && !s.paused c
    stored.foldl (fun s x =>
      if now then s.evictLogOf c x
      else if s.storedRunnable c x then s
      else s.modCtx c x (fun t => { t with blockedLogged := false })) s

/-- The logs of 09 R278 after an event that may make a stored context runnable. -/
def State.evictLogs (s : State) : State :=
  (List.finRange 8).foldl (fun s c => if (s.cab c).live then s.evictLog c else s) s

/-- Whether the active context is to leave its engines: its cabinet is paused, it is evicted, another context is selected, or
it has no job; a WAITING one stays until another is selected (09 R265, R273). -/
def State.actLeaves (s : State) (c : CabId) (a : CtxId) : Bool :=
  s.paused c || s.evictee c == some a ||
    (match s.chosen c with
     | some b => b != a
     | none => match s.ctx? c a with | some t => t.jobs.isEmpty | none => true)

/-! ### Drains (04 R105, R108) -/

/-- Whether SCH or a Core has decided on a drain of engine `k` (04 R105): for another context, an eviction, a stop or the
loss of its host; for a due patrol; for a recovery. -/
def State.drainWanted (s : State) (k : EngineId) (why : DrainWhy) : Bool :=
  match why with
  | .patrol => (s.eng k).patrolDue
  | .switch => match s.actCtx k with
    | some (_, c, x) => s.actLeaves c x
    | none => false
  | .recovery => match s.actCtx k with
    | some (_, c, x) => match s.ctx? c x with | some t => t.recovering | none => false
    | none => false
  | _ => false

/-- Whether an abort is under way on engine `k`: patrols, switches and job issue wait for it (01 R25). -/
def State.abortOn (s : State) (k : EngineId) : Bool :=
  match s.holder k.val with
  | some c => !(s.cab c).aborting.isEmpty
  | none => false

/-- DRAIN: a drain decided on begins; one asked for during another, or during an abort, waits for it (01 R25; 04 R105, R113). -/
def State.drain (s : State) (k : EngineId) (why : DrainWhy) : State :=
  let s := match s.actCtx k with
    | some (_, c, _) => s.revive c
    | none => s
  if (s.eng k).st = .running ∧ s.drainWanted k why ∧ !s.abortOn k then s.beginDrain k why else s

/-- DRAWER_RESUME: a drained drawer whose patrol has ended, or that no other context is to replace, goes on in place
(04 R108): its suspended instructions continue and its withdrawn ones start again. One whose job is to end does not (09 R282). -/
def State.resumeDrawer (s : State) (k : EngineId) : State :=
  let e := s.eng k
  let ends := match s.actCtx k with
    | some (_, c, x) => (match s.ctx? c x with | some t => t.ending.isSome || t.st == .aborting | none => false)
    | none => false
  if s.isDrained k ∧ !e.patrolDue ∧ !e.fencePending ∧ !ends
      ∧ (e.why = some .patrol ∨ (e.why = some .switch ∧ !s.drainWanted k .switch)) then
    let c? := s.actCtx k
    let s := s.undrain k
    match c? with
    | some (_, c, x) => s.modCtx c x (fun t => { t with waits := [], st := if t.st = .waiting then .active else t.st })
    | none => s
  else s

/-! ### Switches (09 R274) -/

/-- Every rank of a context's drawer has drained for a switch or is held by TE_CTRL.RUN, and no flit or credit of it is in transit
(09 R274 step 1; 08 R251). -/
def State.switchedOut (s : State) (c : CabId) (x : CtxId) : Bool :=
  (s.ranksOf c).all (fun r =>
    let k := s.rankEng c r
    (s.isDrained k && (s.eng k).why == some .switch) || (s.eng k).held.isSome) && !s.inTransit c x

/-- The active context leaves its engines (09 R265): READY, WAITING where waits were withdrawn, IDLE with no job; queue credits
that a rank held by TE_CTRL.RUN kept return (08 R251). -/
def State.deactivate (s : State) (c : CabId) (x : CtxId) : State :=
  let s : State := (s.ranksOf c).foldl (fun s r =>
    let k := s.rankEng c r
    let s := match (s.eng k).held with | some d => s.returnCredits k d | none => s
    s.leave k) s
  let s := (s.ranNow c x).modCab c (fun b => { b with act := none, sliceEnd := false })
  s.modCtx c x (fun t => { t with
    st := if t.st = .aborting then .aborting else if t.jobs.isEmpty then .idle else if t.waits.isEmpty then .ready else .waiting })

/-- Whether an engine may activate a drawer: powered, initialised and patrolled once, idle (10 R317; 02 R47). -/
def State.engFree (s : State) (k : EngineId) : Bool :=
  let e := s.eng k
  e.st == .stopped && e.active.isNone && e.held.isNone && e.inited && !e.fresh && !e.patrolDue && !e.fencePending
    && e.ver != .fenced && e.ver != .off

/-- A READY context becomes ACTIVE on every rank, its program being loaded or its load having failed (04 R108, R116; 09 R272,
R274 step 4). -/
def State.activate (s : State) (c : CabId) (x : CtxId) : State :=
  match s.ctx? c x with
  | some t => match t.drawer with
    | some d =>
      if (s.ranksOf c).all (fun r =>
          let w := s.drw (s.rankEng c r) d
          s.engFree (s.rankEng c r) && (w.loaded || w.loadSt != stOK)) then
        let q := match t.jobs with | j :: _ => j.qct | [] => 0
        let s : State := (s.ranksOf c).foldl (fun s r =>
          let k := s.rankEng c r
          (s.modEng k (fun e => { e with jobQct := q })).place k d) s
        ((s.modCab c (fun b => { b with act := some x, sliceEnd := false })).modCtx c x (fun t =>
          { t with st := .active, waits := [] })).takeEffect R.SCH_CAB_CFG c.val
      else s
    | none => s
  | none => s

/-- The started job of a context ends with a status that a move of its state met (notes/assumptions/29.md). -/
def State.moveFailed (s : State) (c : CabId) (x : CtxId) (st : Nat) : State :=
  if st = stOK then s
  else match s.ctx? c x with
    | some t => if t.started then s.endJob c x st 0 0 0 else s
    | none => s

/-- A resident context that is not active goes to its save area (09 R274 step 2, R276). -/
def State.store (s : State) (c : CabId) (x : CtxId) : State :=
  let (s, st) := (s.ranksOf c).foldl (fun (acc : State × Nat) r =>
    let (s, st) := acc.1.saveRank c x r
    (s, firstBad acc.2 st)) (s, stOK)
  (s.modCtx c x (fun t => { t with drawer := none, st := if t.st = .aborting then .aborting else .stored })).moveFailed c x st

/-- A stored context restored into a drawer (09 R274 step 3). -/
def State.restore (s : State) (c : CabId) (x : CtxId) (d : Fin 8) : State :=
  let (s, st) := s.takeDrawer c x d
  s.moveFailed c x st

/-- Whether the requests of every rank of a context for its save area leave their ports now (12 R398, R406). -/
def State.savesServed (s : State) (c : CabId) (x : CtxId) : Bool :=
  match s.ctx? c x with
  | some t => (s.ranksOf c).all (fun r => s.portServes (.te (s.rankEng c r)) (s.saveBase c t r))
  | none => true

/-- The evictions and restores that need no drain: a pause stores resident contexts (09 R288; 15 R538); a runnable stored
context takes a free drawer, or that of the context R276 evicts. -/
def State.residence (s : State) (c : CabId) : State :=
  let idle := fun (x : CtxId) => (s.cab c).act != some x
  if s.paused c then
    match (s.residents c).find? idle with
    | some x => if (s.cab c).degraded || !(s.cab c).lost.isEmpty || !s.savesServed c x then s else s.store c x
    | none => s
  else match s.toRestore c with
    | none => s
    | some x =>
      if !s.savesServed c x then s
      else match s.freeDrawer c with
      | some d => s.restore c x d
      | none => match s.evictee c with
        | some y =>
          if idle y && s.savesServed c y then
            let s := s.store c y
            match s.freeDrawer c with
            | some d => s.restore c x d
            | none => s
          else s
        | none => s

/-- CONTEXT_SWITCH: the next step of what SCH has decided for a cabinet (09 R272-R276); it waits for an abort under way (01 R25). -/
def State.contextSwitch (s : State) (c : CabId) : State :=
  if !(s.cab c).live || !(s.cab c).aborting.isEmpty then s
  else
    let s := (s.revive c).evictLog c
    match (s.cab c).act with
    | some a =>
      if !s.actLeaves c a ∨ !s.switchedOut c a then
        match s.ctx? c a with
        | some t => if t.st = .ready then s.modCtx c a (fun t => { t with st := .active }) else s.residence c
        | none => s
      else
        let s := s.deactivate c a
        match s.chosen c with
        | some b => s.activate c b
        | none => s.residence c
    | none => match s.chosen c with
      | some b => s.activate c b
      | none => s.residence c

/-- CONTEXT_WAITING: the ranks of the active context have only waited or halted (09 R264, R265, R278). -/
def State.contextWaiting (s : State) (c : CabId) : State :=
  match (s.cab c).act with
  | some x => match s.ctx? c x with
    | some t =>
      if t.st = .active ∧ s.stuck c x then (s.modCtx c x (fun t => { t with st := .waiting })).evictLog c else s
    | none => s
  | none => s

/-- SLICE_END (09 R273): another READY context of equal effective priority is to follow, or the slice restarts. -/
def State.sliceEnds (s : State) (c : CabId) : State :=
  if s.flag F.SCH_CAB_CFG_KIND c.val ∨ (s.cab c).act = none then s
  else
    let t := s.modCab c (fun b => { b with sliceEnd := true })
    if t.chosen c = s.chosen c then s.takeEffect R.SCH_CAB_CFG c.val else t

/-! ### Programs and jobs -/

/-- The checks of a program image in the order of 04 R116; the bytes of its words where it passes. -/
def State.readImage? (s : State) (k : EngineId) (d : Fin 8) (a : Nat) : State × Nat × List Byte × Nat :=
  let (s, h) := s.fabRead (.te k) a 64
  let words := fieldAt h.data 4 4
  let entry := fieldAt h.data 8 4
  if h.st ≠ stOK then (s, h.st, [], 0)
  else if fieldAt h.data 1 1 ≠ 1 ∨ words = 0 ∨ 4096 < words ∨ words ≤ entry then (s, stPROGRAM_TOO_LARGE, [], 0)
  else if s.allot k d < words ∨ (s.window k d).2 < fieldAt h.data 12 2 then (s, stPROGRAM_TOO_LARGE, [], 0)
  else
    let (s, q) := s.fabRead (.te k) (a + 64) (16 * words)
    if q.st ≠ stOK then (s, q.st, [], 0)
    else if crc32 q.data ≠ fieldAt h.data 16 4 then (s, stPROGRAM_CRC, [], 0)
    else (s, stOK, q.data, entry)

/-- A checked image written into a drawer's allotment. -/
def State.loadWords (s : State) (k : EngineId) (d : Fin 8) (st : Nat) (l : List Byte) (entry : Nat) : State :=
  if st ≠ stOK then s.modDrw k d (fun w => { w with loadSt := st })
  else ({ s with mem := (s.mem.store (runOf (s.ibKey k d 0) l)).1 } : State).modDrw k d (fun w =>
    { w with loaded := true, loadSt := stOK, entry := entry })

/-- PROGRAM_LOAD: the Core loads a resident context's program into its stopped drawer (02 R57; 04 R116; 09 R274 step 2; 12 R403). A
load that fails ends the job that was to start: JOB_START ends a new one, and one that has started ends here. -/
def State.programLoad (s : State) (k : EngineId) (d : Fin 8) : State :=
  match (s.drw k d).ctx with
  | none => s
  | some (c, x) => match s.ctx? c x with
    | none => s
    | some t =>
      let w := s.drw k d
      if w.loaded ∨ w.loadSt ≠ stOK ∨ (s.eng k).has d ∨ w.sb ≠ [] then s
      else
        let (s, p) := (s.setQct k t.moveQct).cabRead .sch c (t.progTable + 8 * w.rank) 8
        let (s, st, l, entry) := if p.st ≠ stOK then (s, p.st, [], 0) else s.readImage? k d (ofBytes p.data)
        let s := s.loadWords k d st l entry
        if st ≠ stOK ∧ t.started then (s.modDrw k d (fun w => { w with loadSt := stOK })).endJob c x st 0 w.rank 0 else s

/-- A drawer at the start of a job (09 R268): ARG in S28-S31, INFO clear, issue from the entry. A first fetch out of bounds is recorded
against the entry index (notes/assumptions/126.md). -/
def Drawer.startJob (w : Drawer) (j : Job) : Drawer :=
  let e := if j.entryValid then j.entry else w.entry
  let w := iter (fun i w => w.wrS (28 + i) (nth 0 j.arg i)) 4 w
  { w with info := 0, pc := e, prev := e, loops := [], halted := false, faulting := false, jobOn := false }

/-- JOB_START: the next job of the active context starts on every rank, after its start checkpoint (09 R268; 10 R301; 02
TE_CTRL; 04 R116); it waits for an abort under way (01 R25). -/
def State.jobStart (s : State) (c : CabId) : State :=
  match (s.cab c).act with
  | none => s
  | some x => match s.ctx? c x with
    | none => s
    | some t => match t.drawer, t.jobs with
      | some d, j :: _ =>
        let rs := s.ranksOf c
        let ready := fun (r : Nat) =>
          let w := s.drw (s.rankEng c r) d
          let e := s.eng (s.rankEng c r)
          e.st == .running && !e.fencePending && (w.loaded || w.loadSt != stOK)
        if t.started ∨ t.st ≠ .active ∨ (s.cab c).lost ≠ [] ∨ (s.cab c).aborting ≠ [] ∨ !(rs.all ready) then s
        else match rs.find? (fun r => (s.drw (s.rankEng c r) d).loadSt != stOK) with
          | some r =>
            let st := (s.drw (s.rankEng c r) d).loadSt
            let s := rs.foldl (fun s r => s.modDrw (s.rankEng c r) d (fun w => { w with loadSt := stOK })) s
            s.endJob c x st 0 r 0
          | none =>
            let s := rs.foldl (fun s r =>
              let k := s.rankEng c r
              (((s.modDrw k d (fun w => w.startJob j)).modEng k (fun e => { e with jobQct := j.qct })).takeEffect R.TE_CTRL k.val).takeEffect
                R.TE_CHK_TOL k.val) s
            let s := s.modCtx c x (fun t => { t with started := true, ranks := t.ranks.map (fun r =>
              { r with dets := 0, net0 := [], net1 := [] }) })
            let (s, st) := rs.foldl (fun (acc : State × Nat) r =>
              let k := s.rankEng c r
              let (s, st) := acc.1.checkpoint k d c x r ((s.drw k d).pc) 0xFFFF true
              (s, firstBad acc.2 st)) (s, stOK)
            if st ≠ stOK then s.endJob c x (if isDetect st then stMEM_DETECT else st) 0 0 0
            else rs.foldl (fun s r => s.modDrw (s.rankEng c r) d (fun w => { w with jobOn := true })) s
      | _, _ => s

/-! ### The cyclic table -/

/-- The entries of a cyclic table's bytes: offset and descriptor address (09 R269). -/
def ctEntries (n : Nat) (l : List Byte) : List (Nat × Nat) :=
  (List.range n).map (fun i => (fieldAt l (16 * i) 4, fieldAt l (16 * i + 8) 8))

/-- Whether the offsets of a table are strictly ascending (09 R270). -/
def ascending (l : List (Nat × Nat)) : Bool := rising (l.map (fun e => e.1))

/-- A cyclic table read and checked at the first pulse after ADDR or ENTRIES takes effect (09 R270); one that fails is
reported and the previous table kept. -/
def State.readTable (s : State) (c : CabId) : State :=
  let s := s.takeEffect R.SCH_CAB_CT c.val
  let a := s.rdE F.SCH_CAB_CT_ADDR c.val
  let n := s.rdE F.SCH_CAB_CT_ENTRIES c.val
  if !(s.cab c).tableNew then s
  else
    let s := s.modCab c (fun b => { b with tableNew := false })
    if n = 0 then s.modCab c (fun b => { b with table := [], due := [] })
    else
      let (s, q) := s.cabRead .sch c a (16 * n)
      let es := ctEntries n q.data
      let (s, ok) := es.foldl (fun (acc : State × Bool) e =>
        let (s, j) := acc.1.cabRead .sch c e.2 64
        let x := fieldAt j.data 0 1
        (s, acc.2 && j.st == stOK && decide (x < 72) && (s.ctx? c (ctxId x)).isSome)) (s, q.st == stOK && ascending es)
      if ok then s.modCab c (fun b => { b with table := es, due := [] })
      else s.postCab c 7 0xFF 0 a 0

/-- A pulse of timed pulse `n` at MTU time `p` opens a round of every reserved cabinet it triggers (09 R269, R270). -/
def State.openRounds (s : State) (n p : Nat) : State :=
  (List.finRange 8).foldl (fun s c =>
    let b := s.cab c
    if b.live && s.flag F.SCH_CAB_CFG_KIND c.val && s.flag F.SCH_CAB_CFG_EN c.val && s.rd F.SCH_CAB_CT_TRIG c.val == n then
      let s := s.readTable c
      s.modCab c (fun b => { b with due := b.due ++ (List.range b.table.length).map (fun i =>
        (i, p + 1000 * (match b.table[i]? with | some e => e.1 | none => 0))) })
    else s) s

/-- The opened firing of entry `i` whose MTU time has come (09 R269). -/
def State.ctDue (s : State) (c : CabId) (i : Nat) : Option (Nat × Nat) :=
  (s.cab c).due.find? (fun e => e.1 == i && decide (e.2 ≤ s.stamp))

/-- The context that holds a job of an earlier firing of entry `i`, queued or running (09 R271). -/
def State.ctHolder (s : State) (c : CabId) (i : Nat) : Option CtxId :=
  (List.finRange 72).find? (fun x => match s.ctx? c x with
    | some t => t.jobs.any (fun j => j.fired == some i)
    | none => false)

/-- CT_ENTRY_FIRE: an entry whose round a pulse has opened fires at its time (09 R269, R271, R288); one that falls due while the cabinet is
remapped submits nothing and counts as an overrun (10 R312). -/
def State.ctFire (s : State) (c : CabId) (i : Nat) : State :=
  let b := s.cab c
  match b.table[i]?, s.ctDue c i with
  | some (_, a), some e =>
      let s := s.modCab c (fun b => { b with due := b.due.erase e })
      if b.stopped then s
      else if (s.ctHolder c i).isSome ∨ b.lost ≠ [] then
        s.deadlineLog c (match s.ctHolder c i with | some x => x.val | none => 0) 2 a
      else
        let (s, st, _) := s.submit c a (some i)
        if st ≠ csOK then s.postCab c 7 0xFF st (s.rdE F.SCH_CAB_CT_ADDR c.val) 0
        else
          let (s, q) := s.cabRead .sch c a 64
          let dl := fieldAt q.data 8 4
          let s := s.modCab c (fun b => { b with
            windows := if dl = 0 then b.windows else (s.itu + 400 * dl) :: b.windows })
          s.evictLog c
  | _, _ => s

/-- Whether a job has not ended by its origin plus DEADLINE, and that is not logged yet (09 R284). -/
def State.overdue (s : State) (j : Job) : Bool :=
  j.deadline != 0 && !j.missed && decide (j.origin + 400 * j.deadline ≤ s.itu)

/-- DEADLINE_MISS: a job of a context has not ended by its origin plus DEADLINE (09 R284). -/
def State.deadlineMiss (s : State) (c : CabId) (x : CtxId) : State :=
  match s.ctx? c x with
  | none => s
  | some t => match t.jobs.find? (fun j => s.overdue j) with
    | none => s
    | some j =>
      if (s.cab c).stopped then s
      else (s.modCtx c x (fun t => { t with jobs := t.jobs.map (fun q => if q = j then { q with missed := true } else q) })).deadlineLog
        c x.val 0 j.addr

end Sys2Proof.Machine
end

