-- ==== Sys2Proof/Machine/Array.lean ====
section
/-! DEFINITION. The Tensor Array: MMA, CONV, DWCONV and POOL (02 R32-R44, R652; 03 R62-R73; 05 R139-R150;
06 R173-R182). A unit of work is one step; for POOL one output tile, its sub-pass (06 R181). -/

namespace Sys2Proof.Machine

/-- The default codebook (03 R68). -/
def defaultBook : List Nat := [0, 5, 12, 20, 33, 48, 68, 96, 128, 251, 244, 236, 223, 208, 188, 160]

/-- The two-bit rule of 03 R66 on one level: at most two bits set in the absolute value. -/
def twoBit (v : Nat) : Bool :=
  let m := (sext 8 v).natAbs
  decide (((List.range 8).filter (fun i => bit m i)).length ≤ 2)

/-- Everything a step needs of an Array instruction. -/
structure ArrShape where
  i : Ins
  a : Desc
  b : Desc
  v : Window
  kind : Kind
  ks : Nat
  /-- rows (M or P), columns (N), reduction length of one tap, taps -/
  rows : Nat
  cols : Nat
  kk : Nat
  taps : Nat
  book : List Nat
  fill : Nat
  deriving DecidableEq, Repr

/-- The shape of an MMA, CONV or DWCONV (05 R139, R140, R145; 06 R173, R179). -/
def arrShape (w : Drawer) (i : Ins) (book : List Nat) : ArrShape :=
  let a := w.desc i.srca
  let b := w.desc i.srcb
  let v := windowOf i a b
  let (kind, ks) := (pairOf a.fmt b.fmt).getD (.int, 32)
  let fill := bits i.mod 1 0
  match i.opc with
  | 0x20 => { i, a, b, v, kind, ks, rows := a.d1, cols := b.d1, kk := a.d0, taps := 1, book, fill }
  | 0x21 => { i, a, b, v, kind, ks, rows := v.oh * v.ow, cols := b.d3, kk := a.d0, taps := v.kh * v.kw, book, fill }
  | _ => { i, a, b, v, kind, ks, rows := v.oh * v.ow, cols := a.d0, kk := v.kh * v.kw, taps := 1, book, fill }

/-- Row tiles, column tiles, and K-slices of a tap. -/
def ArrShape.nt (h : ArrShape) : Nat := cdiv h.rows 32
def ArrShape.ct (h : ArrShape) : Nat := cdiv h.cols 32
def ArrShape.sl (h : ArrShape) : Nat := if h.i.opc = 0x22 then cdiv h.kk 32 else cdiv h.kk h.ks

/-- The number of steps (05 R150). -/
def ArrShape.steps (h : ArrShape) : Nat := h.nt * h.ct * h.taps * h.sl

/-- Step n as (j, tap, slice, i) in the order of 06 R177 and R179; an MMA walks as a CONV of one tap (02 R34). -/
def ArrShape.at (h : ArrShape) (n : Nat) : Nat × Nat × Nat × Nat :=
  let per := h.taps * h.sl * h.nt
  let r := n % per
  (n / per, r / (h.sl * h.nt), r % (h.sl * h.nt) / h.nt, r % h.nt)

/-- The activation element that output position p takes at tap (kh, kw) and channel c (06 R176): an offset of
the input, or none where the tap is padded and no element is read. -/
def Window.tap (v : Window) (fill : Nat) (ow p kh kw : Nat) : Option (Nat × Nat) × Bool :=
  let y : Int := ((p / ow * v.sy + kh * v.dy : Nat) : Int) - v.pt
  let x : Int := ((p % ow * v.sx + kw * v.dx : Nat) : Int) - v.pl
  let inside := decide (0 ≤ y) && decide (y < v.h) && decide (0 ≤ x) && decide (x < v.w)
  if inside then (some (y.toNat, x.toNat), true)
  else if fill = 1 then (some (min y.toNat (v.h - 1), min x.toNat (v.w - 1)), false)
  else (none, false)

/-- The offset and, for padding, the fill value of activation (row, k) of a step: an element offset in the
window, or raw bits. -/
def ArrShape.act (h : ArrShape) (row tap kidx : Nat) : Nat ⊕ Nat :=
  match h.i.opc with
  | 0x20 => .inl (h.a.off kidx row 0 0)
  | 0x21 =>
    match (h.v.tap h.fill h.v.ow row (tap / h.v.kw) (tap % h.v.kw)).1 with
    | some (y, x) => .inl (h.a.off kidx x y 0)
    | none => .inr (if h.fill = 2 then h.a.sel % 2 ^ (8 * esize h.a.fmt) else 0)
  | _ => .inl (h.a.off kidx row 0 0)

/-- The same for DWCONV, where k is the tap and the channel is the column (06 R179). -/
def ArrShape.actDw (h : ArrShape) (row col tap : Nat) : Nat ⊕ Nat :=
  match (h.v.tap h.fill h.v.ow row (tap / h.v.kw) (tap % h.v.kw)).1 with
  | some (y, x) => .inl (h.a.off col x y 0)
  | none => .inr (if h.fill = 2 then h.a.sel % 2 ^ (8 * esize h.a.fmt) else 0)

/-- The weight element of (k, tap, column): offsets by 05 R139, R145 and 06 R179. -/
def ArrShape.wgt (h : ArrShape) (kidx tap col : Nat) : Nat × Nat :=
  match h.i.opc with
  | 0x20 => (h.b.off kidx col 0 0, kidx)
  | 0x21 => (h.b.off kidx (tap % h.v.kw) (tap / h.v.kw) col, kidx)
  | _ => (h.b.off col (kidx % h.v.kw) (kidx / h.v.kw) 0, col)

/-- The raw bits of an activation. -/
def State.actBits (s : State) (k : EngineId) (d : Fin 8) (h : ArrShape) : Nat ⊕ Nat → Nat
  | .inl off => s.lmNat k d off (esize h.a.fmt)
  | .inr v => v

/-- The signed level of an integer weight (02 R33, 03 R65-R68). -/
def State.wgtInt (s : State) (k : EngineId) (d : Fin 8) (h : ArrShape) (w : Nat × Nat) : Int :=
  let v := s.lmNat k d w.1 1
  if h.b.fmt = 1 then sext 8 (nth 0 h.book (if w.2 % 2 = 0 then bits v 3 0 else bits v 7 4)) else sext 8 v

/-- The lanes of step (j, tap, slice): the k indices it covers, masked at the reduction length (02 R35). -/
def ArrShape.lanes (h : ArrShape) (slice : Nat) : List Nat :=
  let ks := if h.i.opc = 0x22 then 32 else h.ks
  ((List.range ks).map (fun l => slice * ks + l)).filter (fun x => decide (x < h.kk))

/-- Whether a step has a masked lane, which contributes zero (02 R35). -/
def ArrShape.masked (h : ArrShape) (slice : Nat) : Bool :=
  let ks := if h.i.opc = 0x22 then 32 else h.ks
  decide (h.kk < slice * ks + ks)

/-- The tile of weights of step (j, tap, slice) that the Weight Register takes from Local Memory (02 R34): one number for each
column and lane, an integer level as 32 bits, else the raw bits. -/
def State.wgtTile (s : State) (k : EngineId) (d : Fin 8) (h : ArrShape) (j tap slice : Nat) : List Nat :=
  ((List.range 32).filter (fun c => decide (32 * j + c < h.cols))).flatMap (fun c => (h.lanes slice).map (fun x =>
    if h.kind = .int then toU 32 (s.wgtInt k d h (h.wgt x tap (32 * j + c)))
    else s.lmNat k d (h.wgt x tap (32 * j + c)).1 (esize h.b.fmt)))

/-- The weight of column `c` of its tile and k index `x` in a Weight Register. -/
def ArrShape.held (h : ArrShape) (tile : List Nat) (slice c x : Nat) : Nat :=
  nth 0 tile (c * (h.lanes slice).length + (x - slice * (if h.i.opc = 0x22 then 32 else h.ks)))

/-- The activation of a lane for DPU (row, col). -/
def ArrShape.actOf (h : ArrShape) (row col tap x : Nat) : Nat ⊕ Nat :=
  if h.i.opc = 0x22 then h.actDw row col x else h.act row tap x

/-- The accumulator element after one step of one DPU on the weights of the register `tile` (02 R34; 03 R62, R72, R73). -/
def State.dpu (s : State) (k : EngineId) (d : Fin 8) (h : ArrShape) (tile : List Nat) (cur row col tap slice : Nat) : Nat :=
  let ls := h.lanes slice
  if h.kind = .int then
    let z := ls.foldl (fun (z : Int) x =>
      z + sext 8 (s.actBits k d h (h.actOf row col tap x)) * sext 32 (h.held tile slice (col % 32) x)) 0
    toU 32 (sext 32 cur + z)
  else
    let ps := ls.map (fun x =>
      (fvOf h.a.fmt (s.actBits k d h (h.actOf row col tap x))).mul (fvOf h.b.fmt (h.held tile slice (col % 32) x)))
    (fvSum (fvF32 cur :: ps ++ (if h.masked slice then [.fin false 0] else []))).toF32

/-- The checksum element c of a k index (05 R142). -/
def State.ckElem (s : State) (k : EngineId) (d : Fin 8) (t : Desc) (idx j : Nat) : Nat :=
  s.lmNat k d (t.off idx j 0 0) (esize t.fmt)

/-- A check sum after one step (02 R41). -/
def State.ckStep (s : State) (k : EngineId) (d : Fin 8) (h : ArrShape) (ct : Desc) (cur row j tap slice : Nat) : Nat :=
  let ls := h.lanes slice
  let ix := fun x => tap * h.kk + x
  if h.kind = .int then
    let z := ls.foldl (fun (z : Int) x =>
      z + sext 8 (s.actBits k d h (h.act row tap x)) * sext 16 (s.ckElem k d ct (ix x) j)) 0
    toU 32 (sext 32 cur + z)
  else
    let ps := ls.map (fun x => (fvOf h.a.fmt (s.actBits k d h (h.act row tap x))).mul (fvF32 (s.ckElem k d ct (ix x) j)))
    (fvSum (fvF32 cur :: ps ++ (if h.masked slice then [.fin false 0] else []))).toF32

/-- The row sum of a set (02 R41): INT modulo 2^32; FP the exact sum rounded once (notes/assumptions/12.md). -/
def State.rowSum (s : State) (k : EngineId) (d : Fin 8) (kind : Kind) (a m : Nat) : Nat :=
  if kind = .int then toU 32 (sumTo 32 (fun n => sext 32 (s.acc k d a m n)))
  else (fvSum ((List.range 32).map (fun n => fvF32 (s.acc k d a m n)))).toF32

/-- Whether any element of a set fails its parity (02 R37). -/
def State.setBad (s : State) (k : EngineId) (d : Fin 8) (a : Nat) : Bool :=
  (List.range 1024).any (fun x => s.accBad k d a (x / 32) (x % 32))

/-- The FP comparison within the programmed tolerance, evaluated exactly (10 R299). -/
def fpAgree (rel abs a b : Nat) : Bool :=
  match fvF32 a, fvF32 b with
  | .nan, .nan => true
  | .inf x, .inf y => x == y
  | .fin x m, .fin y n =>
    let df := ((FV.fin x m).units - (FV.fin y n).units).natAbs
    let f := if abs = 0 then 0 else 2 ^ (abs + 173)
    decide (df * 2 ^ rel ≤ max m n + f * 2 ^ rel)
  | _, _ => false

/-- The comparison of every set of an instruction (02 R41, R42; 10 R299): whether all agree. -/
def State.checkCompare (s : State) (k : EngineId) (d : Fin 8) (kind : Kind) (first nsets : Nat) (chk : List Nat) : Bool :=
  let rel := s.rdE F.TE_CHK_TOL_REL_EXP k.val
  let abs := s.rdE F.TE_CHK_TOL_ABS_EXP k.val
  (List.range (nsets * 32)).all (fun x =>
    let a := nth 0 chk x
    let b := s.rowSum k d kind (first + x / 32) (x % 32)
    if kind = .int then a == b else fpAgree rel abs a b)

/-- The start of an Array instruction with accumulators: the checks of 02 R652 in order, then CLEAR and the
tags (05 R141), the codebook's copy (03 R69) and the seeding (02 R41). -/
def arrStart (s : State) (k : EngineId) (d : Fin 8) (e : Nat) (i : Ins) : UnitRes :=
  let w := s.drw k d
  let b := w.desc i.srcb
  let clear := bit i.mod 2
  let kind := ((pairOf (w.desc i.srca).fmt b.fmt).getD (.int, 32)).1
  let sets := i.dst.sets
  let cust := b.fmt = 1 ∧ b.sel ≠ 0
  let book := if cust then (List.range 16).map (fun x => s.lmNat k d (16 * b.sel + x) 1) else defaultBook
  let run := checkRuns s k i && i.opc != 0x22
  if !clear && sets.any (fun a => w.tag a != kind) then (s, some stILLEGAL_OPERAND)
  else if cust ∧ s.lmBad k d [16 * b.sel] 16 then (s, some stLM_DETECT)
  else if cust ∧ !(book.all twoBit) then (s, some stILLEGAL_OPERAND)
  else if run && !clear && sets.any (fun a => s.setBad k d a) then (s.scrambleSets k d sets, some stACC_DETECT)
  else
    let s1 := if clear then
        sets.foldl (fun s a => ({ s with mem := s.mem.wipe (accAddr k d.val a 0 0) 4096 } : State).modDrw k d
          (fun w => w.setTag a kind)) s
      else s
    let chk := if run then (List.range (sets.length * 32)).map (fun x => s1.rowSum k d kind (i.dst.first + x / 32) (x % 32)) else []
    (s1.modEnt k d e (fun t => { t with acc := book, chk := chk }), none)

/-- One step of an MMA, CONV or DWCONV (02 R33, R34, R37, R41, R43, R44; 06 R177, R179). The Weight Register takes its tile at the
first step of a K-slice, or of what a resumed instruction has left of one, and its codes are checked there
(notes/assumptions/127.md). Rows and columns at or beyond the shape are neither read nor written, and a step that meets both a
Local Memory code failure and a parity failure ends in LM_DETECT (notes/assumptions/128.md). While the check DPUs run, a DWCONV
compares row `n mod 32` of the tile with its duplicate. -/
def arrUnit (s : State) (k : EngineId) (d : Fin 8) (e : Nat) (i : Ins) (n : Nat) : UnitRes :=
  let w := s.drw k d
  match w.sb[e]? with
  | none => (s, none)
  | some ent =>
    let h := arrShape w i ent.acc
    let (j, tap, slice, it) := h.at n
    let set := i.dst.first + it * h.ct + j
    let rows := (List.range 32).filter (fun m => decide (32 * it + m < h.rows))
    let cols := (List.range 32).filter (fun c => decide (32 * j + c < h.cols))
    let ls := h.lanes slice
    let ct := Desc.of (w.rdT (bits i.mod 7 3))
    let offs := rows.flatMap (fun m => cols.flatMap (fun c => ls.filterMap (fun x =>
      match h.actOf (32 * it + m) (32 * j + c) tap x with
      | .inl o => some o
      | .inr _ => none)))
    let load := decide (it = 0) || ent.wts.isEmpty
    let tile := if load then s.wgtTile k d h j tap slice else ent.wts
    let woffs := if !load then [] else cols.flatMap (fun c => ls.map (fun x => (h.wgt x tap (32 * j + c)).1))
    let coffs := if ent.chk = [] then [] else ls.map (fun x => ct.off (tap * h.kk + x) j 0 0)
    if s.lmBad k d offs (esize h.a.fmt) || s.lmBad k d woffs (esize h.b.fmt) || s.lmBad k d coffs (esize ct.fmt) then
      (s.scrambleSets k d i.dst.sets, some stLM_DETECT)
    else if rows.any (fun m => cols.any (fun c => s.accBad k d set m c)) then
      (s.scrambleSets k d i.dst.sets, some stACC_DETECT)
    else
      let s1 := rows.foldl (fun t m => cols.foldl (fun t c =>
        t.accW k d set m c (s.dpu k d h tile (s.acc k d set m c) (32 * it + m) (32 * j + c) tap slice)) t) s
      let dup := n % 32
      let differs := checkRuns s k i && i.opc == 0x22 && rows.contains dup && cols.any (fun c =>
        s1.acc k d set dup c != s.dpu k d h tile (s.acc k d set dup c) (32 * it + dup) (32 * j + c) tap slice % 2 ^ 32)
      let q := (it * h.ct + j) * 32
      let chk := if ent.chk = [] then [] else
        (List.range ent.chk.length).map (fun x =>
          let v := nth 0 ent.chk x
          if q ≤ x ∧ x < q + 32 ∧ 32 * it + (x - q) < h.rows then s.ckStep k d h ct v (32 * it + (x - q)) j tap slice else v)
      if differs then (s1.scrambleSets k d i.dst.sets, some stCHECK_FAIL)
      else (s1.modEnt k d e (fun t => { t with chk := chk, wts := tile }), none)

/-- The boundary of a sub-pass, and the end of the instruction (02 R39, R41, R44): the check comparison; a
failure ends the instruction with CHECK_FAIL, its sets undefined. -/
def arrBoundary (s : State) (k : EngineId) (d : Fin 8) (e : Nat) (i : Ins) : UnitRes :=
  let w := s.drw k d
  match w.sb[e]? with
  | none => (s, none)
  | some ent =>
    if ent.chk = [] then (s, none)
    else
      let kind := ((pairOf (w.desc i.srca).fmt (w.desc i.srcb).fmt).getD (.int, 32)).1
      if i.dst.sets.any (fun a => s.setBad k d a) then (s.scrambleSets k d i.dst.sets, some stACC_DETECT)
      else if s.checkCompare k d kind i.dst.first i.dst.nsets ent.chk then (s, none)
      else (s.scrambleSets k d i.dst.sets, some stCHECK_FAIL)

/-- The number of tiles of a POOL. -/
def poolTotal (w : Drawer) (i : Ins) : Nat :=
  let a := w.desc i.srca
  let v := windowOf i a (w.desc i.srcb)
  cdiv (v.oh * v.ow) 32 * cdiv a.d0 32

/-- The taps of output (p, c) of a POOL: raw bits, and whether the tap lies inside the image; an offset where
one is read. -/
def poolTaps (a : Desc) (v : Window) (fill p c : Nat) : List ((Nat ⊕ Nat) × Bool) :=
  (List.range (v.kh * v.kw)).map (fun t =>
    match v.tap fill v.ow p (t / v.kw) (t % v.kw) with
    | (some (y, x), b) => (.inl (a.off c x y 0), b)
    | (none, b) => (.inr (if fill = 2 then a.sel % 2 ^ (8 * esize a.fmt) else 0), b))

/-- Division rounded to nearest, ties away from zero (05 R149). -/
def divAway (z : Int) (n : Nat) : Int :=
  let q := ((2 * z.natAbs + n) / (2 * n) : Nat)
  if z < 0 then -(q : Int) else q

/-- One result of a POOL from its taps (05 R149; 06 R182; 03 R72-R74): `vs` are the taps' raw bits, `ins`
whether each lies in the image. -/
def poolVal (fmt : Nat) (avg avgPad : Bool) (vs : List Nat) (ins : List Bool) : Nat :=
  let used := if avg && !avgPad then ((vs.zip ins).filter (fun p => p.2)).map (fun p => p.1) else vs
  let div := if avgPad then vs.length else (ins.filter (fun b => b)).length
  if fmt = 0 then
    let zs := used.map (fun v => sext 8 v)
    if avg then (if div = 0 then 0 else toU 8 (divAway (zs.foldl (fun a b => a + b) 0) div))
    else toU 8 (zs.foldl (fun a b => max a b) (-128))
  else
    let fs := used.map (fun v => fvOf fmt v)
    if avg then
      if div = 0 then f32To fmt 0
      else
        -- one rounding per step of 32 taps (03 R72)
        let acc := (List.range (cdiv vs.length 32)).foldl (fun a t =>
          let part := ((((vs.zip ins).drop (32 * t)).take 32).filter (fun p => avgPad || p.2)).map (fun p => fvOf fmt p.1)
          let msk := decide (part.length < 32)
          (fvSum (fvF32 a :: part ++ (if msk then [.fin false 0] else []))).toF32) 0
        f32To fmt (FV.divF32 (fvF32 acc) (.fin false (div <<< 300)))
    else
      let m := match fs with
        | [] => FV.fin false 0
        | f :: r => if fs.any (fun x => x == FV.nan) then FV.nan else r.foldl (fun a b => if a.ltz b then b else a) f
      f32To fmt m.toF32

/-- Tap steps of a tile of a POOL (06 R181). -/
def poolSteps (v : Window) : Nat := cdiv (v.kh * v.kw) 32

/-- The rows of a tile that check DPUs duplicate in the steps of tile `n` of a POOL: row s mod 32 in step s (02 R43). -/
def poolDups (v : Window) (n : Nat) : List Nat := (List.range (poolSteps v)).map (fun t => (n * poolSteps v + t) % 32)

/-- One tile of a POOL (06 R180-R182): every line is read that a tap or the clamped element of a padded tap lies in. While the
check DPUs run, the rows they duplicate are compared exactly (02 R43, R44). -/
def poolUnit (s : State) (k : EngineId) (d : Fin 8) (i : Ins) (n : Nat) : UnitRes :=
  let w := s.drw k d
  let a := w.desc i.srca
  let t := w.desc i.dst
  let v := windowOf i a (w.desc i.srcb)
  let P := v.oh * v.ow
  let nt := cdiv P 32
  let (j, it) := (n / nt, n % nt)
  let avg := bit i.mod 2
  let pad := bit i.mod 3
  let fill := bits i.mod 1 0
  let ps := ((List.range 32).map (fun m => 32 * it + m)).filter (fun p => decide (p < P))
  let cs := ((List.range 32).map (fun c => 32 * j + c)).filter (fun c => decide (c < a.d0))
  let offs := ps.flatMap (fun p => cs.flatMap (fun c => (poolTaps a v fill p c).filterMap (fun x =>
    match x.1 with
    | .inl o => some o
    | .inr _ => none)))
  if s.lmBad k d offs (esize a.fmt) then
    (s.scrambleDesc k d t, some stLM_DETECT)
  else
    let val := fun p c =>
      let taps := poolTaps a v fill p c
      let raw := taps.map (fun x => match x.1 with | .inl o => s.lmNat k d o (esize a.fmt) | .inr y => y)
      poolVal a.fmt avg pad raw (taps.map (fun x => x.2))
    let bytes := fun p c => elemBytes (t.off c (p % v.ow) (p / v.ow) 0) t.fmt (val p c)
    let ws := ps.flatMap (fun p => cs.flatMap (bytes p))
    let (s1, bad) := s.lmStore k d ws
    let differs := checkRuns s k i && (poolDups v n).any (fun m =>
      decide (32 * it + m < P) && cs.any (fun c => (bytes (32 * it + m) c).any (fun b => !ws.contains b)))
    if differs then (s1.scrambleDesc k d t, some stCHECK_FAIL) else (s1, if bad then noteLM else none)

end Sys2Proof.Machine
end

