-- ==== Sys2Proof/Machine/Integrity.lean ====
section
/-! DEFINITION. Detections, recovery, fences, remapping and patrols (04 R111, R113; 10 R301-R317), LM_INIT (02 R47) and the
stop of an engine (02 R57). -/

namespace Sys2Proof.Machine

/-! ### The end of a drain (04 R105, R111; 10 R307) -/

/-- An engine-internal detection (10 R307). -/
def internalDet (st : Nat) : Bool := st == stLM_DETECT || st == stACC_DETECT || st == stIB_DETECT || st == stCHECK_FAIL

/-- The ranks of a context whose drawer has faulted, with their fault records. -/
def State.faultedRanks (s : State) (c : CabId) (d : Fin 8) : List (Nat × FaultRec) :=
  (s.ranksOf c).filterMap (fun r =>
    let w := s.drw (s.rankEng c r) d
    if w.faulting then w.fault.map (fun f => (r, f)) else none)

/-- The detections of a drain set their TE_ERR bits at its end (04 R111 step 4; 02 R37, R44, R46, R53, R59). -/
def State.raiseDets (s : State) (k : EngineId) (d : Fin 8) : State :=
  ((s.drw k d).drainDets.foldl (fun s st => match teErrOf st with | some b => s.teErr k b | none => s) s).modDrw k d
    (fun w => { w with drainDets := [] })

/-- The detection of a rank counted and reported (10 R307, R309). -/
def State.countDetection (s : State) (c : CabId) (x : CtxId) (r : Nat) (f : FaultRec) : State :=
  let s := s.modCtx c x (fun t => { t with ranks := modAt (fun q => { q with dets := q.dets + 1 }) r t.ranks })
  let n := match s.ctx? c x with | some t => (nth freshRank t.ranks r).dets | none => 0
  s.integrity (s.rankEng c r) c x.val f.status f.word n

/-- Count of detections of a rank. -/
def State.dets (s : State) (c : CabId) (x : CtxId) (r : Nat) : Nat :=
  match s.ctx? c x with | some t => (nth freshRank t.ranks r).dets | none => 0

/-- The outcome of a detection that is not recovered from (10 R307, R309): reported, and the job ends with it once every rank is at
rest. -/
def State.outcome (s : State) (c : CabId) (x : CtxId) (r st word : Nat) : State :=
  (s.integrity (s.rankEng c r) c x.val st word (s.dets c x r)).endAfter c x st 0 r word

/-- The outcome once every faulting rank of a context has drained (04 R111; 10 R303, R307): a program error ends the job,
of the lowest such rank; else a third engine-internal detection fences its engine, a third shared one ends the job, a
detection without a common checkpoint ends the job, and any other is recovered from. The other ranks drain before the job ends. -/
def State.resolveFaults (s : State) (c : CabId) (x : CtxId) (d : Fin 8) : State :=
  let fs := s.faultedRanks c d
  if fs = [] ∨ fs.any (fun p => !s.isDrained (s.rankEng c p.1)) then s
  else
    let s := fs.foldl (fun s p => if isDetect p.2.status then s.countDetection c x p.1 p.2 else s) s
    let s := fs.foldl (fun s p => s.modDrw (s.rankEng c p.1) d (fun w => { w with faulting := false })) s
    match fs.find? (fun p => isProgErr p.2.status) with
    | some p => s.endAfter c x p.2.status 0 p.1 p.2.word
    | none =>
      let third := fs.filter (fun p => decide (3 ≤ s.dets c x p.1))
      let inner := third.filter (fun p => internalDet p.2.status)
      match inner, third with
      | p :: _, _ =>
        let s := inner.foldl (fun s p => s.modEng (s.rankEng c p.1) (fun e => { e with fencePending := true })) s
        s.outcome c x p.1 stFENCED p.2.word
      | [], p :: _ => s.outcome c x p.1 p.2.status p.2.word
      | [], [] =>
        match s.ctx? c x, fs with
        | some t, p :: _ =>
          if t.recovering ∨ t.ending.isSome then s
          else if t.commonSeq.isNone then s.outcome c x p.1 p.2.status p.2.word
          else s.modCtx c x (fun t => { t with recovering := true })
        | _, _ => s

/-- Every running MMA, CONV and DWCONV of a drawer at its sub-pass boundary: the check comparison is made, and one that fails ends
its instruction (02 R39, R41, R43, R44). -/
def State.arrSettle (s : State) (k : EngineId) (d : Fin 8) : State :=
  (List.range (s.drw k d).sb.length).foldl (fun s e =>
    match (s.drw k d).sb[e]? with
    | none => s
    | some t =>
      let i := Ins.of t.iw
      if t.st = .running ∧ (i.opc = 0x20 ∨ i.opc = 0x21 ∨ i.opc = 0x22) then
        match arrBoundary s k d e i with
        | (s, some st) => s.setDone k d e st
        | (s, none) => s
      else s) s

/-- DRAIN_END: a drain ends once nothing of the drawer runs (04 R105 steps 4 and 5), an Array instruction at a sub-pass boundary (04
R106); the detections set their bits, queue credits return (08 R251), a fault is dealt with (04 R111), a drain for TE_CTRL.RUN
leaves the engine STOPPED (02 R57, R58), and an end that waits for the drains of a context may come (09 R282). -/
def State.drainEnd (s : State) (k : EngineId) : State :=
  match (s.eng k).active with
  | none => s
  | some d =>
    let still := fun (s : State) => (s.drw k d).quiet (wholeRows (s.drw k d))
    if (s.eng k).st ≠ .draining ∨ (s.eng k).drained ∨ !still s then s
    else
      let s := s.arrSettle k d
      if !still s then s
      else
        let why := (s.eng k).why
        let s := (s.suspendAll k).raiseDets k d
        let s := if why = some .patrol ∨ why = some .stop then s else s.returnCredits k d
        let w := s.drw k d
        if !w.faulting then
          let s := if why = some .stop then s.undrain k else s
          match w.ctx with
          | some (c, x) => s.tryEnd c x
          | none => s
        else
          let s := s.modEng k (fun e => { e with why := if why = some .recovery then why else some .fault })
          match w.ctx with
          | some (c, x) => (s.resolveFaults c x d).tryEnd c x
          | none => match w.fault with
            | some f => s.ieEnd f.status
            | none => s

/-! ### Recovery (10 R304, R305) -/

/-- The slot of a rank that holds a sequence number: whether it is the second, and the slot. -/
def RankRec.slotOf (r : RankRec) (n : Nat) : Option (Bool × CkSlot) :=
  match r.slot0, r.slot1 with
  | some z, _ => if z.seq = n then some (false, z) else
      match r.slot1 with | some y => if y.seq = n then some (true, y) else none | none => none
  | none, some y => if y.seq = n then some (true, y) else none
  | none, none => none

/-- The positive net counts of a rank since a slot's checkpoint (10 R305). -/
def RankRec.netOf (r : RankRec) (second : Bool) : List (Nat × Int) :=
  (if second then r.net1 else r.net0).filter (fun h => decide (0 < h.2))

/-- A list of net counts less the positive counts of another (notes/assumptions/30.md). -/
def subNet (l m : List (Nat × Int)) : List (Nat × Int) := m.foldl (fun l h => addNet h.1 (-h.2) l) l

/-- A rank's record after a recovery to a slot: only that slot's checkpoint and older ones remain. -/
def RankRec.recovered (r : RankRec) (second : Bool) (n : Nat) : RankRec :=
  let keep := fun (o : Option CkSlot) => o.bind (fun z => if z.seq ≤ n then some z else none)
  let p := r.netOf second
  { r with slot0 := keep r.slot0, slot1 := keep r.slot1, nextSeq := n + 1
           net0 := if second then subNet r.net0 p else []
           net1 := if second then [] else subNet r.net1 p }

/-- The endpoints of a drawer re-armed (10 R304 step 4). -/
def Drawer.rearm (w : Drawer) : Drawer :=
  (List.range 8).foldl (fun w j =>
    let e := w.rdE j
    if !epBound e then w
    else if epRecv e then w.wrE j (epSetHead 0 (epSetCount 0 e))
    else w.wrE j (epSetCount (if epQueueKind e then 0 else 64) e)) w

/-- One rank restored from a slot (10 R304 steps 2 to 4): its image, with the resume index as its next-issue word, and its sets. -/
def State.restoreSlot (s : State) (c : CabId) (x : CtxId) (d : Fin 8) (r : Nat) (base : Nat) (z : CkSlot) : State × Nat :=
  let k := s.rankEng c r
  let w := s.drw k d
  let s := (s.returnCredits k d).emptyDrw k d
  let kept : Drawer := { emptyDrawer with
    ctx := some (c, x)
    rank := r
    loaded := w.loaded
    entry := w.entry
    tags := Vector.ofFn (fun (i : Fin 8) => nth .empty z.tags i.val)
    seq := w.seq }
  let (s, st) := s.readImage k d c base kept
  (s.modDrw k d (fun w =>
    let w := w.rearm
    { w with
      live := w.ringPages.foldl (fun m p => m ||| BitVec.ofNat 256 (2 ^ p)) 0
      fault := none
      prev := w.pc
      jobOn := true }), st)

/-- The lock counts taken since the restored checkpoint added back, and waiters ended (10 R305; 09 R282). -/
def State.addBackNet (s : State) (c : CabId) (x : CtxId) (sums : List (Nat × Int)) : State :=
  let s := s.endWaiters c (sums.map (fun h => h.1)) x
  sums.foldl (fun s h => (s.addBack c h.1 h.2.toNat).modCtx c x (fun t => t.hold h.1 (-h.2))) s

/-- Whether a rank of a context stands drained, or held by TE_CTRL.RUN. -/
def State.atRest (s : State) (c : CabId) (r : Nat) : Bool := s.isDrained (s.rankEng c r) || (s.eng (s.rankEng c r)).held.isSome

/-- RECOVERY: the context restored from its last common checkpoint on every rank, once every rank has drained and no flit or credit
of it is under way (08 R237; 10 R303-R305, R309). -/
def State.recover (s : State) (c : CabId) : State :=
  match (s.cab c).act with
  | none => s
  | some x => match s.ctx? c x with
    | none => s
    | some t => match t.drawer, t.commonSeq, t.jobs with
      | some d, some n, j :: _ =>
        let rs := s.ranksOf c
        if !t.recovering ∨ t.ending.isSome ∨ t.st = .aborting ∨ !(rs.all (s.atRest c)) ∨ s.inTransit c x then s
        else
          let report := fun (s : State) => rs.foldl (fun s r =>
            match (t.drawer.bind (fun d => (s.drw (s.rankEng c r) d).fault)) with
            | some f => s.integrity (s.rankEng c r) c x.val f.status f.word (s.dets c x r)
            | none => s) s
          let s := report s
          let sums := rs.foldl (fun l r => match (nth freshRank t.ranks r).slotOf n with
            | some (b, _) => ((nth freshRank t.ranks r).netOf b).foldl (fun l h => addNet h.1 h.2 l) l
            | none => l) ([] : List (Nat × Int))
          let (s, st) := rs.foldl (fun (acc : State × Nat) r =>
            match (nth freshRank t.ranks r).slotOf n with
            | some (b, z) =>
              let s := acc.1.setQct (acc.1.rankEng c r) t.moveQct
              let (s, st) := s.restoreSlot c x d r ((if b then j.ckpt1 else j.ckpt0) + r * 36864) z
              (s, firstBad acc.2 st)
            | none => acc) (s, stOK)
          let s := s.modCtx c x (fun t => { t with
            recovering := false
            waits := []
            st := if t.st = .waiting then .active else t.st
            ranks := t.ranks.map (fun q => match q.slotOf n with | some (b, _) => q.recovered b n | none => q) })
          if st ≠ stOK then s.endJob c x st 0 0 0
          else
            let s := s.addBackNet c x sums
            rs.foldl (fun s r => if (s.eng (s.rankEng c r)).active = some d then s.undrain (s.rankEng c r) else s) s
      | _, _, _ => s

/-! ### Patrols (10 R314-R317; 01 R22-R28) -/

/-- Whether a deadline window of a reserved cabinet is open on an engine (10 R316). -/
def State.windowOpen (s : State) (k : EngineId) : Bool :=
  match s.holder k.val with
  | some c => s.flag F.SCH_CAB_CFG_KIND c.val && (s.cab c).windows.any (fun e => decide (s.itu < e))
  | none => false

/-- The doubt of an unverified engine of a cabinet in SAFE_CABS (10 R320). -/
def State.unverified (s : State) (k : EngineId) : State :=
  let s := s.modEng k (fun e => { e with ver := .unverified })
  match s.holder k.val with
  | some c => if s.safeCab c then s.doubt 1 else s
  | none => s

/-- PATROL_DUE: due at once, or deferred to the end of an open window; a deferred patrol falls due when asked again (10
R315, R316). A fenced or powered-off engine is not patrolled. -/
def State.patrolDue (s : State) (k : EngineId) : State :=
  let e := s.eng k
  if k.val = 16 ∨ e.ver = .fenced ∨ e.ver = .off then s
  else if s.windowOpen k ∧ !e.patrolDeferred ∧ !e.patrolDue then s.modEng k (fun e => { e with patrolDeferred := true })
  else s.modEng k (fun e => { e with patrolDue := true, patrolDeferred := false })

/-- The drawer that an engine holds goes on, where TE_CTRL.RUN is 1 and the engine stands STOPPED (02 R57, R58). -/
def State.release (s : State) (k : EngineId) : State :=
  match (s.eng k).held with
  | some d => if s.flag F.TE_CTRL_RUN k.val ∧ (s.eng k).st = .stopped then s.place k d else s
  | none => s

/-- PATROL: the Core runs the golden input on an engine that has no active drawer or has drained, once LM_INIT has run since its
power-up (05 R172; 10 R315-R317); it waits for an abort under way (01 R25). -/
def State.patrol (s : State) (k : EngineId) : State :=
  let e := s.eng k
  if e.patrolDue ∧ e.inited ∧ !e.fencePending ∧ !s.abortOn k ∧ ((e.st = .stopped ∧ e.active.isNone) ∨ s.isDrained k) then
    s.modEng k (fun e => { e with st := .patrol, patrolDue := false })
  else s

/-- PATROL_COMPLETE: the signature the engine returned is compared with the Patrol Image's (10 R314, R315, R317): a match
sets VERIFIED; a mismatch UNVERIFIED, with a repeat owed, and the second in a row a fence. The patrol accumulator entry is left
undefined (05 R172), and no other patrol is due any more (10 R316). -/
def State.patrolComplete (s : State) (k : EngineId) (sig : Word) : State :=
  let e := s.eng k
  if e.st ≠ .patrol then s
  else
    let (s, st, want) := s.fabNat (.cc (fin 4 (by decide) (k.val / 4))) s.arb.patrolBase 4
    let s := (s.scramble (accAddr k 8 0 0 0) 4096).modEng k (fun e => { e with
      st := if e.active.isSome then .draining else .stopped
      patrolDue := false
      patrolDeferred := false })
    let s := s.release k
    if st = stOK ∧ sig.toNat = want then
      (s.modEng k (fun e => { e with ver := .verified, mismatches := 0, fresh := false, repeatOwed := false })).tell
        (.patrol k.val true)
    else
      let s := (s.unverified k).modEng k (fun e => { e with
        mismatches := e.mismatches + 1
        repeatOwed := true
        fencePending := e.fencePending || decide (1 ≤ e.mismatches) })
      s.tell (.patrol k.val false)

/-- PATROL_REPEAT: the repeat after a mismatch (10 R317). -/
def State.patrolRepeat (s : State) (k : EngineId) : State :=
  if (s.eng k).repeatOwed then s.modEng k (fun e => { e with patrolDue := true, repeatOwed := false }) else s

/-- PATROL_OVERDUE: no matching signature 80 ms after a due time (10 R317, R320). -/
def State.patrolOverdue (s : State) (k : EngineId) : State :=
  let e := s.eng k
  if e.ver = .verified ∧ (e.patrolDue ∨ e.patrolDeferred ∨ e.repeatOwed ∨ e.st = .patrol) then s.unverified k else s

/-! ### Fences and remapping (10 R310-R313; 08 R254) -/

/-- Domain `d` marked on or off (17). -/
def State.setPd (s : State) (d : Nat) (on : Bool) : State :=
  s.put0 F.PMC_PD_STAT_ON (putBits (s.rd F.PMC_PD_STAT_ON) d d (b2n on))

/-- The storage and registers of an engine after its domain has lost power (00 R7; 18 R597; notes/assumptions/3.md). -/
def State.loseEngine (s : State) (k : EngineId) : State :=
  let m := (s.mem.wipe (ibBase k) (2 ^ 16)).wipe (accAddr k 0 0 0 0) (2 ^ 19)
  let s := if k.val = 16 then ({ s with mem := m } : State).resetRegs 0x20023000 0x1000
    else ({ s with mem := (m.wipe (lmBase k) (2 ^ 22)).wipe (psbBase k) 4096 } : State).resetRegs (0x40100000 + 0x10000 * k.val) 0x10000
  s.modEng k (fun e => { e with
    drawers := Vector.replicate 8 emptyDrawer
    active := none
    why := none
    drained := false
    patrolDue := false
    patrolDeferred := false
    mismatches := 0
    repeatOwed := false
    tagNext := false
    skid := none
    fresh := true
    inited := false
    held := none
    reqQct := 0 })

/-- Whether an endpoint's engine is `k`. -/
def State.epOn (s : State) (k : EngineId) (n : EpName) : Bool := s.rankEng n.cab n.rank == k && decide (n.rank < s.gang n.cab)

/-- The fence of an engine told to SCH, the island and its cabinet's authority (10 R309): with the context of its drawer, 0xFF where
none is active, and the word and count of its fault record. -/
def State.tellFence (s : State) (k : EngineId) : State :=
  let s := s.tell (.fence k.val)
  match s.holder k.val, s.actCtx k with
  | some c, some (d, _, x) =>
    let w := s.drw k d
    s.integrity k c x.val stFENCED (match w.fault with | some f => f.word | none => 0) (s.dets c x w.rank)
  | some c, none => s.integrity k c 0xFF stFENCED 0 0
  | none, _ => s

/-- FENCE: a pending fence of an engine (10 R310; 01 R25-R28; 08 R254; 06 R195): flits from and to it are discarded, its reservations
poisoned, its requests and waits withdrawn, a patrol ended, its domain off; its cabinet is to be remapped for it, after those fenced
before. -/
def State.fence (s : State) (k : EngineId) : State :=
  if !(s.eng k).fencePending ∨ k.val = 16 then s
  else
    let c := s.holder k.val
    let s := s.tellFence k
    let s := s.cutStreams (s.epOn k) (fun f => f.src == some k || s.rankEng f.cab f.rank == k) true
    let s := (List.finRange 8).foldl (fun s d => s.dropWaitersOf k d) (s.stopPost k stFENCED)
    let s := (s.setPd (k.val + 4) false).loseEngine k
    let s := s.modEng k (fun e => { e with st := .fenced, ver := .fenced, fencePending := false })
    match c with
    | some c => s.modCab c (fun b => { b with lost := b.lost ++ [k.val] })
    | none => s

/-- Every job of a context that has started completes with FENCED, its rank's state is discarded, and its drawer leaves its
engines (10 R312). -/
def State.fenceCtx (s : State) (c : CabId) (x : CtxId) : State :=
  match s.ctx? c x with
  | none => s
  | some t =>
    let s := match t.started, t.jobs with
      | true, j :: _ => s.postJob c x j stFENCED 0 0 (s.jobInfo c t) 0
      | _, _ => s
    let s : State := match t.drawer with
      | some d => (s.ranksOf c).foldl (fun (s : State) r =>
          let k := s.rankEng c r
          let s := (s.squashRank k d stFENCED).emptyDrw k d
          if (s.eng k).has d then s.leave k else s) s
      | none => s
    let s := s.cutStreams (ofCtx c x) (fun f => f.cab == c && f.ctx == x) true
    s.modCtx c x (fun t => { t with
      drawer := none
      st := .stored
      started := false
      jobs := if t.started then t.jobs.tail else t.jobs
      held := []
      waits := []
      raised := []
      recovering := false
      ending := none })

/-- The queues of a cabinet emptied (10 R312; 09 R288). -/
def State.emptyQueues (s : State) (c : CabId) : State :=
  (List.finRange 32).foldl (fun s q =>
    if s.flag F.SN_Q_CFG_EN q.val ∧ s.rd F.SN_Q_CFG_CABINET q.val = c.val then
      ({ s with sn := { s.sn with toQueue := s.sn.toQueue.filter (fun f => f.1 != q) } } : State).modQueue q
        (fun _ => ⟨[], 0, [], none⟩)
    else s) s

/-- The queued jobs of a context complete with FENCED and it is destroyed (10 R312). -/
def State.loseCtx (s : State) (c : CabId) (x : CtxId) : State :=
  match s.ctx? c x with
  | none => s
  | some t =>
    let s := t.jobs.foldl (fun s j => s.dropJob c x j stFENCED 0) s
    s.modCab c (fun b => { b with ctxs := vmod b.ctxs x (fun _ => none) })

/-- A context rebuilt from its record in the new mapping, or lost (10 R312); it becomes resident unless the cabinet is to be remapped
for another engine yet. -/
def State.rebuild (s : State) (c : CabId) (x : CtxId) (a : Nat) : State :=
  match s.ctx? c x with
  | none => s
  | some t =>
    if a = 0 then s.loseCtx c x
    else
      let (s, st, o) := s.readContext c a (some x)
      match o with
      | none => (s.refusal c x.val st).loseCtx c x
      | some n =>
        let s := s.modCtx c x (fun _ => { n with jobs := t.jobs })
        match s.freeDrawer c with
        | some d => if (s.cab c).lost = [] then (s.takeDrawer c x d).1 else s
        | none => s

/-- Whether a remap record's map is one to one onto the remaining engines (10 R313). -/
def rankmapOk (map size engines : Nat) : Bool :=
  let l := (List.range size).map (fun r => bits map (4 * r + 3) (4 * r))
  pairwiseOk (fun a b => a != b) l && l.all (fun k => bit engines k)
    && ((List.range 16).filter (fun k => bit engines k)).length == size

/-- The cabinet becomes DEGRADED (10 R313, R320; 15 R528). -/
def State.degrade (s : State) (c : CabId) (k : Nat) : State :=
  let s := (s.contexts c).foldl (fun s x => match s.ctx? c x with
    | some t => (t.jobs.foldl (fun s j => s.dropJob c x j stFENCED 0) s).modCtx c x (fun t => { t with jobs := [] })
    | none => s) s
  let s := s.modCab c (fun b => { b with degraded := true, act := none })
  let s := if s.safeCab c then s.doubt 2 else s
  s.postCab c 5 0xFF 2 k 0

/-- CABINET_REMAP: a cabinet remapped after a fence (10 R311-R313), of the engine fenced first where several are. -/
def State.remap (s : State) (c : CabId) : State :=
  match (s.cab c).lost with
  | [] => s
  | k :: rest =>
    let s := (s.cab c).aborting.foldl (fun s p => s.finishAbort c p.1 stFENCED) s
    let s := (s.contexts c).foldl (fun s x => s.fenceCtx c x) s
    let s := s.modCab c (fun b => { b with act := none, waiters := [], lost := rest })
    let g := s.gang c
    let eng := putBits (s.rd F.SCH_CAB_ENG_ENGINES c.val) k k 0
    let s := s.put F.SCH_CAB_ENG_ENGINES c.val 0 eng
    let n1 := (s.cab c).n1
    if n1 = 0 then s.degrade c k
    else
      let (s, e) := s.cabRead .sch c (n1 + 8 * k) 8
      let a := ofBytes e.data
      if e.st ≠ stOK ∨ a = 0 then s.degrade c k
      else
        let (s, q) := s.cabRead .sch c a 592
        let l := q.data
        let map := fieldAt l 0 8
        let size := fieldAt l 8 1
        if q.st ≠ stOK ∨ fieldAt l 9 7 ≠ 0 ∨ size + 1 ≠ g ∨ !rankmapOk map size eng then s.degrade c k
        else
          let s := (s.put F.SN_CAB_RANKMAP_MAP c.val 0 map).put F.SN_CAB_CFG_SIZE c.val 0 size
          let s := s.modCab c (fun b => { b with sems := Vector.replicate 64 0 })
          let s := s.emptyQueues c
          let s := (s.contexts c).foldl (fun s x => s.rebuild c x (fieldAt l (16 + 8 * x.val) 8)) s
          s.postCab c 5 0xFF 1 k 0

/-! ### LM_INIT and the stop of an engine -/

/-- A control core that writes engine registers: SCH or the Core of the engine's cluster (02 R56). -/
def engWriter (m : Master) (k : EngineId) : Bool :=
  match m with
  | .sch => true
  | .cc i => i.val == k.val / 4 && k.val != 16
  | .isl _ => k.val == 16
  | _ => false

/-- LM_INIT: TE_CTRL.LM_INIT written 1 (02 R47, R56, R57): it starts while the engine is stopped and powered. -/
def State.lmInit (s : State) (m : Master) (k : EngineId) : State :=
  if !engWriter m k ∨ (k.val ≠ 16 ∧ !s.pd (k.val + 4)) then s
  else if (s.eng k).st ≠ .stopped then s.teErr k F.TE_ERR_CFG_WHILE_RUN
  else s.modEng k (fun e => { e with st := .init })

/-- LM_INIT_DONE: all of Local Memory reads zero with valid codes and every tag is EMPTY (02 R47). The Island Engine's
Local Memory is island SRAM, which LM_INIT does not touch (notes/assumptions/31.md). -/
def State.lmInitDone (s : State) (k : EngineId) : State :=
  if (s.eng k).st ≠ .init then s
  else
    let s := if k.val = 16 then s else { s with mem := s.mem.wipe (lmBase k) (2 ^ 22) }
    (s.modEng k (fun e => { e with
      st := .stopped
      inited := true
      drawers := e.drawers.map (fun w => { w with tags := Vector.replicate 8 .empty }) })).release k

/-- ENGINE_STOP: TE_CTRL.RUN written 0 (02 R56, R57): issue stops at the next yield point; STATE reads STOPPED once the
engine has drained. An engine that drains for another reason is held at the end of that. -/
def State.engineStop (s : State) (m : Master) (k : EngineId) : State :=
  if !engWriter m k ∨ (k.val ≠ 16 ∧ !s.pd (k.val + 4)) then s
  else
    let s := s.put F.TE_CTRL_RUN k.val 0 0
    if (s.eng k).st = .running then s.beginDrain k .stop else s

/-- TE_CTRL.RUN written 1: a drawer held by RUN goes on (02 TE_CTRL). -/
def State.engineRun (s : State) (k : EngineId) : State := (s.put F.TE_CTRL_RUN k.val 0 1).release k

end Sys2Proof.Machine
end

