-- ==== Sys2Proof/Machine/Arbiter.lean ====
section
/-! DEFINITION. The Footstool Arbiter (10 R319-R325, R330, R331; 16 R551), start-up error injection (10 R328, R329) and the
island watchdogs (13 R427-R430). -/

namespace Sys2Proof.Machine

/-- FAULT_N asserted: a latched cause of 10 R330, or from POWER_GOOD on (16 R551). -/
def State.faultNow (s : State) : Bool := s.isl.faultN || s.isl.faultStart

/-- A cause of 10 R330 asserts FAULT_N until the island domains are reset. -/
def State.assertFault (s : State) : State := { s with isl := { s.isl with faultN := true } }

/-- The island part changed. -/
def State.modIsl (s : State) (f : Isl → Isl) : State := { s with isl := f s.isl }
/-- The Arbiter Unit's part changed. -/
def State.modArb (s : State) (f : Arb → Arb) : State := { s with arb := f s.arb }

/-- The doubt flags that hold as a cycle begins: an engine of a cabinet in SAFE_CABS is UNVERIFIED, or such a cabinet is
DEGRADED (10 R320). -/
def State.standingDoubt (s : State) : Nat :=
  let un := (List.finRange 16).any (fun k => (s.eng (engId k.val)).ver == .unverified
    && (match s.holder k.val with | some c => s.safeCab c | none => false))
  let de := (List.finRange 8).any (fun c => (s.cab c).live && (s.cab c).degraded && s.safeCab c)
  (if un then 2 else 0) + (if de then 4 else 0)

/-- ARB_CFG.EN becomes 1: the first control cycle begins (10 R319). -/
def State.arbStart (s : State) : State :=
  let now := s.itu
  let s := s.modArb (fun a => { a with start := now, cycle := 0, onsets := [], persist := 0, flagged := false, fsReady := false, mainReady := false })
  let s := (s.put0 F.ARB_STATUS_CYCLE 0).put0 F.ARB_LOG_TOTAL 0
  s.put0 F.ARB_DOUBT_CUR s.standingDoubt

/-- A write of ARB_RAISE (10 R318, R320, R324; the register's table). -/
def State.arbRaise (s : State) (v : Nat) : State :=
  let s := if bit v 17 then s.modArb (fun a => { a with fsReady := true }) else s
  let s := if bit v 16 then s.modArb (fun a => { a with mainReady := true }) else s
  let s := if bit v 6 then s.doubt 6 else s
  if bit v 0 then s.doubt 0 else s

/-- The encodings of ARB_STATUS.STATE: WITHHELD 0, MAIN 1, FALLBACK 2, LATCHED 3; and of SOURCE: main path 0, Footstool 1,
NONE 2. -/
structure ArbChoice where
  state : Nat
  agree : Nat
  persist : Nat
  source : Nat
  deriving DecidableEq, Repr

/-- The procedure of 10 R322. -/
def arbChoose (state agree persist events persistMax d : Nat) (faultN : Bool) : ArbChoice :=
  let c : ArbChoice :=
    if state = 3 ∨ state = 0 then ⟨state, agree, persist, 1⟩
    else if d ≠ 0 then
      let p := persist + 1
      ⟨if 3 ≤ events ∨ (persistMax ≠ 0 ∧ p = persistMax) then 3 else 2, 0, p, 1⟩
    else
      let a := if state = 2 then agree + 1 else agree
      let st := if state = 2 ∧ a = 10 then 1 else state
      ⟨st, a, 0, if st = 1 then 0 else 1⟩
  if c.source = 1 ∧ faultN then { c with source := 2 } else c

/-- A log record of the Arbiter Unit (10 R325). -/
def State.arbLog (s : State) (old new last cur events agree : Nat) : State :=
  let l := leBytes s.arb.cycle 4 ++ leBytes old 1 ++ leBytes new 1 ++ leBytes last 1 ++ leBytes cur 1 ++ leBytes events 1
    ++ leBytes agree 1 ++ leBytes 0 2 ++ leBytes s.itu 4
  let n := s.rd F.ARB_LOG_NEXT
  let s := (s.fabWrite .arb (s.arb.logBase + 16 * n) l).1
  (s.put0 F.ARB_LOG_NEXT ((n + 1) % 1024)).put0 F.ARB_LOG_TOTAL (satInc 16 (s.rd F.ARB_LOG_TOTAL))

/-- Whether the ITU has reached the end of the control cycle under way, of 8,000,000 ticks (10 R319; 11 R355). -/
def State.boundaryDue (s : State) : Bool :=
  s.flag F.ARB_CFG_EN && decide (s.arb.start + 8000000 * (s.arb.cycle + 1) ≤ s.itu)

/-- The control boundary (10 R320-R325, R330; 16 R551): LATE, the onset count, the FS_READY test, the choice of R322, and
the log record where the state or the source changes. -/
def State.boundary (s : State) : State :=
  if !s.flag F.ARB_CFG_EN then s
  else
    let a := s.arb
    let d := s.rd F.ARB_DOUBT_CUR ||| (if a.mainReady then 0 else 16)
    let n := a.cycle + 1
    let onsets := (if d ≠ 0 ∧ !a.flagged then [n] else []) ++ a.onsets.filter (fun o => decide (n < o + 100))
    let s := if a.fsReady then s.modIsl (fun i => { i with faultStart := false }) else s.assertFault
    let old := s.rd F.ARB_STATUS_STATE
    let oldSrc := s.rd F.ARB_STATUS_SOURCE
    let c := arbChoose old (s.rd F.ARB_STATUS_AGREE) a.persist onsets.length (s.rd F.ARB_CFG_PERSIST_MAX) d s.faultNow
    let s := s.modArb (fun a => { a with
      cycle := n
      onsets := onsets
      persist := c.persist
      flagged := decide (d ≠ 0)
      fsReady := false
      mainReady := false
      fsLast := a.fsReady })
    let s := (((((s.put0 F.ARB_STATUS_STATE c.state).put0 F.ARB_STATUS_SOURCE c.source).put0 F.ARB_STATUS_AGREE c.agree).put0
      F.ARB_STATUS_EVENTS (min 3 onsets.length)).put0 F.ARB_STATUS_CYCLE (n % 65536)).put0 F.ARB_DOUBT_LAST d
    let s := s.put0 F.ARB_DOUBT_CUR s.standingDoubt
    if c.state = old ∧ c.source = oldSrc then s
    else s.arbLog old (c.state + 4 * c.source) d s.standingDoubt (min 3 onsets.length) c.agree

/-- ALIVE toggles (10 R331). -/
def State.aliveToggle (s : State) : State :=
  if !s.faultNow ∧ s.arb.fsLast then s.modIsl (fun i => { i with alive := !i.alive }) else s

/-- ERROR_INJECTION (10 R328, R329): once after the island's release, and again after an exit from PARK (17 R578); failed engines are fenced, failed Footstool checkers
assert FAULT_N, and the main path is withheld or released to FALLBACK (10 R323). A main path once withheld stays so until the island
domains are reset. -/
def State.errorInjection (s : State) (o : Injection) : State :=
  let again := s.flag F.ARB_MECH_INJ_DONE
  if (again ∧ s.rd F.BOOT_STATUS_STAGE ≠ 4) ∨ !s.isl.running then s
  else
    let s := (List.finRange 16).foldl (fun s k =>
      if o.codes.getLsbD k.val || o.checks.getLsbD k.val then
        (s.modEng (engId k.val) (fun e => { e with fencePending := true })).fence (engId k.val) else s) s
    let s := if o.islChecks || o.arbiter then s.assertFault else s
    let s := (((s.put0 F.ARB_MECH_INJ_DONE 1).put0 F.ARB_MECH_ARBITER (b2n o.arbiter)).put0 F.ARB_MECH_ISL_CHECKS
      (b2n o.islChecks)).put0 F.ARB_MECH_BRIDGE (b2n o.bridge)
    let s := (((s.put0 F.ARB_MECH_LPDDR_CRC (b2n o.lpddr)).put0 F.ARB_MECH_SHARED_CODES (b2n o.shared)).put0 F.ARB_MECH_CHECKSUM
      (b2n (o.checks != 0))).put0 F.ARB_MECH_ENGINE_CODES (b2n (o.codes != 0))
    if again || o.shared || o.lpddr || o.bridge || s.pmc.trainFail || s.rd F.ARB_STATUS_STATE != 0 then s
    else (s.put0 F.ARB_STATUS_STATE 2).put0 F.ARB_STATUS_AGREE 0

/-- Whether error injection has ended without withholding the main path (10 R328, R329; 16 R558). -/
def State.mainReleased (s : State) : Bool :=
  s.flag F.ARB_MECH_INJ_DONE && s.rd F.ARB_STATUS_STATE != 0 && !s.pmc.trainFail && !s.flag F.ARB_MECH_SHARED_CODES && !s.flag F.ARB_MECH_LPDDR_CRC && !s.flag F.ARB_MECH_BRIDGE

/-! ### Island watchdogs (13 R427-R430) -/

/-- Whether a master kicks watchdog `n` (13 R427); no master stands for PMC's dedicated signal. -/
def kicks (split : Bool) (m : Option Master) (n : Nat) : Bool :=
  match m, n with
  | some (.isl core), 0 => !split || core.val == 0
  | some .sch, 1 => true
  | some (.cc i), n => n == 2 + i.val
  | none, 6 => true
  | _, _ => false

/-- Whether watchdog `n` is suspended: the domain of the core that kicks it is off (13 R430). -/
def State.wdogAsleep (s : State) (n : Nat) : Bool :=
  if n = 1 then !s.pd 31 else if 2 ≤ n ∧ n ≤ 5 then !s.pd (18 + n) else false

/-- Number `n` of a watchdog. -/
def wdogId (n : Nat) : Fin 7 := fin 7 (by decide) n

/-- The period of watchdog `n` begins anew now (13 R428). -/
def State.wdogRestart (s : State) (n : Nat) : State :=
  let now := s.itu
  s.modIsl (fun i => { i with since := vmod i.since (wdogId n) (fun _ => now) })

/-- Watchdog `n` as its arming and the power-up of the core that kicks it leave it: its period begins, and its MIN window does not
apply to the first kick (13 R430; notes/assumptions/136.md). -/
def State.wdogArm (s : State) (n : Nat) : State :=
  (s.wdogRestart n).modIsl (fun i => { i with kickAt := vmod i.kickAt (wdogId n) (fun _ => none) })

/-- The expiry of watchdog `n` (13 R428). -/
def State.wdogBite (s : State) (n : Nat) : State :=
  (((s.put0 F.ISL_WDOG_STAT_EXPIRED (s.rd F.ISL_WDOG_STAT_EXPIRED ||| 2 ^ n)).doubt 5).tell (.irq "ISL_WDOG" n)).wdogRestart n

/-- Whether a kick of watchdog `n` now comes less than MIN × 100 µs, 40,000 ITU ticks each, after the one before (13 R428). -/
def State.wdogEarly (s : State) (n : Nat) : Bool :=
  match vget s.isl.kickAt (wdogId n) with
  | some t => decide (s.itu < t + 40000 * s.rdE F.ISL_WDOG_CFG_MIN n)
  | none => false

/-- ISL_WDOG_KICK: the kicks of a write, one watchdog after another (13 R428). The Shadowed fields take effect at the kick. -/
def State.wdogKick (s : State) (m : Option Master) (v : Nat) : State :=
  (List.range 7).foldl (fun s n =>
    if !bit v n || !kicks (s.flag F.ISL_PAIR_STAT_MODE) m n || !s.flag F.ISL_WDOG_CFG_EN n || s.wdogAsleep n then s
    else
      let now := s.itu
      let s := if s.wdogEarly n then s.wdogBite n else s
      ((s.takeEffect R.ISL_WDOG_CFG n).wdogRestart n).modIsl (fun i => { i with kickAt := vmod i.kickAt (wdogId n) (fun _ => some now) })) s

/-- Whether PERIOD × 100 µs have passed since the period of watchdog `n` began (13 R428). -/
def State.wdogOver (s : State) (n : Nat) : Bool :=
  decide (vget s.isl.since (wdogId n) + 40000 * s.rdE F.ISL_WDOG_CFG_PERIOD n ≤ s.itu)

/-- ISL_WDOG_EXPIRE: an armed watchdog's period passes without a kick (13 R428, R430). -/
def State.wdogExpire (s : State) (n : Fin 7) : State :=
  if s.flag F.ISL_WDOG_CFG_EN n.val ∧ !s.wdogAsleep n.val ∧ s.isl.running ∧ s.wdogOver n.val then s.wdogBite n.val else s

end Sys2Proof.Machine
end

