-- ==== Sys2Proof/Machine/Memory.lean ====
section
/-! DEFINITION. The memory system's commands (12): accesses by master and address, budget windows, the Stream Buffer's
slices and shares, and error injection. -/

namespace Sys2Proof.Machine

/-- The answer of an access kept (the model's own field). -/
def State.answer (s : State) (st : Nat) (data : List Byte) : State := { s with resp := ⟨st, data⟩ }

/-- A read command of a master. -/
def State.memRead (s : State) (m : Master) (a n : Nat) : State :=
  let (s, r) := s.fabRead m a n
  s.answer r.st r.data

/-- Bytes that a unit reads for a purpose that goes on whatever it gets: a refused read gives free bytes. -/
def State.readOrFree (s : State) (m : Master) (a n : Nat) : State × List Byte :=
  if n = 0 then (s, [])
  else
    let (s, r) := s.fabRead m a n
    if r.data.isEmpty then
      let (c, s) := s.nextFree
      (s, (List.range n).map (fun i => Config.freeByte c i))
    else (s, r.data)

/-- A write command of a master. -/
def State.memWrite (s : State) (m : Master) (a : Nat) (l : List Byte) : State :=
  let (s, st) := s.fabWrite m a l
  s.answer st []

/-- The region that a master's request goes to, after its translation (12 R380; 15 R511). -/
def State.target (s : State) (m : Master) (a n : Nat) : Option Region := (s.toDevice m a n).map (fun d => s.region d)

/-- What an LPDDR5X request that was not refused leaves behind: it left its port at the urgency of its FIFO's fill (12 R402, R410),
and the link ECC made `link` corrections (12 R390). -/
def State.lpddrDone (s : State) (m : Master) (urg link : Nat) : State :=
  if s.resp.status = stFABRIC_ERR then s
  else ({ s with ms := { s.ms with req := some (s.portReq m urg) } } : State).put0 F.MEM_LINK_CNT_COUNT
    (min (s.rd F.MEM_LINK_CNT_COUNT + link) (2 ^ 32 - 1))

/-- LPDDR5X_READ (12 R386, R388, R390, R405, R406, R410): a request that its budget lets leave the port. -/
def State.lpddrRead (s : State) (m : Master) (a n fill link : Nat) : State :=
  let urg := s.urgency m.num fill
  if s.target m a n = some .lpddr ∧ s.leaves m urg then (s.memRead m a n).lpddrDone m urg link else s

/-- LPDDR5X_WRITE (12 R387, R388, R390, R405, R406, R410). -/
def State.lpddrWrite (s : State) (m : Master) (a : Nat) (l : List Byte) (fill link : Nat) : State :=
  let urg := s.urgency m.num fill
  if s.target m a l.length = some .lpddr ∧ s.leaves m urg then (s.memWrite m a l).lpddrDone m urg link else s

/-- Why a request would be refused; a request without a device address is refused as an unmapped one (15 R511). -/
def State.refusalOf (s : State) (m : Master) (write : Bool) (a n : Nat) : Option AccErr :=
  match s.toDevice m a n with
  | none => some .range
  | some d => s.refuse m write d n

/-- An access that is refused for one reason: it changes nothing but the log and gets an error response. -/
def State.refusedAccess (s : State) (why : AccErr) (m : Master) (write : Bool) (a n : Nat) : State :=
  if s.refusalOf m write a n = some why then
    (match s.toDevice m a n with | some d => s.logRefusal why d m | none => s).answer stFABRIC_ERR []
  else s

/-- Whether every slice that `n` bytes at `a` touch is initialised (12 R398). -/
def State.slicesReady (s : State) (a n : Nat) : Bool :=
  bit (s.rd F.SBUF_STAT_READY) ((a - 0x80000000) / 2 ^ 23) && bit (s.rd F.SBUF_STAT_READY) ((a + (n - 1) - 0x80000000) / 2 ^ 23)

/-- Whether a Stream Buffer request is served now: accesses before READY wait (12 R398). -/
def State.sbufServed (s : State) (m : Master) (a n : Nat) : Bool :=
  match s.toDevice m a n with
  | some d => s.region d == .sbuf && (s.slicesReady d n || !s.memOn .sbuf d)
  | none => false

/-- SBUF_READ (12 R397, R398, R399; 10 R297). -/
def State.sbufRead (s : State) (m : Master) (a n : Nat) : State := if s.sbufServed m a n then s.memRead m a n else s

/-- SBUF_WRITE (12 R397-R399, R651). -/
def State.sbufWrite (s : State) (m : Master) (a : Nat) (l : List Byte) : State :=
  if s.sbufServed m a l.length then s.memWrite m a l else s

/-- ISLAND_SRAM_WRITE (12 R651; 13 R419, R421). -/
def State.sramWrite (s : State) (m : Master) (a : Nat) (l : List Byte) : State :=
  if s.target m a l.length = some .sram then s.memWrite m a l else s

/-- A HyperBus access whose first read met a detection that its repeat did not: the event is counted (10 R298). -/
def State.hyperDone (s : State) (a : Nat) (transient : Bool) : State :=
  if transient && s.resp.status == stOK then
    let p := (hbPort a).1
    (s.put F.HB_STAT_CRC_REPEAT p 0 1).put F.HB_REPEAT_CNT_CNT p 0 (satInc 32 (s.rd F.HB_REPEAT_CNT_CNT p))
  else s

/-- HYPERRAM_READ (10 R296, R298; 12 R394, R395; 19 R627): `transient` tells that the first attempt met a detection that
the repeat did not. -/
def State.hyperRead (s : State) (m : Master) (a n : Nat) (transient : Bool) : State :=
  if s.target m a n = some .hyper then (s.memRead m a n).hyperDone a transient else s

/-- HYPERRAM_WRITE (12 R394, R395): a write that covers a granule only in part reads it, and that read may be repeated. -/
def State.hyperWrite (s : State) (m : Master) (a : Nat) (l : List Byte) (transient : Bool) : State :=
  if s.target m a l.length = some .hyper then
    (s.memWrite m a l).hyperDone a (transient && (a % 32 != 0 || l.length % 32 != 0))
  else s

/-- Whether master `m` has missed in the window that ends: charges below its guarantee while a request of it waits
(12 R409). -/
def State.missed (s : State) (m : Nat) (waiting : Bool) : Bool :=
  decide (s.rd F.QOS_M_USED_USED m < s.rdE F.QOS_M_BUDGET_GUAR m) && waiting

/-- The Shadowed budgets and the window length take effect, and every charge returns to 0 (12 R404, R405). -/
def State.newWindow (s : State) : State :=
  (List.range 40).foldl (fun s m => (s.takeEffect R.QOS_M_BUDGET m).put F.QOS_M_USED_USED m 0 0) (s.takeEffect R.QOS_WIN)

/-- The guarantees of all ports against the capacity of a window (12 R407). -/
def State.qosOver (s : State) : State :=
  let sum := (List.range 40).foldl (fun n m => n + s.rdE F.QOS_M_BUDGET_GUAR m) 0
  if 5000 * s.rdE F.QOS_WIN_LEN < sum then s.put0 F.MEM_ERR_QOS_OVER 1 else s

/-- Whether a request of a master at an address waits at its port for the next window (12 R406). -/
def State.limitHolds (s : State) (m : Master) (a : Nat) : Bool :=
  match s.toDevice m a 1 with
  | some x => s.region x == .lpddr && !s.leaves m 0
  | none => false

/-- Whether the next request of a running entry waits at its engine's port. -/
def State.entryHeld (s : State) (k : EngineId) (d : Fin 8) (t : SbEntry) : Bool :=
  let i := Ins.of t.iw
  let w := s.drw k d
  t.st == .running && ((i.cls == 1 && i.opc != 0x12 && s.limitHolds (.te k) (nth (0, 0) (nth [] (dmaPieces w i) t.pos) 0).1) ||
    (i.cls == 5 && [0, 1, 2, 3].any (fun u =>
      match gsNext i (tableOf w i).1 (tableOf w i).2 t.acc u with
      | some (r, _) => (match s.gsRow k d i r with | .fab a => s.limitHolds (.te k) a | _ => false)
      | none => false)))

/-- Whether a request that State holds waits at port `m`: an engine's next piece, or what the head of a PPU's queue accesses next
(12 R409). -/
def State.portHolds (s : State) (m : Nat) : Bool :=
  if m < 16 then
    let k := engId m
    match (s.eng k).active with
    | some d => (s.drw k d).sb.any (fun t => s.entryHeld k d t)
    | none => false
  else if m < 20 then
    let c : Fin 4 := fin 4 (by decide) (m - 16)
    match (vget s.ppus c).head? with
    | some r =>
      let at_ := if r.served then r.outs else
        (match (s.eng r.eng).active with
         | some d => (match (s.drw r.eng d).sb.find? (fun t => t.word == r.word) with
           | some t => (PpuBlock.of (s.mem.readBytes (s.lmKey r.eng d ((s.drw r.eng d).desc (Ins.of t.iw).srca).base) 64)).arrays
           | none => [])
         | none => [])
      at_.any (fun a => s.limitHolds (.ppu c) a)
    | none => false
  else false

/-- BUDGET_WINDOW_START (12 R404, R405, R407, R409): the misses of the closed window, then the new window. `waiting` gives the masters
with a request that State does not hold; those that it holds count as well. -/
def State.windowStart (s : State) (waiting : BitVec 40) : State :=
  if !s.flag F.MEM_CFG_EN then s
  else
    let miss := (List.finRange 40).filter (fun m => s.missed m.val (waiting.getLsbD m.val || s.portHolds m.val))
    let s : State := match miss.head? with
      | some m => ((((miss.foldl (fun (s : State) m => s.put0 F.QOS_MISS_MISS (s.rd F.QOS_MISS_MISS ||| 2 ^ m.val)) s).put0
          F.QOS_MISS_LAST_MASTER m.val).put0 F.QOS_MISS_LAST_WINDOW (s.rd F.QOS_WCNT_WINDOW))).tell (.irq "QOS_MISS" 0)
      | none => s
    (s.newWindow.put0 F.QOS_WCNT_WINDOW (s.rd F.QOS_WCNT_WINDOW + 1)).qosOver

/-- MEM_CFG.EN becomes 1: window 0 begins (12 R404, R407). -/
def State.memStart (s : State) : State := ((s.put0 F.MEM_CFG_EN 1).newWindow.put0 F.QOS_WCNT_WINDOW 0).qosOver

/-- SBUF_SLICE_INIT (12 R398): all 8 MiB of a powered slice read zero with valid codes, and READY becomes 1. -/
def State.sliceInit (s : State) (i : Fin 4) : State :=
  if !s.pd (24 + i.val) ∨ bit (s.rd F.SBUF_STAT_READY) i.val then s
  else ({ s with mem := s.mem.wipe (0x80000000 + i.val * 2 ^ 23) (2 ^ 23) } : State).put0 F.SBUF_STAT_READY
    (s.rd F.SBUF_STAT_READY ||| 2 ^ i.val)

/-- First and past-the-end 4 KiB unit of a Stream Buffer share (12 R399). -/
def State.sbufSpan (s : State) (c : Nat) : Nat × Nat :=
  (s.rd F.SBUF_SHARE_BASE c, s.rd F.SBUF_SHARE_BASE c + s.rd F.SBUF_SHARE_SIZE c)

/-- EN of Stream Buffer share `c` set to 1 (12 R400). -/
def State.sbufEnable (s : State) (c : CabId) : State :=
  let (a, e) := s.sbufSpan c.val
  let hit := (List.finRange 8).any (fun d => d != c && s.flag F.SBUF_SHARE_EN d.val &&
    (let (b, f) := s.sbufSpan d.val; decide (a < f ∧ b < e)))
  if s.flag F.SBUF_SHARE_EN c.val then s
  else if hit ∨ 8192 < e then s.put0 F.MEM_ERR_SB_OVERLAP 1
  else s.put F.SBUF_SHARE_EN c.val 0 1

/-- A write of MEM_INJ with ARM = 1 (MEM_INJ's table; 10 R328). -/
def State.armInjection (s : State) (target sel : Nat) : State :=
  if 2 ≤ target then s else { s with inj := some (target, sel) }

end Sys2Proof.Machine
end

