-- ==== Sys2Proof/Machine/Video.lean ====
section
/-! DEFINITION. Camera inputs and the Mirror Path (11 R338-R349). -/

namespace Sys2Proof.Machine

/-! ### Stream slots -/

/-- A stream slot changed. -/
def State.modSlot (s : State) (n : Fin 16) (f : Slot → Slot) : State := { s with slots := vmod s.slots n f }

/-- The receiver's master port (12 R402). -/
def csiPort (r : Fin 4) : Master := .port (fin 40 (by decide) (29 + r.val))

/-- Whether slot `n` is enabled for a receiver and virtual channel. -/
def State.slotOn (s : State) (n : Fin 16) (r : Fin 4) (vc : Nat) : Bool :=
  s.flag F.CSI_S_CFG_EN n.val && s.rd F.CSI_S_CFG_RECV n.val == r.val && s.rd F.CSI_S_CFG_VC n.val == vc

/-- Whether slot `n` takes long packets of a data type (11 R340). -/
def State.slotTakes (s : State) (n : Fin 16) (r : Fin 4) (vc dt : Nat) : Bool :=
  s.slotOn n r vc && s.rd F.CSI_S_CFG_DT n.val == dt

/-- Buffers of slot `n`, bytes of one, and the address of buffer `b` (11 R341). -/
def State.slotBufs (s : State) (n : Fin 16) : Nat := s.rd F.CSI_S_CFG_NBUF n.val + 1
def State.slotBytes (s : State) (n : Fin 16) : Nat := s.rd F.CSI_S_BUF_BUFSZ n.val * 65536
def State.slotAddr (s : State) (n : Fin 16) (b : Nat) : Nat :=
  s.rd F.CSI_S_BUF_ADDR n.val / 65536 * 65536 + b * s.slotBytes n

/-- Whether the compositor holds buffer `b` of slot `n` (11 R341, R346): it sends lines of it, or it is the last good frame, of which
later repeats may send lines (notes/assumptions/137.md). -/
def State.held (s : State) (n : Fin 16) (b : Nat) : Bool :=
  (List.finRange 2).any (fun o => s.rd F.MIR_O_CFG_SRC o.val == n.val
    && ((vget s.outs o).hold == some b || (vget s.outs o).good.any (fun g => g.1 == b)))

/-- The buffer a frame start takes: the first after the one last written that nobody holds (11 R341). -/
def State.nextBuf (s : State) (n : Fin 16) : Option Nat :=
  let m := s.slotBufs n
  let from_ := match (vget s.slots n).last with | some b => b + 1 | none => 0
  ((List.range m).map (fun i => (from_ + i) % m)).find? (fun b => !bit (s.rd F.CSI_S_HOLD_HOLD n.val) b && !s.held n b)

/-- Whether receiver `r` works: its own domain is on (01 R29). -/
def State.csiOn (s : State) (r : Fin 4) : Bool := s.pd (49 + r.val)

/-- The slots that a packet of a receiver concerns. -/
def slotsWhere (p : Fin 16 → Bool) : List (Fin 16) := (List.finRange 16).filter p

/-- A packet whose header syndrome is not zero is discarded; it damages the frames that its receiver has under way
(11 R339, R342; notes/assumptions/40.md). -/
def State.badHeader (s : State) (r : Fin 4) : State :=
  (slotsWhere (fun n => s.flag F.CSI_S_CFG_EN n.val && s.rd F.CSI_S_CFG_RECV n.val == r.val)).foldl (fun s n =>
    s.modSlot n (fun t => if t.cur.isSome then { t with status := t.status ||| 1 } else t)) s

/-- CSI_FRAME_START (11 R341, R342): the next free buffer, or the frame is dropped. -/
def State.frameStart (s : State) (r : Fin 4) (vc : Nat) (hdrOk : Bool) : State :=
  if !s.csiOn r then s
  else if !hdrOk then s.badHeader r
  else (slotsWhere (fun n => s.slotOn n r vc)).foldl (fun s n =>
    let b := s.nextBuf n
    s.modSlot n (fun t => { t with
      fcnt := (t.fcnt + 1) % 2 ^ 32
      dropped := if b.isSome then t.dropped else t.dropped + 1
      cur := b
      lines := 0
      used := 4096
      crc := 0xFFFFFFFF
      len0 := 0
      status := 0
      start := s.stamp })) s

/-- One line written into the frame of slot `n` (11 R339, R341, R342). -/
def State.lineIn (s : State) (n : Fin 16) (r : Fin 4) (l : List Byte) (crcOk : Bool) : State :=
  let t := vget s.slots n
  match t.cur with
  | none => s
  | some b =>
    let st := if crcOk then t.status else t.status ||| 2
    if s.slotBytes n < t.used + l.length then s.modSlot n (fun t => { t with status := st ||| 4 })
    else
      let s := (s.fabWrite (csiPort r) (s.slotAddr n b + t.used) l).1
      s.modSlot n (fun t => { t with
        lines := t.lines + 1
        used := t.used + cdiv l.length 64 * 64
        crc := crcRun t.crc l
        len0 := if t.lines = 0 then l.length else t.len0
        status := if t.lines ≠ 0 ∧ l.length ≠ t.len0 then st ||| 8 else st
        last := some b })

/-- CSI_LONG_PACKET (11 R339, R340): a line for every slot that takes it. -/
def State.longPacket (s : State) (r : Fin 4) (vc dt : Nat) (l : List Byte) (hdrOk crcOk : Bool) : State :=
  if !s.csiOn r then s
  else if !hdrOk then s.badHeader r
  else (slotsWhere (fun n => s.slotTakes n r vc dt)).foldl (fun s n => s.lineIn n r l crcOk) s

/-- The frame record (11 R342). -/
def State.frameRecord (s : State) (n : Fin 16) : List Byte :=
  let t := vget s.slots n
  leBytes t.fcnt 4 ++ leBytes t.lines 4 ++ leBytes t.start 8 ++ leBytes s.stamp 8 ++ leBytes (Nat.xor t.crc 0xFFFFFFFF) 4
    ++ leBytes t.len0 4 ++ leBytes t.status 2 ++ leBytes (s.rd F.CSI_S_CFG_DT n.val) 1 ++ leBytes 0 1 ++ leBytes t.dropped 4
    ++ leBytes 0 24

/-- CSI_FRAME_END (11 R342, R346): the record, FCNT last; a good frame is offered to the outputs that show the slot. -/
def State.frameEnd (s : State) (r : Fin 4) (vc : Nat) (hdrOk : Bool) : State :=
  if !s.csiOn r then s
  else if !hdrOk then s.badHeader r
  else (slotsWhere (fun n => s.slotOn n r vc)).foldl (fun s n =>
    let t := vget s.slots n
    match t.cur with
    | none => s
    | some b =>
      let rec_ := s.frameRecord n
      let a := s.slotAddr n b
      let s := (s.fabWrite (csiPort r) (a + 4) (rec_.drop 4)).1
      let s := (s.fabWrite (csiPort r) a (rec_.take 4)).1
      let s := s.modSlot n (fun t => { t with cur := none, dropped := 0, last := some b })
      if t.status ≠ 0 then s
      else { s with outs := (Vector.ofFn (fun (o : Fin 2) =>
        let x := vget s.outs o
        if s.flag F.MIR_O_CFG_EN o.val ∧ s.rd F.MIR_O_CFG_SRC o.val = n.val then
          { x with cand := some (b, t.fcnt), candEnd := s.stamp } else x)) }) s

/-- EN of slot `n` becomes 1 (11 R340). -/
def State.slotEnable (s : State) (n : Fin 16) : State :=
  let key := fun (m : Fin 16) => (s.rd F.CSI_S_CFG_RECV m.val, s.rd F.CSI_S_CFG_VC m.val, s.rd F.CSI_S_CFG_DT m.val)
  if s.flag F.CSI_S_CFG_EN n.val then s
  else if (List.finRange 16).any (fun m => m != n && s.flag F.CSI_S_CFG_EN m.val && key m == key n) then
    s.put0 F.VIO_ERR_SLOT_DUP 1
  else (s.put F.CSI_S_CFG_EN n.val 0 1).modSlot n (fun t => { t with cur := none })

/-- EN of slot `n` becomes 0: the frame under way is abandoned. -/
def State.slotDisable (s : State) (n : Fin 16) : State :=
  (s.put F.CSI_S_CFG_EN n.val 0 0).modSlot n (fun t => { t with cur := none })

/-! ### The Mirror Path -/

/-- An output changed. -/
def State.modOut (s : State) (o : Fin 2) (f : Out → Out) : State := { s with outs := vmod s.outs o f }

/-- The master port of an output's reads (12 R402). -/
def dsiPort (o : Fin 2) : Master := .port (fin 40 (by decide) (33 + o.val))

/-- Whether a scale from `src` to `dst` pixels lies in 0.25 to 4 (11 R345). -/
def scaleOk (src dst : Nat) : Bool := decide (src ≤ 4 * dst) && decide (dst ≤ 4 * src) && decide (0 < src) && decide (0 < dst)

/-- Bytes of a line of `w` pixels of a data type, and pixels of a line of `n` bytes (11 R340's table). -/
def linePixels (dt n : Nat) : Nat := if dt = 0x24 then n / 3 else if dt = 0x1E then n / 2 else n * 2 / 3

/-- Whether a descriptor is accepted over a source frame of `lines` lines of `len0` bytes (11 R345). -/
def descOk (d : List Byte) (dt lines len0 : Nat) : Bool :=
  let g := fieldAt d
  scaleOk (g 16 2) (g 0 2) && scaleOk (g 18 2) (g 2 2) && decide (g 12 2 + g 16 2 ≤ linePixels dt len0)
    && decide (g 14 2 + g 18 2 ≤ lines)

/-- The payload bytes of a frame as the compositor reads them, and whether every read is answered (11 R347). -/
def State.payload (s : State) (m : Master) (a lines len : Nat) : State × Bool × List Byte :=
  (List.range lines).foldl (fun (acc : State × Bool × List Byte) i =>
    let (s, r) := acc.1.fabRead m (a + 4096 + i * (cdiv len 64 * 64)) len
    (s, acc.2.1 && r.st == stOK, acc.2.2 ++ r.data)) (s, true, [])

/-- `a` is lower than `b`, modulo 2^32 (11 R347). -/
def lower32 (a b : Nat) : Bool := decide (2 ^ 31 ≤ (a + 2 ^ 32 - b) % 2 ^ 32) && a != b

/-- The wrong-frame and freeze bits of an output. -/
def wrongBit (o : Fin 2) : Fld := if o.val = 0 then F.VIO_ERR_WRONG0 else F.VIO_ERR_WRONG1
def freezeBit (o : Fin 2) : Fld := if o.val = 0 then F.VIO_ERR_FREEZE0 else F.VIO_ERR_FREEZE1

/-- What a finding makes the output show (11 R349). -/
def State.onFault (s : State) (o : Fin 2) (f : Fld) : State :=
  (s.put0 f 1).modOut o (fun x => { x with fault := x.fault || s.flag F.MIR_O_CFG_ON_FAULT o.val })

/-- An output frame that shows again the FCNT of the one before counts as a repeat, and FREEZE_MAX + 1 of them freeze the output
(11 R347). -/
def State.mirrorAgain (s : State) (o : Fin 2) : State :=
  let s := s.modOut o (fun x => { x with repeats := if x.fault then x.repeats else x.repeats + 1 })
  if s.rdE F.MIR_O_CFG_FREEZE_MAX o.val < (vget s.outs o).repeats then s.onFault o (freezeBit o) else s

/-- An output frame whose source is wrong (11 R347, R349): WRONGn, and the last good frame is shown again, or FAULT_RGB. -/
def State.mirrorWrong (s : State) (o : Fin 2) : State :=
  let s := (s.onFault o (wrongBit o)).modOut o (fun x => { x with hold := if x.fault then none else x.good.map (fun g => g.1) })
  if (vget s.outs o).good.isSome then s.mirrorAgain o else s

/-- One output frame of source buffer `b` (11 R345-R349): the Shadowed fields and the descriptor take effect, the record and
the payload are read and checked; `rep` tells a repeat. A damaged frame, which a refill of the buffer may leave there, is never shown
(R346; notes/assumptions/137.md). -/
def State.outFrame (s : State) (o : Fin 2) (b : Nat) (rep : Bool) : State :=
  let s := (s.takeEffect R.MIR_O_CFG o.val).takeEffect R.MIR_O_DESC o.val
  let n : Fin 16 := fin 16 (by decide) (s.rd F.MIR_O_CFG_SRC o.val)
  let m := dsiPort o
  let a := s.slotAddr n b
  let (s, d) := s.fabRead m (s.rdE F.MIR_O_DESC_ADDR o.val / 64 * 64) 64
  let (s, h) := s.fabRead m a 64
  let g := fieldAt h.data
  let fcnt := g 0 4
  let s : State := if d.st = stOK ∧ descOk d.data (g 34 1) (g 4 4) (g 28 4) then s.modOut o (fun x => { x with desc := d.data })
    else s.put0 F.VIO_ERR_DESC 1
  let (s, ok, l) := s.payload m a (g 4 4) (g 28 4)
  let now := s.stamp
  let s := s.modOut o (fun x => { x with cand := none, startedAt := now })
  let last := (vget s.outs o).shown
  let wrong := h.st != stOK || !ok || crc32 l != g 24 4 || g 32 2 != 0 || (match last with | some f => lower32 fcnt f | none => false)
  if wrong then s.mirrorWrong o
  else
    let again : Bool := rep || last == some fcnt
    let s := s.modOut o (fun x => { x with
      hold := some b
      shown := some fcnt
      good := some (b, fcnt)
      repeats := if again then x.repeats else 0
      fault := if again then x.fault else false })
    if again then s.mirrorAgain o else s

/-- Whether output `o` works: the compositor's domain and its own are on (01 R29). -/
def State.dsiOn (s : State) (o : Fin 2) : Bool := s.flag F.MIR_O_CFG_EN o.val && s.pd (53 + o.val) && s.pd 55

/-- MIRROR_FRAME_START (11 R346): a new good source frame is shown, DELAY × 100 µs after its T_END. -/
def State.mirrorStart (s : State) (o : Fin 2) : State :=
  let x := vget s.outs o
  if !s.dsiOn o ∨ s.stamp < x.candEnd + 100000 * s.rdE F.MIR_O_CFG_DELAY o.val then s
  else match x.cand with
    | some (b, _) => s.outFrame o b false
    | none => s

/-- MIRROR_REPEAT (11 R346): no new good frame has ended within REPEAT_US after the start of the output frame before; the last good
frame is shown again. -/
def State.mirrorRepeat (s : State) (o : Fin 2) : State :=
  let x := vget s.outs o
  if !s.dsiOn o ∨ x.cand.isSome ∨ s.stamp < x.startedAt + 1000 * fieldAt x.desc 30 2 then s
  else match x.good with
    | some (b, _) => s.outFrame o b true
    | none => s

/-- MIRROR_FRAME_END (11 R346): the last line has been sent and the buffer is no longer held. -/
def State.mirrorEnd (s : State) (o : Fin 2) : State := s.modOut o (fun x => { x with hold := none })

/-- EN of output `o` becomes 1 (11 R344). -/
def State.mirrorEnable (s : State) (o : Fin 2) : State :=
  let dt := s.rd F.CSI_S_CFG_DT (s.rd F.MIR_O_CFG_SRC o.val)
  if s.flag F.MIR_O_CFG_EN o.val then s
  else if dt = 0x2A ∨ dt = 0x2B ∨ dt = 0x2C then s.put0 F.VIO_ERR_SRC_FORMAT 1
  else (s.put F.MIR_O_CFG_EN o.val 0 1).modOut o (fun _ => emptyOut)

/-- EN of output `o` becomes 0. -/
def State.mirrorDisable (s : State) (o : Fin 2) : State := (s.put F.MIR_O_CFG_EN o.val 0 0).modOut o (fun _ => emptyOut)

/-! ### What an output shows -/

/-- The source pixel column or row, with 16 fraction bits, of output position `x` of `n` over a crop of `w` (11 R345 steps 1
to 3). -/
def cropPos (w n x : Nat) : Nat := x * w * 65536 / n

/-- The pixel in a column of a source line (11 R345 step 4): of RGB888 its three bytes, of YUV a conversion whose rounding is not
stated (notes/assumptions/41.md). -/
def pixelOf (dt col : Nat) (l : List Byte) : Nat := if dt = 0x24 then fieldAt l (3 * col) 3 else Config.sourcePixel dt col (ofBytes l)

/-- A pixel under the overlay at address `ov` (11 R345 step 5): itself where there is none. -/
def State.overlaid (s : State) (ov off px : Nat) : Nat := if ov = 0 then px else Config.blendPixel px (s.mem.readNat (ov + off) 4)

/-- The pixel that output `o` sends at (x, y), as RGB888 bits (11 R345): FAULT_RGB, or the crop, flipped and scaled; the
rounding of the scaler, of the BT.709 conversion and of the blend is not stated: a function of the four source samples, the
position and the overlay's pixel without a body (notes/assumptions/41.md), which a scale of 1 does not use. -/
def State.mirrorPixel (s : State) (o : Fin 2) (x y : Nat) : Nat :=
  let t := vget s.outs o
  let g := fieldAt t.desc
  let n : Fin 16 := fin 16 (by decide) (s.rd F.MIR_O_CFG_SRC o.val)
  let laid := s.overlaid (g 24 6) (4 * (y * g 0 2 + x))
  if t.fault then laid (g 21 3)
  else match t.good with
    | none => 0
    | some (b, _) =>
      let a := s.slotAddr n b
      let dt := s.mem.readNat (a + 34) 1
      let len := s.mem.readNat (a + 28) 4
      let px := cropPos (g 16 2) (g 0 2) x
      let py := cropPos (g 18 2) (g 2 2) y
      let col := fun (i : Nat) =>
        let c := min (px / 65536 + i) (g 16 2 - 1)
        g 12 2 + (if bit (g 20 1) 0 then g 16 2 - 1 - c else c)
      let line := fun (i : Nat) => g 14 2 + min (py / 65536 + i) (g 18 2 - 1)
      let at_ := fun (i j : Nat) => pixelOf dt (col i) (s.mem.readBytes (a + 4096 + line j * (cdiv len 64 * 64)) len)
      laid (if g 16 2 = g 0 2 ∧ g 18 2 = g 2 2 then at_ 0 0
        else Config.scalePixel (at_ 0 0) (at_ 1 0) (at_ 0 1) (at_ 1 1) (px % 65536) (py % 65536))

end Sys2Proof.Machine
end

