-- ==== Sys2Proof/Machine/Time.lean ====
section
/-! DEFINITION. The Main Time Unit, the Island Time Unit, timed pulses and captures (11 R350-R358). -/

namespace Sys2Proof.Machine

/-! ### The Main Time Unit -/

/-- What the MTU counts modulo: 2^48 seconds, in units of 2^-32 ns (11 R350). -/
def mtuMod : Nat := 2 ^ 48 * 1000000000 * 2 ^ 32

/-- Whether the MTU advances (11 R352): FCLK runs and its domain is powered. -/
def State.mtuRuns (s : State) : Bool := s.fclk

/-- The MTU adds one increment at an FCLK tick (11 R350). -/
def State.mtuTick (s : State) : State :=
  if s.mtuRuns then { s with mtu := (s.mtu + s.rd F.MTU_INCR_NS * 2 ^ 32 + s.rd F.MTU_INCR_FRAC) % mtuMod } else s

/-- A write of MTU_ADJ (11 R351): signed nanoseconds added. -/
def State.mtuAdj (s : State) (delta : Nat) : State :=
  { s with mtu := (((s.mtu : Int) + sext 32 delta * 2 ^ 32) % (mtuMod : Int)).toNat }

/-- MTU_SET, whose high word is written (11 R351): the time is replaced and the fraction zeroed. -/
def State.mtuSet (s : State) (t : Nat) : State := { s with mtu := t % 2 ^ 64 * 2 ^ 32 % mtuMod }

/-- Full seconds of the MTU. -/
def State.mtuSec (s : State) : Nat := s.mtu / 2 ^ 32 / 1000000000

/-- FCLK stops (11 R352). -/
def State.stopFclk (s : State) : State := if s.fclk then ({ s with fclk := false } : State).put0 F.MTU_CTRL_LOST 1 else s

/-- FCLK runs again. -/
def State.startFclk (s : State) : State := { s with fclk := true }

/-! ### The Island Time Unit -/

/-- The ticks of 2.5 ns in the first `n` periods of the 32.768 kHz clock, 12,207 or 12,208 each (11 R353). -/
def slowTicks (n : Nat) : Nat := n * 390625 / 32

/-- Periods of the 32.768 kHz clock in `t` ns. -/
def slowPeriods (t : Nat) : Nat := t * 32768 / 1000000000

/-- ITU_COUNT after one nanosecond more (11 R353). -/
def State.ituTick (s : State) : State :=
  let t := s.ticks
  let d := if s.islClk then (t + 1) * 2 / 5 - t * 2 / 5 else slowTicks (slowPeriods (t + 1)) - slowTicks (slowPeriods t)
  { s with itu := (s.itu + d) % 2 ^ 64 }

/-- The accrued correction (11 R354). -/
def State.ituCorr (s : State) : Int :=
  fdiv (((s.itu + 2 ^ 64 - s.ituBase) % 2 ^ 64 : Nat) * sext 32 (s.rd F.ITU_RATE_RATE)) (2 ^ 40)

/-- ITU_TIME (11 R354). -/
def State.ituTime (s : State) : Nat := toU 64 ((s.itu : Int) + sext 64 (s.rd F.ITU_OFFSET_OFFSET) + s.ituCorr)

/-- A write of ITU_RATE (11 R354): the accrued correction is folded into ITU_OFFSET and the base moves. -/
def State.ituRate (s : State) (v : Nat) : State :=
  let o := toU 64 (sext 64 (s.rd F.ITU_OFFSET_OFFSET) + s.ituCorr)
  ({ (s.put0 F.ITU_OFFSET_OFFSET o) with ituBase := s.itu } : State).put0 F.ITU_RATE_RATE v

/-! ### Timed pulses -/

/-- A timed pulse changed. -/
def State.modPulse (s : State) (n : Fin 8) (f : Pulse → Pulse) : State := { s with pulses := vmod s.pulses n f }

/-- The first due time after `now` of a periodic pulse that was due at `t` (11 R357). -/
def nextDue (t period now : Nat) : Nat := t + ((now - t) / period + 1) * period

/-- Whether pulse `n` is due: armed, and the MTU runs and has reached the due time (11 R352, R356). -/
def State.pulseDue (s : State) (n : Fin 8) : Option Nat :=
  match (vget s.pulses n).due with
  | some t => if s.flag F.TP_CFG_EN n.val ∧ s.mtuRuns ∧ t ≤ s.stamp then some t else none
  | none => none

/-- A fusion cycle opens where GA_CFG.TRIG names the pulse (11 R364): its number, T_k and T_k + CLOSE_US; CLOSE_US takes effect. -/
def State.openCycle (s : State) (n : Nat) (t : Nat) : State :=
  if s.flag F.GA_CFG_EN ∧ s.rd F.GA_CFG_TRIG = n then
    let s := s.takeEffect R.GA_CFG
    let k := match s.ga.opens.head? with | some (k, _) => k + 1 | none => 0
    { s with ga := { s.ga with opens := ((k, t, t + 1000 * s.rdE F.GA_CFG_CLOSE_US) :: s.ga.opens).take 16 } }
  else s

/-- TIMED_PULSE_FIRE (11 R356, R357; 09 R269): the Shadowed fields take effect, the due time advances, the pin shows the
pulse, and cyclic tables and the Grid Aligner are fed. -/
def State.pulseFire (s : State) (n : Fin 8) : State :=
  match s.pulseDue n with
  | none => s
  | some t =>
    let s := s.takeEffect R.TP_CFG n.val
    let p := s.rdE F.TP_CFG_PERIOD n.val * 1000
    let s := s.modPulse n (fun x => { x with
      due := if p = 0 then none else some (nextDue t p s.stamp)
      high := s.flag F.TP_CFG_PIN_EN n.val
      firedAt := s.stamp })
    (s.openRounds n.val t).openCycle n.val t

/-- TIMED_PULSE_WIDTH_END (11 R356): the pin returns once WIDTH µs have passed since the firing. -/
def State.pulseEnd (s : State) (n : Fin 8) : State :=
  if s.stamp < (vget s.pulses n).firedAt + 1000 * s.rdE F.TP_CFG_WIDTH n.val then s else s.modPulse n (fun x => { x with high := false })

/-- The level of pin TPOn (TPn_CFG.POL). -/
def State.pulsePin (s : State) (n : Fin 8) : Bool := (vget s.pulses n).high != s.flag F.TP_CFG_POL n.val

/-- A write of TPn_START, or EN becoming 1, arms the pulse with TPn_START (11 R357). -/
def State.pulseArm (s : State) (n : Fin 8) : State := s.modPulse n (fun x => { x with due := some (s.rd F.TP_START_TIME n.val) })

/-- EN becoming 0 disarms the pulse. -/
def State.pulseDisarm (s : State) (n : Fin 8) : State := s.modPulse n (fun x => { x with due := none })

/-! ### Captures -/

/-- The LEVEL field follows the queue (11 R358). -/
def State.capLevel (s : State) (n : Fin 16) : State := s.put F.CAP_CFG_LEVEL n.val 0 (vget s.caps n).length

/-- The pending edge of a capture input changed. -/
def State.setEdge (s : State) (n : Fin 16) (e : Option CapEdge) : State := { s with capIn := vmod s.capIn n (fun _ => e) }

/-- CAPTURE_EDGE (11 R358): an edge at an enabled input waits for the filter; one that undoes the edge before it within 10 ns is the
end of a pulse that the filter rejects. -/
def State.captureEdge (s : State) (n : Fin 16) (rising : Bool) : State :=
  if !s.flag F.CAP_CFG_EN n.val then s
  else match vget s.capIn n with
    | some e => if e.rising = rising then s else s.setEdge n none
    | none => s.setEdge n (some ⟨s.ticks, rising, s.stamp⟩)

/-- An edge that the filter has passed is latched where EDGE selects it, or discarded with OVF (11 R358). -/
def State.captureLatch (s : State) (n : Fin 16) (e : CapEdge) : State :=
  let g := s.rd F.CAP_CFG_EDGE n.val
  let hit := if e.rising then g == 0 || g == 2 else g == 1 || g == 2
  if !s.flag F.CAP_CFG_EN n.val ∨ !hit then s
  else if 4 ≤ (vget s.caps n).length then s.put F.CAP_CFG_OVF n.val 0 1
  else ({ s with caps := vmod s.caps n (fun l => l ++ [e.time]) } : State).capLevel n

/-- The capture filters at an FCLK tick: an input that has kept its level for 10 ns has no pulse shorter than that (11 R358). -/
def State.captureTick (s : State) : State :=
  (List.finRange 16).foldl (fun s n => match vget s.capIn n with
    | some e => if e.tick + 10 ≤ s.ticks then (s.setEdge n none).captureLatch n e else s
    | none => s) s

/-- What CAPn_TS reads: the oldest entry, 0 where there is none (11 R358). -/
def State.capValue (s : State) (n : Fin 16) : Nat := (vget s.caps n).headD 0

/-- CAPTURE_READ (11 R358; 00 R5): the read of the high word answers it and removes the oldest entry. -/
def State.captureRead (s : State) (n : Fin 16) : State :=
  let a := R.CAP_TS.addr n.val 0
  let v := match s.regs.hi.find? (fun c => c.1 == a) with | some c => c.2 | none => s.capValue n / 2 ^ 32
  let s : State := { s with regs := { s.regs with hi := s.regs.hi.filter (fun c => c.1 != a) }, resp := ⟨stOK, leBytes v 4⟩ }
  ({ s with caps := vmod s.caps n (fun l => l.drop 1) } : State).capLevel n

end Sys2Proof.Machine
end

