-- ==== Sys2Proof/Machine/Cabin.lean ====
section
/-! DEFINITION. The CAN and LIN controllers, GPIOs and island timers (13 R433-R436; 19 R617). -/

namespace Sys2Proof.Machine

/-! ### CAN -/

/-- The identifier word of a frame: extended, FDF, XLF, and the identifier (19 R617). -/
def canExt (w : Nat) : Bool := bit w 31
def canFd (w : Nat) : Bool := bit w 30
def canXl (w : Nat) : Bool := bit w 29

/-- The order of arbitration: the 11 base bits, then a standard identifier before an extended one, then the rest. -/
def canKey (w : Nat) : Nat :=
  if canExt w then bits w 28 18 * 2 ^ 19 + 2 ^ 18 + bits w 17 0 else bits w 10 0 * 2 ^ 19

/-- An interrupt bit of controller `n` set (19 R617). -/
def State.canIrq (s : State) (n : Fin 12) (b : Nat) : State :=
  let s := s.put F.CAN_IRQ_IRQ n.val 0 (s.rd F.CAN_IRQ_IRQ n.val ||| 2 ^ b)
  if bit (s.rd F.CAN_IRQ_EN_EN n.val) b then s.tell (.irq "CAN" n.val) else s

/-- Whether a controller takes part in its bus: enabled and not bus-off (13 R434). -/
def State.canOn (s : State) (n : Fin 12) : Bool := s.flag F.CAN_CTRL_EN n.val && s.rd F.CAN_STAT_STATE n.val != 2 && s.pd 3

/-- Whether an enabled acceptance filter takes an identifier word (13 R433; notes/assumptions/45.md). -/
def State.canAccepts (s : State) (n : Fin 12) (w : Nat) : Bool :=
  (List.range 128).any (fun f =>
    let m := s.rd F.CAN_FILT_MASK_MASK n.val f
    s.flag F.CAN_FILT_ID_EN n.val f && s.flag F.CAN_FILT_MASK_EXT n.val f == canExt w
      && Nat.land (bits w 28 0) m == Nat.land (s.rd F.CAN_FILT_ID_ID n.val f) m)

/-- Whether a frame's format fits the controller's (19 R617; 13 R433). -/
def State.canFits (s : State) (n : Fin 12) (w len : Nat) : Bool :=
  let f := s.rd F.CAN_CTRL_FORMAT n.val
  if canXl w then f == 2 && decide (10 ≤ n.val) && decide (1 ≤ len ∧ len ≤ 2048)
  else if canFd w then decide (1 ≤ f) && decide (len ≤ 64)
  else decide (len ≤ 8)

/-- Bytes of a receive ring slot (19 R617). -/
def canSlot (n : Fin 12) : Nat := if n.val < 10 then 80 else 2064

/-- A frame record (19 R617). -/
def canRecord (stamp w : Nat) (l : List Byte) : List Byte :=
  leBytes stamp 8 ++ leBytes w 4 ++ leBytes l.length 2 ++ leBytes 0 2 ++ l ++ List.replicate ((4 - l.length % 4) % 4) 0

/-- CAN_FRAME_RECEIVE (13 R434): stamped into the ring, or discarded and counted where the ring is full. -/
def State.canReceive (s : State) (n : Fin 12) (w : Nat) (l : List Byte) : State :=
  let len := s.rd F.CAN_RX_LEN_LEN n.val
  if !s.canOn n ∨ !s.canFits n w l.length ∨ !s.canAccepts n w then s
  else if len ≤ (vget s.cans n).fill then
    (({ s with cans := vmod s.cans n (fun c => { c with lost := c.lost + 1 }) } : State).put F.CAN_STAT_RX_OVERRUN n.val 0 1).canIrq n 4
  else
    let h := s.rd F.CAN_RX_HEAD_HEAD n.val
    let s := (s.fabWrite (.can n) (s.rd F.CAN_RX_BASE_V n.val + canSlot n * h) (canRecord s.ituTime w l)).1
    (({ s with cans := vmod s.cans n (fun c => { c with fill := c.fill + 1 }) } : State).put F.CAN_RX_HEAD_HEAD n.val 0
      ((h + 1) % len)).canIrq n 0

/-- Software writes its read index: the slots it passed are free; a full ring whose index comes back to the same place is
empty (19 R617; notes/assumptions/46.md). -/
def State.canTail (s : State) (n : Fin 12) (v : Nat) : State :=
  let len := s.rd F.CAN_RX_LEN_LEN n.val
  let d := if len = 0 then 0 else (v + len - s.rd F.CAN_RX_TAIL_TAIL n.val % len) % len
  ({ s with cans := vmod s.cans n (fun c => { c with fill := if d = 0 ∧ c.fill = len then 0 else c.fill - d }) } : State).put
    F.CAN_RX_TAIL_TAIL n.val 0 v

/-- A write of CAN_TX_REQ (13 R434; 19 R617): buffers become ready. -/
def State.canRequest (s : State) (n : Fin 12) (v : Nat) : State :=
  s.put F.CAN_TX_REQ_REQ n.val 0 (s.rd F.CAN_TX_REQ_REQ n.val ||| v)

/-- A write of CAN_TX_ABORT (19 R617): buffers are withdrawn. -/
def State.canAbort (s : State) (n : Fin 12) (v : Nat) : State :=
  s.put F.CAN_TX_REQ_REQ n.val 0 (s.rd F.CAN_TX_REQ_REQ n.val &&& ((2 ^ 32 - 1) ^^^ (v % 2 ^ 32)))

/-- The identifier words of the ready buffers of controller `n`, by buffer. -/
def State.canReady (s : State) (n : Fin 12) : State × List (Nat × Nat) :=
  (List.range 32).foldl (fun (acc : State × List (Nat × Nat)) b =>
    if !bit (acc.1.rd F.CAN_TX_REQ_REQ n.val) b then acc
    else
      let (s, r) := acc.1.fabRead (.can n) (acc.1.rd F.CAN_TXBUF_ADDR n.val b / 16 * 16) 16
      (s, acc.2 ++ [(b, fieldAt r.data 8 4)])) (s, [])

/-- The buffer that is sent first: the lowest identifier, then the lowest number (13 R434). -/
def canWinner (l : List (Nat × Nat)) : Option Nat :=
  (sortBy (fun (p q : Nat × Nat) => decide (canKey p.2 < canKey q.2 ∨ (canKey p.2 = canKey q.2 ∧ p.1 ≤ q.1))) l).head?.map
    (fun p => p.1)

/-- CAN_FRAME_SENT (13 R434): the winning buffer's frame has been sent; it is stamped and marked done. -/
def State.canSent (s : State) (n : Fin 12) : State :=
  if !s.canOn n then s
  else
    let (t, l) := s.canReady n
    match canWinner l with
    | none => s
    | some b =>
      let t := (t.fabWrite (.can n) (t.rd F.CAN_TXBUF_ADDR n.val b / 16 * 16) (leBytes t.ituTime 8)).1
      ((t.canAbort n (2 ^ b)).put F.CAN_TX_DONE_DONE n.val 0 (t.rd F.CAN_TX_DONE_DONE n.val ||| 2 ^ b)).canIrq n 1

/-- A bus-off controller takes part in its bus again, error active with its counters at 0. -/
def State.canRecover (s : State) (n : Fin 12) : State :=
  ((s.put F.CAN_STAT_STATE n.val 0 0).put F.CAN_STAT_REC n.val 0 0).put F.CAN_STAT_TEC n.val 0 0

/-- CAN_BUS_OFF (13 R434). -/
def State.canBusOff (s : State) (n : Fin 12) : State :=
  if s.canOn n then ((s.put F.CAN_STAT_STATE n.val 0 2).canIrq n 3).canIrq n 2 else s

/-- CAN_BUS_OFF_RECOVERY (13 R434): with AUTO_RECOV = 1. -/
def State.canAutoRecover (s : State) (n : Fin 12) : State :=
  if s.flag F.CAN_CTRL_EN n.val ∧ s.rd F.CAN_STAT_STATE n.val = 2 ∧ s.flag F.CAN_CTRL_AUTO_RECOV n.val then s.canRecover n else s

/-- A write of CAN_CTRL.RESTART (13 R434). -/
def State.canRestart (s : State) (n : Fin 12) : State := if s.rd F.CAN_STAT_STATE n.val = 2 then s.canRecover n else s

/-! ### LIN -/

/-- The protected identifier of a six-bit identifier (ISO 17987, 13 R435). -/
def linPid (id : Nat) : Nat :=
  let b := fun i => b2n (bit id i)
  let p0 := (b 0 + b 1 + b 2 + b 4) % 2
  let p1 := 1 - (b 1 + b 3 + b 4 + b 5) % 2
  id % 64 + 64 * p0 + 128 * p1

/-- The inverted sum with carry of some bytes (ISO 17987, 13 R435). -/
def linSum (l : List Nat) : Nat := 255 - l.foldl (fun a b => let t := a + b; if 256 ≤ t then t - 255 else t) 0

/-- LIN_START (13 R435): a commander begins a frame. -/
def State.linStart (s : State) (n : Fin 4) : State :=
  if s.flag F.LIN_CTRL_EN n.val ∧ s.flag F.LIN_CTRL_COMMANDER n.val then
    { s with isl := { s.isl with lin := Nat.lor s.isl.lin (2 ^ n.val) } } else s

/-- Whether a frame is under way on controller `n`: one it began, or any where it is a responder. -/
def State.linBusy (s : State) (n : Fin 4) : Bool :=
  s.flag F.LIN_CTRL_EN n.val && (!s.flag F.LIN_CTRL_COMMANDER n.val || bit s.isl.lin n.val)

/-- The frame of controller `n` is over. -/
def State.linIdle (s : State) (n : Fin 4) : State :=
  ({ s with isl := { s.isl with lin := if bit s.isl.lin n.val then s.isl.lin - 2 ^ n.val else s.isl.lin } } : State).tell
    (.irq "LIN" n.val)

/-- LIN_DONE (13 R435): the frame on the bus is over: break and synchronisation field as they were found, the protected
identifier, the data and the checksum; the checks of the hardware are recorded, and the data kept. -/
def State.linDone (s : State) (n : Fin 4) (breakOk syncOk : Bool) (pid : Nat) (l : List Byte) (chk : Nat) : State :=
  if !s.linBusy n then s
  else
    let d := l.map (fun b => b.toNat)
    let want := linSum (if s.flag F.LIN_CTRL_ENHANCED n.val then pid % 256 :: d else d)
    let s := if breakOk then s else s.put F.LIN_STAT_BREAK n.val 0 1
    let s := if syncOk then s else s.put F.LIN_STAT_SYNC n.val 0 1
    let s := if linPid pid = pid % 256 then s else s.put F.LIN_STAT_PARITY n.val 0 1
    let s := if want = chk % 256 then s else s.put F.LIN_STAT_CHECKSUM n.val 0 1
    let v := ofBytes (l.take 8)
    ((((s.put F.LIN_DATA0_DATA n.val 0 (v % 2 ^ 32)).put F.LIN_DATA1_DATA n.val 0 (v / 2 ^ 32)).put F.LIN_PID_PID n.val 0
      (pid % 256)).put F.LIN_STAT_DONE n.val 0 1).linIdle n

/-- LIN_RESPONSE_TIMEOUT (13 R435). -/
def State.linTimeout (s : State) (n : Fin 4) : State :=
  if s.linBusy n then (s.put F.LIN_STAT_TIMEOUT n.val 0 1).linIdle n else s

/-- LIN_WAKE_UP (13 R435): detected only while PD3 is powered. -/
def State.linWake (s : State) (n : Fin 4) : State := if s.pd 3 then s.tell (.irq "LIN_WAKE" n.val) else s

/-! ### GPIO and timers -/

/-- GPIO_EDGE (13 R436): an input's debounced level changes. -/
def State.gpioEdge (s : State) (n : Fin 32) (rising : Bool) : State :=
  if bit (s.rd F.GPIO_DIR_V) n.val ∨ bit (s.rd F.GPIO_IN_V) n.val = rising ∨ !s.pd 3 then s
  else
    let s := s.put0 F.GPIO_IN_V (putBits (s.rd F.GPIO_IN_V) n.val n.val (b2n rising))
    if bit (s.rd (if rising then F.GPIO_RISE_EN_V else F.GPIO_FALL_EN_V)) n.val then
      (s.put0 F.GPIO_IRQ_V (s.rd F.GPIO_IRQ_V ||| 2 ^ n.val)).tell (.irq "GPIO" n.val)
    else s

/-- ISLAND_TIMER_EXPIRE (13 R436): an enabled timer's compare value is reached; a periodic timer's advances. -/
def State.timerExpire (s : State) (t : Fin 8) : State :=
  if !s.flag F.TMR_CTRL_EN t.val ∨ bit s.isl.timers t.val ∨ s.itu < s.rd F.TMR_CMP_CMP t.val then s
  else
    let s := (s.put F.TMR_IRQ_IRQ t.val 0 1).tell (.irq "TIMER" t.val)
    if s.flag F.TMR_CTRL_PERIODIC t.val ∧ s.rd F.TMR_PERIOD_PERIOD t.val ≠ 0 then
      s.put F.TMR_CMP_CMP t.val 0 (s.rd F.TMR_CMP_CMP t.val + s.rd F.TMR_PERIOD_PERIOD t.val)
    else { s with isl := { s.isl with timers := Nat.lor s.isl.timers (2 ^ t.val) } }

/-- A timer's control or compare register is written: it may expire again. -/
def State.timerRearm (s : State) (t : Fin 8) : State :=
  { s with isl := { s.isl with timers := if bit s.isl.timers t.val then s.isl.timers - 2 ^ t.val else s.isl.timers } }

end Sys2Proof.Machine
end

