-- ==== Sys2Proof/Machine/Network.lean ====
section
/-! DEFINITION. The TSN switch and the island Ethernet MAC (13 R446-R449; 19 R628, R630). -/

namespace Sys2Proof.Machine

/-- The switch changed. -/
def State.modSw (s : State) (f : Switch → Switch) : State := { s with sw := f s.sw }

/-! ### Descriptor rings (19 R628) -/

/-- One descriptor: buffer, length, status, timestamp. -/
structure Desc16 where
  buf : Nat
  len : Nat
  st : Nat
  ts : Nat

/-- A descriptor's bytes read. -/
def Desc16.of (l : List Byte) : Desc16 := ⟨fieldAt l 0 4, fieldAt l 4 2, fieldAt l 6 2, fieldAt l 8 8⟩

/-- A descriptor's bytes. -/
def Desc16.bytes (d : Desc16) : List Byte := leBytes d.buf 4 ++ leBytes d.len 2 ++ leBytes d.st 2 ++ leBytes d.ts 8

/-- A ring of descriptors: its master, the address of descriptor 0, the base of buffer addresses, its length, the hardware's
index. -/
structure DRing where
  m : Master
  base : Nat
  off : Nat
  len : Nat
  head : Nat

/-- Descriptor `i` past the hardware's index. -/
def State.ringDesc (s : State) (r : DRing) (i : Nat) : State × Desc16 :=
  let (s, x) := s.fabRead r.m (r.base + 16 * ((r.head + i) % r.len)) 16
  (s, Desc16.of x.data)

/-- The descriptors owned by the hardware that take `n` bytes, in order; none where there are too few. -/
def State.rxRoom (s : State) (r : DRing) (n : Nat) : State × Option (List Desc16) :=
  let (s, l, _) := (List.range r.len).foldl (fun (acc : State × List Desc16 × Bool) i =>
    let (s, l, stop) := acc
    if stop ∨ n ≤ (l.map (fun d => d.len)).foldl (· + ·) 0 then (s, l, true)
    else
      let (s, d) := s.ringDesc r i
      if bit d.st 15 then (s, l ++ [d], false) else (s, l, true)) (s, [], false)
  (s, if n ≤ (l.map (fun d => d.len)).foldl (· + ·) 0 ∧ !l.isEmpty then some l else none)

/-- A received frame written through a ring (19 R628): the buffers in order, each descriptor given back with its length, the
timestamp, and LAST on the last; the state and the new index, none where the ring is full. -/
def State.ringPut (s : State) (r : DRing) (ts : Nat) (l : List Byte) : State × Option Nat :=
  let (s, room) := s.rxRoom r l.length
  match room with
  | none => (s, none)
  | some ds =>
    let (s, _, i) := ds.foldl (fun (acc : State × List Byte × Nat) d =>
      let (s, rest, i) := acc
      let part := rest.take d.len
      let s := if part.isEmpty then s else (s.fabWrite r.m (r.off + d.buf) part).1
      let last := rest.length ≤ d.len
      let s := (s.fabWrite r.m (r.base + 16 * ((r.head + i) % r.len))
        (Desc16.bytes { d with len := part.length, st := (if last then 2 ^ 14 else 0) + 1, ts := ts })).1
      (s, rest.drop d.len, i + 1)) (s, l, 0)
    (s, some ((r.head + i) % r.len))

/-- The frame at the front of a transmit ring (19 R628): its bytes, the descriptors given back with a timestamp, and the new
index; none where the hardware owns no whole frame up to index `tail`. -/
def State.ringTake (s : State) (r : DRing) (tail ts : Nat) : State × Option (List Byte × Nat) :=
  let n := if r.len = 0 then 0 else (tail + r.len - r.head % r.len) % r.len
  let (s, l, done) := (List.range n).foldl (fun (acc : State × List Desc16 × Bool) i =>
    let (s, l, done) := acc
    if done then acc
    else
      let (s, d) := s.ringDesc r i
      if bit d.st 15 then (s, l ++ [d], bit d.st 14) else (s, l, false)) (s, [], false)
  if !done then (s, none)
  else
    let (s, bytes, i) := l.foldl (fun (acc : State × List Byte × Nat) d =>
      let (s, b, i) := acc
      let (s, x) := s.fabRead r.m (r.off + d.buf) d.len
      let st := (if bit d.st 14 then 2 ^ 14 else 0) + (if x.st = stOK then 0 else 2) + 1
      let s := (s.fabWrite r.m (r.base + 16 * ((r.head + i) % r.len)) (Desc16.bytes { d with st := st, ts := ts })).1
      (s, b ++ x.data, i + 1)) (s, [], 0)
    (s, some (bytes, (r.head + i) % r.len))

/-! ### The island Ethernet MAC (19 R628) -/

/-- An interrupt of the MAC. -/
def State.ethIrq (s : State) (b : Nat) : State :=
  let s := s.put0 F.ETH_IRQ_IRQ (s.rd F.ETH_IRQ_IRQ ||| 2 ^ b)
  if bit (s.rd F.ETH_IRQ_EN_EN) b then s.tell (.irq "ETH" b) else s

/-- The MAC's rings. -/
def State.ethRx (s : State) : DRing :=
  ⟨.ethDma, s.rd F.ETH_RX_BASE_BASE, 0, s.rd F.ETH_RX_LEN_LEN, s.rd F.ETH_RX_HEAD_HEAD⟩
def State.ethTx (s : State) : DRing :=
  ⟨.ethDma, s.rd F.ETH_TX_BASE_BASE, 0, s.rd F.ETH_TX_LEN_LEN, s.rd F.ETH_TX_HEAD_HEAD⟩

/-- Whether the MAC takes a frame: its own address, a group address, or any with PROMISC (notes/assumptions/47.md). -/
def State.ethTakes (s : State) (l : List Byte) : Bool :=
  let dst := ofBytes (l.take 6)
  s.flag F.ETH_CFG_PROMISC || bit dst 0 || dst == s.rd F.ETH_ADDR_LO_V + s.rd F.ETH_ADDR_HI_V * 2 ^ 32

/-- ETH_FRAME_RECEIVE (19 R628): the oldest frame from the switch is written through the receive ring, or discarded and counted. -/
def State.ethReceive (s : State) : State :=
  match s.sw.toMac with
  | [] => s
  | (ts, l) :: rest =>
    let s := s.modSw (fun w => { w with toMac := rest })
    if !s.flag F.ETH_CFG_EN ∨ !s.ethTakes l then s
    else match s.ringPut s.ethRx ts l with
      | (s, some h) => (s.put0 F.ETH_RX_HEAD_HEAD h).ethIrq 0
      | (s, none) => (s.put0 F.ETH_RX_DROP_CNT (satInc 32 (s.rd F.ETH_RX_DROP_CNT))).ethIrq 2

/-! ### The switch -/

/-- Whether a port's domains are on (13 R446). -/
def State.swPortOn (s : State) (p : Nat) : Bool :=
  s.pd 42 && s.pd 61 && s.pd (if p < 4 then 43 + p else if p < 7 then 47 else if p < 10 then 48 else 42)

/-- Whether a port forwards: the switch and the port enabled and powered. -/
def State.swPort (s : State) (p : Nat) : Bool := s.flag F.SW_CTRL_EN && s.flag F.SW_P_CFG_EN p && s.swPortOn p

/-- The parts of a frame that bridging looks at: destination, source, VID and priority where it is tagged, the bytes without
the tag (IEEE 802.1Q; 13 R447). -/
structure EthFrame where
  dst : Nat
  src : Nat
  tag : Option (Nat × Nat)
  rest : List Byte

/-- A frame parsed; addresses as numbers of their bytes in order of transfer, least significant first. -/
def EthFrame.of (l : List Byte) : EthFrame :=
  let dst := ofBytes (l.take 6)
  let src := ofBytes ((l.drop 6).take 6)
  let ty := ofBytesBE ((l.drop 12).take 2)
  if ty = 0x8100 then
    let tci := ofBytesBE ((l.drop 14).take 2)
    ⟨dst, src, some (tci % 4096, tci / 8192), l.drop 16⟩
  else ⟨dst, src, none, l.drop 12⟩

/-- A frame's bytes with or without a tag. -/
def EthFrame.bytes (f : EthFrame) (tag : Option (Nat × Nat)) : List Byte :=
  leBytes f.dst 6 ++ leBytes f.src 6 ++ (match tag with
    | some (vid, prio) => beBytes 0x8100 2 ++ beBytes (prio * 8192 + vid) 2
    | none => []) ++ f.rest

/-- The forwarding entry's words (19 R630; the layout of the words is the model's, notes/assumptions/48.md): MAC low, MAC high
with the VID at [27:16], port mask, static flag. -/
def fdbMac (l : List Nat) : Nat := nth 0 l 0 + nth 0 l 1 % 65536 * 2 ^ 32
def fdbVid (l : List Nat) : Nat := bits (nth 0 l 1) 27 16
def fdbMask (l : List Nat) : Nat := bits (nth 0 l 2) 11 0
def fdbStatic (l : List Nat) : Bool := bit (nth 0 l 3) 0
def fdbWords (mac vid mask : Nat) : List Nat := [mac % 2 ^ 32, mac / 2 ^ 32 % 65536 + vid * 65536, mask, 0]

/-- A counter of a port (SW_Pp_CNT): received 0 to 7, sent 8 to 15 and dropped 16 to 23 by queue, Qci drops 24. -/
def State.swCount (s : State) (p i : Nat) : State := s.put F.SW_P_CNT_CNT p i (satInc 32 (s.rd F.SW_P_CNT_CNT p i))

/-- The source address learned (IEEE 802.1Q; notes/assumptions/48.md): its dynamic entry points to the port, a new one takes the
lowest free index. -/
def State.swLearn (s : State) (mac vid p : Nat) : State :=
  if bit mac 0 then s
  else match s.sw.fdb.find? (fun e => fdbMac e.2 == mac && fdbVid e.2 == vid) with
    | some (i, l) =>
      if fdbStatic l then s
      else s.modSw (fun w => { w with fdb := (i, fdbWords mac vid (2 ^ p)) :: w.fdb.filter (fun e => e.1 != i) })
    | none => match (List.range 8192).find? (fun i => s.sw.fdb.all (fun e => e.1 != i)) with
      | some i => s.modSw (fun w => { w with fdb := (i, fdbWords mac vid (2 ^ p)) :: w.fdb })
      | none => s

/-- The ports that may carry a VLAN: the member mask, or every port where the switch is not VLAN-aware. -/
def State.swMembers (s : State) (vid : Nat) : Nat :=
  if !s.flag F.SW_CTRL_VLAN_AWARE then 4095
  else match s.sw.vlan.find? (fun e => e.1 == vid) with
    | some (_, v) => bits v 11 0
    | none => 0

/-- Whether a port sends a VLAN's frames untagged. -/
def State.swUntagged (s : State) (vid p : Nat) : Bool :=
  match s.sw.vlan.find? (fun e => e.1 == vid) with
  | some (_, v) => bit (bits v 27 16) p
  | none => false

/-- The egress timestamp of a gPTP event frame (13 R447; 19 R630): a FIFO of 64 entries. -/
def State.swStamp (s : State) (p : Nat) (f : EthFrame) : State :=
  let ty := ofBytesBE (f.rest.take 2)
  let msg := (nth 0 f.rest 2).toNat % 16
  if ty ≠ 0x88F7 ∨ 4 ≤ msg then s
  else if 64 ≤ s.sw.ptp.length then s.put0 F.SW_STAT_PTP_OVF 1
  else s.modSw (fun w => { w with ptp := w.ptp ++ [(p, ofBytesBE ((f.rest.drop 32).take 2), s.stamp)] })

/-- The rings of the fabric port (19 R630): 32-bit addresses are offsets into LPDDR5X (notes/assumptions/49.md). -/
def State.fabRx (s : State) : DRing :=
  ⟨.port 35, 0x100000000 + s.rd F.SW_FAB_RX_BASE_BASE, 0x100000000, s.rd F.SW_FAB_RX_LEN_LEN, s.rd F.SW_FAB_RX_HEAD_HEAD⟩
def State.fabTx (s : State) : DRing :=
  ⟨.port 35, 0x100000000 + s.rd F.SW_FAB_TX_BASE_BASE, 0x100000000, s.rd F.SW_FAB_TX_LEN_LEN, s.rd F.SW_FAB_TX_HEAD_HEAD⟩

/-- A frame leaves on one egress port (13 R446, R448): to an external PHY, to memory, or to the island MAC. -/
def State.swEgress (s : State) (p q : Nat) (vid prio : Nat) (f : EthFrame) : State :=
  let l := f.bytes (if s.flag F.SW_CTRL_VLAN_AWARE then (if s.swUntagged vid p then none else some (vid, prio)) else f.tag)
  let s := s.swStamp p f
  if p = 10 then
    match s.ringPut s.fabRx s.stamp l with
    | (s, some h) => (s.put0 F.SW_FAB_RX_HEAD_HEAD h).swCount 10 (8 + q)
    | (s, none) => s.swCount 10 (16 + q)
  else if p = 11 then (s.modSw (fun w => { w with toMac := w.toMac ++ [(s.stamp, l)] })).swCount 11 (8 + q)
  else (s.modSw (fun w => { w with out := (p, q, l) :: w.out })).swCount p (8 + q)

/-- A frame received on a port (13 R447, R448): `blocked` tells that a Qci filter, gate or meter blocks it, `full` names the
ports whose egress queue is full. -/
def State.swReceive (s : State) (p : Fin 12) (l : List Byte) (blocked : Bool) (full : BitVec 12) : State :=
  if !s.swPort p.val ∨ 9216 < l.length then s
  else
    let f := EthFrame.of l
    let (vid, prio) := match f.tag with
      | some (v, pr) => (if v = 0 then s.rd F.SW_P_CFG_VID p.val else v, pr)
      | none => (s.rd F.SW_P_CFG_VID p.val, s.rd F.SW_P_CFG_PRIO p.val)
    let tc := fun (e : Nat) => bits (s.rd F.SW_P_TC_MAP_MAP e) (3 * prio + 2) (3 * prio)
    let s := s.swCount p.val (tc p.val)
    if blocked then s.swCount p.val 24
    else if !bit (s.swMembers vid) p.val then s.swCount p.val (16 + tc p.val)
    else
      let s := s.swLearn f.src vid p.val
      let mask := match s.sw.fdb.find? (fun e => fdbMac e.2 == f.dst && fdbVid e.2 == vid) with
        | some (_, e) => fdbMask e
        | none => 4095
      (List.range 12).foldl (fun s e =>
        if e = p.val ∨ !bit mask e ∨ !bit (s.swMembers vid) e ∨ !s.swPort e then s
        else if full.getLsbD e then s.swCount e (16 + tc e)
        else s.swEgress e (tc e) vid prio f) s

/-- SWITCH_FRAME_RECEIVE (13 R446-R448): a frame arrives on an external port, or is taken from the fabric port's transmit ring. -/
def State.switchFrame (s : State) (p : Fin 12) (l : List Byte) (blocked : Bool) (full : BitVec 12) : State :=
  if p.val = 10 then
    match s.ringTake s.fabTx (s.rd F.SW_FAB_TX_TAIL_TAIL) s.stamp with
    | (t, some (b, h)) => (t.put0 F.SW_FAB_TX_HEAD_HEAD h).swReceive p b blocked full
    | (_, none) => s
  else if p.val = 11 then s
  else s.swReceive p l blocked full

/-- ETH_FRAME_SEND (19 R628): the next frame of the transmit ring goes to switch port 11. -/
def State.ethSend (s : State) (blocked : Bool) (full : BitVec 12) : State :=
  if !s.flag F.ETH_CFG_EN then s
  else match s.ringTake s.ethTx (s.rd F.ETH_TX_TAIL_TAIL) s.stamp with
    | (t, some (b, h)) => ((t.put0 F.ETH_TX_HEAD_HEAD h).ethIrq 1).swReceive 11 b blocked full
    | (_, none) => s

/-- GCL_SWITCH (13 R447; 19 R630): at its base time a port's administrative list becomes operational. -/
def State.gclSwitch (s : State) (p : Fin 12) : State :=
  if !bit s.sw.gcl p.val ∨ s.stamp < s.rd F.SW_P_GCL_BASE_TIME p.val then s
  else
    let s := (List.range 256).foldl (fun s i =>
      s.setReg R.SW_P_GCL_OPER p.val i (s.regVal R.SW_P_GCL_ADMIN p.val i)) s
    (s.put F.SW_P_GCL_CHANGE_GO p.val 0 0).modSw (fun w => { w with gcl := w.gcl - 2 ^ p.val })

/-- SW_Pp_GCL_CHANGE.GO written 1 (19 R630). -/
def State.gclChange (s : State) (p : Fin 12) : State :=
  (s.put F.SW_P_GCL_CHANGE_GO p.val 0 1).modSw (fun w => { w with gcl := Nat.lor w.gcl (2 ^ p.val) })

/-! ### Table commands (19 R630): the entry is written or read and BUSY is 0 again -/

/-- A command of the forwarding table: 0 read, 1 write, 2 delete, 3 flush of what is not static. -/
def State.fdbCommand (s : State) (op idx : Nat) : State :=
  let words := (List.range 4).map (fun i => s.rd F.SW_FDB_DATA_DATA i)
  match op with
  | 0 =>
    let l := ((s.sw.fdb.find? (fun e => e.1 == idx)).map (fun e => e.2)).getD []
    (List.range 4).foldl (fun s i => s.put F.SW_FDB_DATA_DATA i 0 (nth 0 l i)) s
  | 1 => s.modSw (fun w => { w with fdb := (idx, words) :: w.fdb.filter (fun e => e.1 != idx) })
  | 2 => s.modSw (fun w => { w with fdb := w.fdb.filter (fun e => e.1 != idx) })
  | _ => s.modSw (fun w => { w with fdb := w.fdb.filter (fun e => fdbStatic e.2) })

/-- A command of the VLAN table. -/
def State.vlanCommand (s : State) (op vid : Nat) : State :=
  match op with
  | 0 =>
    let v := ((s.sw.vlan.find? (fun e => e.1 == vid)).map (fun e => e.2)).getD 0
    s.setReg R.SW_VLAN_DATA 0 0 v
  | 1 => s.modSw (fun w => { w with vlan := (vid, s.regVal R.SW_VLAN_DATA 0 0) :: w.vlan.filter (fun e => e.1 != vid) })
  | 2 => s.modSw (fun w => { w with vlan := w.vlan.filter (fun e => e.1 != vid) })
  | _ => s.modSw (fun w => { w with vlan := [] })

/-- A table of stream filters 0, gates 1, meters 2, secure channels 3 or secure associations 4: its data register, words. -/
def swTable (t : Nat) : RegDef × Nat :=
  if t = 0 then (R.SW_SF_DATA, 8) else if t = 1 then (R.SW_SG_DATA, 8) else if t = 2 then (R.SW_FM_DATA, 8)
  else if t = 3 then (R.SW_SEC_SC_DATA, 8) else (R.SW_SEC_SA_DATA, 16)

/-- The words of a secure association that hold its key and salt are read as 0 (19 R630): the first eleven words
(notes/assumptions/48.md). -/
def keyWord (t i : Nat) : Bool := t == 4 && decide (i < 11)

/-- A command of another table. -/
def State.tableCommand (s : State) (t op idx : Nat) : State :=
  let (r, n) := swTable t
  let words := (List.range n).map (fun i => s.regVal r i 0)
  let other := fun (e : (Nat × Nat) × List Nat) => e.1 != (t, idx)
  match op with
  | 0 =>
    let l := ((s.sw.tables.find? (fun e => e.1 == (t, idx))).map (fun e => e.2)).getD []
    (List.range n).foldl (fun s i => s.setReg r i 0 (if keyWord t i then 0 else nth 0 l i)) s
  | 1 => s.modSw (fun w => { w with tables := ((t, idx), words) :: w.tables.filter other })
  | 2 => s.modSw (fun w => { w with tables := w.tables.filter other })
  | _ => s.modSw (fun w => { w with tables := w.tables.filter (fun e => e.1.1 != t) })

end Sys2Proof.Machine
end

