-- ==== Sys2Proof/Machine/Trestle.lean ====
section
/-! DEFINITION. The Trestle link: roles, mirroring and the decision on a partner (13 R450-R458). -/

namespace Sys2Proof.Machine

/-- The Trestle part changed. -/
def State.modTrs (s : State) (f : Trs → Trs) : State := { s with trs := f s.trs }

/-- The encodings of TRS_STAT.ROLE (13 TRS_STAT). -/
def roleUnset : Nat := 0
def roleStandby : Nat := 1
def roleActive : Nat := 2

/-- TRS_STAT.ROLE. -/
def State.role (s : State) : Nat := s.rd F.TRS_STAT_ROLE

/-- Whether the link is up (13 R450), in a powered Trestle block. -/
def State.trsUp (s : State) : Bool := s.pd 60 && s.flag F.TRS_STAT_LINK_UP

/-- Whether the device decides on its partner: the standby, with TRS_CFG.EN (13 R455; TRS_CFG). -/
def State.decides (s : State) : Bool := s.role == roleStandby && s.flag F.TRS_CFG_EN

/-- A takeover (13 R456): the device becomes ACTIVE and raises the takeover interrupt. -/
def State.takeover (s : State) : State := (s.put0 F.TRS_STAT_ROLE roleActive).tell (.irq "TRS_TAKEOVER" 0)

/-- A frame sent, with the next sequence number (13 R450). -/
def State.trsSend (s : State) (f : TrsFrame) : State :=
  s.modTrs (fun t => { t with txSeq := t.txSeq + 1, out := (t.txSeq, f) :: t.out })

/-- TRESTLE_HEARTBEAT_SEND (13 R450). -/
def State.heartbeatSend (s : State) : State :=
  if s.trsUp then s.trsSend (.heartbeat s.role (s.regVal R.ARB_STATUS 0 0) s.faultNow) else s

/-- TRESTLE_LINK_DOWN (13 R455, R457): LINK_UP reads 0; the standby decides, an ACTIVE device keeps its role. -/
def State.linkDown (s : State) : State :=
  if !s.trsUp then s
  else
    let s := (s.put0 F.TRS_STAT_LINK_UP 0).modTrs (fun t => { t with fails := 0 })
    if s.decides then
      (if s.trs.silent then s.takeover else (s.put0 F.TRS_STAT_SPLIT 1).tell (.irq "TRS_LINK" 0))
    else s.tell (.irq "TRS_LINK" 0)

/-- The device's decision on a heartbeat's FAULT_N (13 R455). -/
def State.heartbeatIn (s : State) (fault : Bool) : State :=
  let s := s.modTrs (fun t => { t with partnerFault := fault })
  if s.decides ∧ fault then s.takeover else s

/-- The half of the receive buffer that the next image goes to (13 R454). -/
def State.rxHalf (s : State) : Nat := 1 - s.rd F.TRS_STAT_RX_HALF

/-- Bytes of a mirror image are written into the receive buffer of the standby (13 R454). -/
def State.imageIn (s : State) (l : List Byte) : State :=
  if s.role ≠ roleStandby ∨ !s.flag F.TRS_CFG_EN then s
  else
    let old := s.trs.rx.getD []
    let a := s.rdE F.TRS_RXBUF_ADDR + s.rxHalf * 2 ^ 20 + old.length
    if 2 ^ 20 < old.length + l.length then s
    else (if l.isEmpty then s else (s.fabWrite (.port 37) a l).1).modTrs (fun t => { t with rx := some (old ++ l) })

/-- TRESTLE_FRAME_RECEIVE (13 R450, R454, R455): a frame with a bad CRC is asked for again, and takes the link down when it
fails the fourth time; the frame that is next in order is delivered. -/
def State.frameIn (s : State) (seq : Nat) (f : TrsFrame) (crcOk : Bool) : State :=
  if !s.trsUp then s
  else if !crcOk then
    if 3 ≤ s.trs.fails then s.linkDown
    else (s.modTrs (fun t => { t with fails := t.fails + 1 })).trsSend (.again seq)
  else if seq ≠ s.trs.rxSeq then s
  else
    let s := s.modTrs (fun t => { t with fails := 0, rxSeq := t.rxSeq + 1 })
    match f with
    | .heartbeat _ _ fault => s.heartbeatIn fault
    | .image l => s.imageIn l
    | .again n => match s.trs.out.find? (fun p => p.1 == n) with
      | some p => s.modTrs (fun t => { t with out := p :: t.out })
      | none => s

/-- Whether the Configuration Record enables the link (16 R548). -/
def State.trsEnabled (s : State) : Bool := bit (fieldAt s.boot.config 3 1) 3

/-- TRESTLE_LINK_UP (13 R451): the link is up to a partner of a role; an unset or STANDBY device follows the first two rules. -/
def State.linkComesUp (s : State) (peer : Fin 3) : State :=
  if !s.pd 60 ∨ !s.trsEnabled ∨ s.flag F.TRS_STAT_LINK_UP then s
  else
    let s := (s.put0 F.TRS_STAT_LINK_UP 1).modTrs (fun t => { t with fails := 0, watch := false })
    if s.role = roleActive then s
    else if peer.val = roleActive ∨ !s.trs.primary then s.put0 F.TRS_STAT_ROLE roleStandby
    else s.put0 F.TRS_STAT_ROLE roleActive

/-- The device becomes ACTIVE without a partner (13 R451). -/
def State.alone (s : State) : State :=
  ((s.put0 F.TRS_STAT_ROLE roleActive).put0 F.TRS_STAT_ALONE 1).modTrs (fun t => { t with watch := false })

/-- ROLE_DECISION_TIMEOUT (13 R451): 100 ms after POWER_GOOD a PRIMARY becomes ACTIVE and a SECONDARY begins to watch
PARTNER_ALIVE; 1 s after POWER_GOOD a SECONDARY that has watched becomes ACTIVE. -/
def State.roleTimeout (s : State) : State :=
  if s.flag F.TRS_STAT_LINK_UP ∨ !s.trsEnabled ∨ s.role ≠ roleUnset then s
  else if s.trs.primary || s.trs.watch then s.alone
  else s.modTrs (fun t => { t with watch := true })

/-- PARTNER_ALIVE_EDGE (13 R451, R455). -/
def State.aliveEdge (s : State) : State :=
  let s := s.modTrs (fun t => { t with silent := false })
  if s.trs.watch ∧ s.role = roleUnset ∧ !s.flag F.TRS_STAT_LINK_UP then
    ((s.put0 F.TRS_STAT_ROLE roleStandby).put0 F.TRS_STAT_SPLIT 1).modTrs (fun t => { t with watch := false })
  else s

/-- PARTNER_SILENT (13 R455): 2 ms without an edge. -/
def State.partnerSilent (s : State) : State :=
  let s := s.modTrs (fun t => { t with silent := true })
  if !s.decides then s
  else if !s.trsUp then s.takeover
  else if s.trs.partnerFault then s
  else (s.put0 F.TRS_STAT_WIRE 1).tell (.irq "TRS_WIRE" 0)

/-- A section of the mirror image: its bytes, or ARB_STATUS and ARB_DOUBT (13 R453). A refused read gives free bytes. -/
def State.mirrorSection (s : State) (a len ty : Nat) : State × List Byte :=
  if ty = 4 then (s, leBytes (s.regVal R.ARB_STATUS 0 0) 4 ++ leBytes (s.regVal R.ARB_DOUBT 0 0) 4)
  else s.readOrFree (.port 37) a len

/-- MIRROR_IMAGE_SEND (13 R453): the sections of the list in order, in frames of 4 KiB; a list whose lengths sum to more than
1 MiB is not sent. An entry of type 0 is no section. -/
def State.mirrorSend (s : State) : State :=
  if !s.trsUp ∨ s.role ≠ roleActive ∨ !s.flag F.TRS_CFG_EN then s
  else
    let (s, r) := s.fabRead (.port 37) (s.rdE F.TRS_MIRROR_ADDR) 128
    if r.st ≠ stOK then s
    else
      let es := (List.range 8).map (fun i => (fieldAt r.data (16 * i) 8, fieldAt r.data (16 * i + 8) 4, fieldAt r.data (16 * i + 12) 1))
      let es := es.filter (fun e => e.2.2 != 0)
      let total := (es.map (fun e => if e.2.2 = 4 then 0 else e.2.1)).foldl (· + ·) 0
      if 2 ^ 20 < total then s.put0 F.TRS_STAT_LIST_ERR 1
      else
        let (s, img) := es.foldl (fun (acc : State × List Byte) e =>
          let (s, l) := acc.1.mirrorSection e.1 e.2.1 e.2.2
          (s, acc.2 ++ l)) (s, [])
        (List.range (cdiv img.length 4096)).foldl (fun s i => s.trsSend (.image ((img.drop (4096 * i)).take 4096))) s

/-- An image abandoned and counted (13 R454). -/
def State.mirrorLate (s : State) : State :=
  (s.modTrs (fun t => { t with rx := none })).put0 F.TRS_STAT_MIRROR_LATE (satInc 16 (s.rd F.TRS_STAT_MIRROR_LATE))

/-- MIRROR_IMAGE_COMPLETE (13 R454): an image whose CRC passes is the latest complete one; one whose CRC fails is not complete
and is abandoned. -/
def State.mirrorComplete (s : State) (crcOk : Bool) : State :=
  if s.trs.rx.isNone ∨ s.role ≠ roleStandby then s
  else if !crcOk then s.mirrorLate
  else ((s.modTrs (fun t => { t with rx := none })).put0 F.TRS_STAT_RX_HALF s.rxHalf).tell (.irq "TRS_MIRROR" 0)

/-- CONTROL_BOUNDARY (10 R320-R325, R330; 13 R454; 16 R551): the Arbiter Unit's boundary, then the Trestle block's: its
Shadowed fields take effect, and an image that is not complete is abandoned. -/
def State.controlBoundary (s : State) : State :=
  if !s.boundaryDue then s
  else
    let s := ((s.boundary.takeEffect R.TRS_CFG).takeEffect R.TRS_MIRROR).takeEffect R.TRS_RXBUF
    if s.trs.rx.isSome then s.mirrorLate else s

end Sys2Proof.Machine
end

