-- ==== Sys2Proof/Machine/Security.lean ====
section
/-! DEFINITION. The worlds and tags of the island cores (14 R460, R471, R477), SEC's mailboxes, services and restarts
(14 R483-R489), Lockers (14 R469-R474), attestation and the rollback counters (14 R499-R503). -/

namespace Sys2Proof.Machine

/-- SEC changed. -/
def State.modSec (s : State) (f : Sec → Sec) : State := { s with sec := f s.sec }

/-! ### Island cores -/

/-- Whether the island cores execute (13 R425). -/
def State.coresRun (s : State) : Bool := s.isl.running && !s.isl.halted

/-- WORLD_CSR_WRITE (14 R460): only machine-mode code of the Secure world writes the CSR. -/
def State.worldWrite (s : State) (core : Fin 2) (v : Nat) : State :=
  if s.coresRun ∧ vget s.isl.world core then s.modIsl (fun i => { i with world := vmod i.world core (fun _ => bit v 0) }) else s

/-- The Locker whose code part holds an address. -/
def State.codePart (s : State) (a : Nat) : Option (Fin 16) :=
  (List.finRange 16).find? (fun n =>
    let (b, c, _) := s.lockerSpan n.val
    s.flag F.SEC_LKR_BASE_VALID n.val && decide (b ≤ a ∧ a < c))

/-- A core's tag set. -/
def State.setTag (s : State) (core : Fin 2) (t : Option (Fin 16)) : State :=
  s.modIsl (fun i => { i with tag := vmod i.tag core (fun _ => t) })

/-- LOCKER_CODE_FETCH (14 R471). -/
def State.codeFetch (s : State) (core : Fin 2) (a : Nat) : State :=
  if !s.coresRun ∨ !s.lkrOn then s
  else
    let part := s.codePart a
    if (vget s.isl.tag core).isSome ∧ part = vget s.isl.tag core then s
    else
      let s := s.setTag core none
      match part with
      | none => s
      | some n =>
        if a = (s.lockerSpan n.val).1 then s.setTag core (some n)
        else (s.violLog 3 a (.isl core)).tell (.irq "ISL_FETCH_FAULT" core.val)

/-- The trap of a core into the Secure world, with its tag cleared (14 R471, R477). -/
def State.secureTrap (s : State) (core : Fin 2) : State :=
  s.modIsl (fun i => { i with world := vmod i.world core (fun _ => true), tag := vmod i.tag core (fun _ => none) })

/-- Whether ISL-A stalls: the compare buffer or the input log is full (13 R423). -/
def State.pairFull (s : State) : Bool := decide (2048 ≤ s.isl.cmp.length) || decide (4096 ≤ s.isl.log.length)

/-- The trap of a source: into the Secure world where it is a Secure one. -/
def State.trapOf (s : State) (core : Fin 2) (source : Fin 64) : State :=
  if bit (s.rd F.ISL_INT_WORLD_SECURE) source.val then s.secureTrap core else s

/-- SECURE_INTERRUPT (14 R471, R477; 13 R422): a source interrupts a core, and a Secure one takes it into the Secure world. In Paired
mode ISL-A logs every interrupt with its retired-instruction count, and ISL-B takes what the log holds. -/
def State.secureInterrupt (s : State) (core : Fin 2) (source : Fin 64) (count : Nat) : State :=
  if !s.coresRun then s
  else if s.flag F.ISL_PAIR_STAT_MODE then s.trapOf core source
  else if core.val = 0 then
    if s.pairFull then s
    else
      let s := (s.trapOf core source).modIsl (fun i => { i with log := i.log ++ [.irq source.val count] })
      s.put0 F.ISL_PAIR_STAT_LOG_FILL s.isl.log.length
  else match s.isl.log with
    | .irq c n :: rest =>
      if c = source.val ∧ n = count then
        let s := (s.trapOf core source).modIsl (fun i => { i with log := rest })
        s.put0 F.ISL_PAIR_STAT_LOG_FILL rest.length
      else s
    | _ => s

/-! ### Mailboxes (14 R483-R485) -/

/-- Service statuses (14 R485). -/
def svOK : Nat := 0
def svBAD_REQUEST : Nat := 1
def svDENIED_WORLD : Nat := 2
def svUNAVAILABLE : Nat := 3
def svNO_IDENTITY : Nat := 4
def svNO_RPMB : Nat := 5
def svLOCKER_FULL : Nat := 6
def svLOCKER_BUSY : Nat := 7
def svVERIFY_FAIL : Nat := 8
def svBUFFER_SHORT : Nat := 9

/-- The world of a mailbox's requests (14 R483). -/
def mboxWorld (n : Fin 4) : Bool := n.val == 0 || n.val == 2

/-- Whether a master owns a mailbox (14 R483); the host PF reaches mailbox 3 as SCH relays it (15 R524). -/
def State.ownsMbox (s : State) (m : Master) (n : Fin 4) : Bool :=
  match m with
  | .isl c => n.val == (if vget s.isl.world c then 0 else 1)
  | .sch => n.val == 2
  | .pcie f => f.val == 0 && n.val == 3
  | _ => false

/-- The services only Secure mailboxes have (14 R485). -/
def secureOnly (code : Nat) : Bool := code == 3 || code == 4 || code == 6 || code == 7 || code == 8 || code == 10

/-- A request's service code. -/
def SecReq.code (q : SecReq) : Nat := fieldAt q.body 0 1

/-- A field of a request's arguments: `n` bytes at an offset of ARGS. -/
def SecReq.arg (q : SecReq) (o n : Nat) : Nat := fieldAt q.body (16 + o) n

/-- Whether a request's service is unknown or its reserved bits or RESP are not as R484 states. -/
def SecReq.bad (q : SecReq) : Bool :=
  q.code == 0 || decide (11 < q.code) || fieldAt q.body 1 3 != 0 || fieldAt q.body 8 8 % 16 != 0

/-- The queue of a mailbox replaced, with its count. -/
def State.setQueue (s : State) (n : Fin 4) (l : List SecReq) : State :=
  (s.modSec (fun c => { c with queues := vmod c.queues n (fun _ => l) })).put F.SEC_MBOX_STAT_QUEUED n.val 0 l.length

/-- The response of a request, and the owner's mailbox interrupt (14 R484). -/
def State.respond (s : State) (n : Fin 4) (q : SecReq) (st value : Nat) : State :=
  let l := leBytes (fieldAt q.body 4 4) 4 ++ leBytes st 1 ++ leBytes 0 3 ++ leBytes value 4 ++ leBytes 0 4
  ((s.fabWrite (.mbox (mboxWorld n)) (fieldAt q.body 8 8) l).1).tell (.irq "SEC_MBOX" n.val)

/-- Whether a request completes at once: with SERVICE_UNAVAILABLE while SEC is halted, or, as a Normal request, while its
service or the core restarts (14 R486, R487, R489); with BAD_REQUEST where it is the oldest and its service is unknown. -/
def State.atOnce (s : State) (n : Fin 4) (oldest : Bool) (q : SecReq) : Option Nat :=
  if s.flag F.SEC_STATUS_HALTED then some svUNAVAILABLE
  else if !mboxWorld n && (s.sec.restarting || bit s.sec.down q.code) then some svUNAVAILABLE
  else if oldest && q.bad && !s.sec.restarting then some svBAD_REQUEST
  else none

/-- The requests of a mailbox that complete at once do so. -/
def State.settleBox (s : State) (n : Fin 4) : State :=
  let (s, kept) := (vget s.sec.queues n).foldl (fun (acc : State × List SecReq) q =>
    match acc.1.atOnce n acc.2.isEmpty q with
    | some st => (acc.1.respond n q st 0, acc.2)
    | none => (acc.1, acc.2 ++ [q])) (s, [])
  s.setQueue n kept

/-- The same for every mailbox. -/
def State.settle (s : State) : State := (List.finRange 4).foldl (fun s n => s.settleBox n) s

/-- A request record enqueued (14 R483); one that cannot be read is no request. -/
def State.enqueue (s : State) (n : Fin 4) (a : Nat) : State :=
  if 16 ≤ (vget s.sec.queues n).length then s.put F.SEC_MBOX_STAT_OVF n.val 0 1
  else
    let (s, r) := s.fabRead (.mbox (mboxWorld n)) a 64
    if r.st ≠ stOK then s else (s.setQueue n (vget s.sec.queues n ++ [⟨a, r.data⟩])).settleBox n

/-- SEC_MBOX_REQ (14 R483): a write of the high word of SEC_MBOXn_REQ by a master. -/
def State.mboxReq (s : State) (m : Master) (n : Fin 8) (a : Nat) : State :=
  if h : n.val < 4 then (if s.ownsMbox m ⟨n.val, h⟩ then s.enqueue ⟨n.val, h⟩ a else s) else s

/-- A service's answer: status and VALUE. -/
structure SvcRes where
  s : State
  st : Nat
  value : Nat

/-- The oldest request of a mailbox is served by the service of a code (14 R485), where service and core are up. -/
def State.serve (s : State) (n : Fin 4) (code : Nat) (f : State → SecReq → SvcRes) : State :=
  if s.sec.restarting ∨ bit s.sec.down code ∨ s.flag F.SEC_STATUS_HALTED then s
  else match vget s.sec.queues n with
    | [] => s
    | q :: rest =>
      if q.code ≠ code then s
      else
        let s := s.setQueue n rest
        if secureOnly code && !mboxWorld n then (s.respond n q svDENIED_WORLD 0).settleBox n
        else
          let r := f s q
          (r.s.respond n q r.st r.value).settleBox n

/-- Arguments read for a mailbox: none where the read does not succeed. -/
def State.argRead (s : State) (n : Fin 4) (a len : Nat) : State × Option (List Byte) :=
  if len = 0 then (s, some [])
  else
    let (s, r) := s.fabRead (.mbox (mboxWorld n)) a len
    (s, if r.st = stOK then some r.data else none)

/-- A result written for a mailbox. -/
def State.result (s : State) (n : Fin 4) (a : Nat) (l : List Byte) (value : Nat) : SvcRes :=
  let (s, st) := s.fabWrite (.mbox (mboxWorld n)) a l
  if st = stOK then ⟨s, svOK, value⟩ else ⟨s, svBAD_REQUEST, 0⟩

/-! ### Services -/

/-- HASH: ADDR, LEN, OUT. -/
def svcHash (n : Fin 4) (s : State) (q : SecReq) : SvcRes :=
  match s.argRead n (q.arg 0 8) (q.arg 8 4) with
  | (s, none) => ⟨s, svBAD_REQUEST, 0⟩
  | (s, some l) => s.result n (q.arg 12 8) (sha512 l) 64

/-- VERIFY: KEY, DIGEST, SIG (14 R490). -/
def svcVerify (n : Fin 4) (s : State) (q : SecReq) : SvcRes :=
  match s.argRead n (q.arg 0 8) 528 with
  | (s, none) => ⟨s, svBAD_REQUEST, 0⟩
  | (s, some key) =>
    match s.argRead n (q.arg 8 8) 64 with
    | (s, none) => ⟨s, svBAD_REQUEST, 0⟩
    | (s, some dig) =>
      match s.argRead n (q.arg 16 8) 512 with
      | (s, none) => ⟨s, svBAD_REQUEST, 0⟩
      | (s, some sig) =>
        if !blobOk key then ⟨s, svBAD_REQUEST, 0⟩
        else if sigOk key dig sig then ⟨s, svOK, 0⟩ else ⟨s, svVERIFY_FAIL, 0⟩

/-- The bytes of an ASCII string. -/
def ascii (t : String) : List Byte := t.toList.map (fun c => BitVec.ofNat 8 c.toNat)

/-- The key of WRAP and UNWRAP for a label (14 R497). -/
def wrapKey (label : List Byte) : List Byte := hkdf32 (beBytes Config.pufSecret 32) (ascii "wrap" ++ label)

/-- WRAP and UNWRAP: IN, LEN, LABEL, OUT (14 R485, R497). -/
def svcWrap (un : Bool) (n : Fin 4) (s : State) (q : SecReq) : SvcRes :=
  let len := q.arg 8 4
  if 4096 < len ∨ len = 0 ∨ (un ∧ (len % 8 ≠ 0 ∨ len < 16)) then ⟨s, svBAD_REQUEST, 0⟩
  else if s.flag F.SEC_STATUS_NO_IDENTITY then ⟨s, svNO_IDENTITY, 0⟩
  else match s.argRead n (q.arg 0 8) len with
    | (s, none) => ⟨s, svBAD_REQUEST, 0⟩
    | (s, some l) =>
      match s.argRead n (q.arg 12 8) 32 with
      | (s, none) => ⟨s, svBAD_REQUEST, 0⟩
      | (s, some lab) =>
        match (if un then keyUnwrap (wrapKey lab) l else some (keyWrap (wrapKey lab) l)) with
        | none => ⟨s, svBAD_REQUEST, 0⟩
        | some o => s.result n (q.arg 20 8) o o.length

/-- The bytes of a log entry (14 R499). -/
def Meas.bytes (m : Meas) : List Byte :=
  leBytes m.ty 2 ++ leBytes m.index 2 ++ leBytes m.svn 4 ++ leBytes m.signer 1 ++ leBytes 0 7 ++ (m.digest ++ List.replicate 64 0).take 64

/-- An entry appended to the measurement log, which holds 256 (14 R499). -/
def State.measureLog (s : State) (m : Meas) : State :=
  s.modSec (fun c => if 256 ≤ c.log.length then { c with logFull := true } else { c with log := c.log ++ [m] })

/-- The measurement log's bytes. -/
def State.logBytes (s : State) : List Byte := s.sec.log.flatMap (fun m => m.bytes)

/-- LOG_READ: OUT, OUT_LEN. -/
def svcLogRead (n : Fin 4) (s : State) (q : SecReq) : SvcRes :=
  let l := s.logBytes
  if q.arg 8 4 < l.length then ⟨s, svBUFFER_SHORT, 0⟩
  else if l.isEmpty then ⟨s, svOK, 0⟩
  else s.result n (q.arg 0 8) l l.length

/-- The quote's header (14 R500). -/
def State.quoteHeader (s : State) (nonce : List Byte) : List Byte :=
  let flags := b2n (s.flag F.SEC_STATUS_ROLLBACK_ABSENT) + 2 * b2n (s.flag F.SEC_STATUS_ROLLBACK_FAILED)
    + 4 * b2n (s.flag F.SEC_CFG_SEC_DEBUG) + 8 * b2n (s.flag F.ISL_PAIR_STAT_MODE)
    + 16 * b2n (s.rd F.SEC_STATUS_RESTARTS != 0) + 32 * b2n s.sec.logFull
  leBytes 0x55515443 4 ++ leBytes 1 2 ++ leBytes flags 2 ++ leBytes (s.rd F.SEC_CFG_MODE) 1 ++ leBytes 0 7 ++ nonce
    ++ leBytes Config.deviceId 32 ++ leBytes s.sec.log.length 2 ++ leBytes 0 6 ++ leBytes s.stamp 8 ++ leBytes 0 32

/-- QUOTE: NONCE, OUT, OUT_LEN (14 R500, R498). -/
def svcQuote (n : Fin 4) (s : State) (q : SecReq) : SvcRes :=
  if s.flag F.SEC_STATUS_NO_IDENTITY then ⟨s, svNO_IDENTITY, 0⟩
  else match s.argRead n (q.arg 0 8) 32 with
    | (s, none) => ⟨s, svBAD_REQUEST, 0⟩
    | (s, some nonce) =>
      let m := s.quoteHeader nonce ++ s.logBytes
      if q.arg 16 4 < m.length + 512 then ⟨s, svBUFFER_SHORT, 0⟩
      else
        let (c, s) := s.nextFree
        let sig := signWith Config.identityModulus Config.identityExponent (sha512 m) (beBytes (Config.freeRandom c) 64)
        s.result n (q.arg 8 8) (m ++ sig) (m.length + 512)

/-! ### Lockers (14 R469-R474) -/

/-- The memories a Locker lies in. -/
def lockerRegion (r : Region) : Bool := r == .lpddr || r == .hyper || r == .sbuf || r == .sram

/-- Whether a range passes R469: in one memory, no overlap with a Locker, and in BOTH mode on one side of the watermark. -/
def State.lockerOk (s : State) (base size code : Nat) : Bool :=
  let e := base + size * 4096
  let r := s.region base
  base % 4096 == 0 && decide (1 ≤ size ∧ size ≤ 2 ^ 20 ∧ code ≤ size) && lockerRegion r && s.region (e - 1) == r
    && !((hbPort base).1 != (hbPort (e - 1)).1 && r == .hyper)
    && (List.range 16).all (fun l => !s.flag F.SEC_LKR_BASE_VALID l ||
      (let (b, _, f) := s.lockerSpan l; decide (e ≤ b ∨ f ≤ base)))
    && (!(s.wmOn && s.lkrOn) || s.secureAddr base == s.secureAddr (e - 1))

/-- A Locker created (14 R473, R463): a status, its number and the digest of its code. -/
def State.sealLocker (s : State) (base size code : Nat) : State × Nat × Nat × List Byte :=
  if !s.lkrOn then (s, svBAD_REQUEST, 0, [])
  else match (List.range 16).find? (fun l => !s.flag F.SEC_LKR_BASE_VALID l) with
    | none => (s, svLOCKER_FULL, 0, [])
    | some l =>
      if !s.lockerOk base size code then (s, svBAD_REQUEST, 0, [])
      else
        let s := (s.put F.SEC_LKR_BASE_BASE l 0 (base / 4096)).put F.SEC_LKR_SIZE_SIZE l 0 size
        let s := (s.put F.SEC_LKR_SIZE_CODE l 0 code).put F.SEC_LKR_BASE_VALID l 0 1
        let (s, bytes) := s.readOrFree .sec base (code * 4096)
        let d := sha512 bytes
        (s.measureLog ⟨0xF0, l, 0, 0, d⟩, svOK, l, d)

/-- LOCKER_SEAL: BASE, SIZE, CODE, OUT (14 R473, R463). -/
def svcSeal (n : Fin 4) (s : State) (q : SecReq) : SvcRes :=
  let (s, st, l, d) := s.sealLocker (q.arg 0 8) (q.arg 8 4) (q.arg 12 4)
  if st = svOK then ⟨(s.fabWrite (.mbox (mboxWorld n)) (q.arg 16 8) d).1, svOK, l⟩ else ⟨s, st, 0⟩

/-- LOCKER_FREE: the Locker's number (14 R474). -/
def svcFree (_ : Fin 4) (s : State) (q : SecReq) : SvcRes :=
  let l := q.arg 0 4
  if 16 ≤ l ∨ !s.flag F.SEC_LKR_BASE_VALID l then ⟨s, svBAD_REQUEST, 0⟩
  else if (List.range 8).any (fun c => s.flag F.SEC_CAB_LKR_VALID c && s.rd F.SEC_CAB_LOCKER c == l) then ⟨s, svLOCKER_BUSY, 0⟩
  else
    let (b, _, e) := s.lockerSpan l
    let s := ({ s with mem := s.mem.wipe b (e - b) } : State).put F.SEC_LKR_BASE_VALID l 0 0
    ⟨s.measureLog ⟨0xF1, l, 0, 0, []⟩, svOK, l⟩

/-- SEC_CABc written (14 R462, R505): its fields are Static, and cabinet c is stopped while SCH_CABc_CFG.EN is 0; a write of the
values it holds sets no error bit (00 R11). -/
def State.bindCabinet (s : State) (c : Nat) (secure lkr : Bool) (locker : Nat) : State :=
  if s.flag F.SCH_CAB_CFG_EN c then
    (if s.flag F.SEC_CAB_SECURE c = secure ∧ s.flag F.SEC_CAB_LKR_VALID c = lkr ∧ s.rd F.SEC_CAB_LOCKER c = locker then s
     else s.put0 F.SEC_ERR_CFG_WHILE_RUN 1)
  else ((s.put F.SEC_CAB_SECURE c 0 (b2n secure)).put F.SEC_CAB_LKR_VALID c 0 (b2n lkr)).put F.SEC_CAB_LOCKER c 0 locker

/-- BIND_CABINET: cabinet, SECURE, LKR_VALID, Locker; through mailbox 2 only (14 R462, R485). -/
def svcBind (n : Fin 4) (s : State) (q : SecReq) : SvcRes :=
  let c := q.arg 0 4
  if n.val ≠ 2 ∨ 8 ≤ c ∨ 2 ≤ q.arg 4 4 ∨ 2 ≤ q.arg 8 4 ∨ 16 ≤ q.arg 12 4 then ⟨s, svBAD_REQUEST, 0⟩
  else ⟨s.bindCabinet c (q.arg 4 4 == 1) (q.arg 8 4 == 1) (q.arg 12 4), svOK, 0⟩

/-! ### Rollback counters (14 R501-R503) -/

/-- Key of the first RPMB block of the eMMC. -/
def rpmbBase : Nat := 2 ^ 54

/-- Whether there is rollback storage (14 R503). -/
def State.rpmbOn (s : State) : Bool := !s.flag F.SEC_STATUS_ROLLBACK_ABSENT && !s.flag F.SEC_STATUS_ROLLBACK_FAILED

/-- Rollback counter `c`: 0 where there is no storage (14 R501, R503). -/
def State.rollback (s : State) (c : Nat) : Nat := if s.rpmbOn then s.mem.readNat (rpmbBase + 4 * c) 4 else 0

/-- COUNTER_READ: OUT. -/
def svcCounterRead (n : Fin 4) (s : State) (q : SecReq) : SvcRes :=
  if !s.rpmbOn then ⟨s, svNO_RPMB, 0⟩
  else s.result n (q.arg 0 8) ((List.range 32).flatMap (fun c => leBytes (s.rollback c) 4)) 128

/-- What a commit of counter `c` raises it to (14 R502); none where no accepted image names it. -/
def State.commitTo (s : State) (c : Nat) : Option Nat :=
  if c = 31 then s.sec.serial
  else match (s.sec.svns.filter (fun p => p.1 == c)).map (fun p => p.2) with
    | [] => none
    | a :: l => some (l.foldl min a)

/-- COUNTER_COMMIT: the counter's number. -/
def svcCommit (_ : Fin 4) (s : State) (q : SecReq) : SvcRes :=
  let c := q.arg 0 4
  if 32 ≤ c then ⟨s, svBAD_REQUEST, 0⟩
  else if !s.rpmbOn then ⟨s, svNO_RPMB, 0⟩
  else match s.commitTo c with
    | none => ⟨s, svOK, 0⟩
    | some v =>
      if v ≤ s.rollback c then ⟨s, svOK, 0⟩
      else ⟨{ s with mem := s.mem.writeBytes (rpmbBase + 4 * c) (leBytes v 4) }, svOK, 0⟩

/-! ### Hangs and restarts (14 R486-R489) -/

/-- SERVICE_HANG (14 R486): the oldest request of a mailbox hangs; it completes with SERVICE_UNAVAILABLE and its service
restarts. -/
def State.serviceHang (s : State) (n : Fin 4) : State :=
  match vget s.sec.queues n with
  | [] => s
  | q :: rest =>
    if s.sec.restarting ∨ bit s.sec.down q.code ∨ q.bad then s
    else
      let s := (s.setQueue n rest).respond n q svUNAVAILABLE 0
      let s := (s.put0 F.SEC_ERR_SVC_RESTART 1).tell (.irq "SEC_SVC_RESTART" q.code)
      (s.modSec (fun c => { c with down := Nat.lor c.down (2 ^ q.code) })).settle

/-- SERVICE_RESTART_DONE (14 R486). -/
def State.serviceBack (s : State) (code : Nat) : State :=
  if bit s.sec.down code ∧ !s.sec.restarting then (s.modSec (fun c => { c with down := c.down - 2 ^ code })).settle else s

/-- SEC_CORE_WATCHDOG (14 R487, R489): the SEC core restarts; `busy` names the mailboxes whose oldest request is in progress,
`recent` tells that this is the third core restart within 10 s. -/
def State.secWatchdog (s : State) (busy : BitVec 4) (recent : Bool) : State :=
  if s.flag F.SEC_STATUS_HALTED then s
  else
    let n := s.rd F.SEC_STATUS_RESTARTS
    let s := (s.put0 F.SEC_ERR_CORE_RESTART 1).put0 F.SEC_STATUS_RESTARTS (satInc 8 n)
    let s := (List.finRange 4).foldl (fun s b =>
      match vget s.sec.queues b with
      | q :: rest => if busy.getLsbD b.val then (s.setQueue b rest).respond b q svUNAVAILABLE 0 else s
      | [] => s) s
    let s := s.modSec (fun c => { c with restarting := true })
    let s := if recent && decide (2 ≤ n) then (s.put0 F.SEC_STATUS_HALTED 1).tell (.irq "SEC_HALT" 0) else s
    s.settle

/-- SEC_WARM_RESTART_DONE (14 R487): every service is back. -/
def State.secBack (s : State) : State :=
  if s.sec.restarting ∧ !s.flag F.SEC_STATUS_HALTED then (s.modSec (fun c => { c with restarting := false, down := 0 })).settle else s

end Sys2Proof.Machine
end

