-- ==== Sys2Proof/Machine/Cabinets.lean ====
section
/-! DEFINITION. The creation and destruction of cabinets (09 R259-R261; 14 R462, R468; 15 R525-R527), and the loss of the host
(15 R531-R535). -/

namespace Sys2Proof.Machine

/-! ### The cabinet record (15 R527) -/

/-- A field of a cabinet record. -/
def recF (l : List Byte) (o n : Nat) : Nat := fieldAt l o n

/-- The engines that a record names. -/
def recEngines (l : List Byte) : List Nat := (List.range 16).filter (fun k => bit (recF l 8 2) k)

/-- The queues that a record names: number, MULTI, BASE, DEPTH. -/
def recQueues (l : List Byte) : List (Nat × Bool × Nat × Nat) :=
  (List.range 4).filterMap (fun i =>
    let o := 80 + 8 * i
    let b := recF l o 1
    if bit b 7 then some (b % 32, bit b 6, recF l (o + 2) 2, recF l (o + 4) 2) else none)

/-- Whether a record uses no reserved byte and no value out of its range. -/
def recOk (l : List Byte) (flash : Bool) : Bool :=
  let f := recF l
  let kind := f 1 1
  (if flash then f 0 1 == 0xFF else decide (f 0 1 < 32)) && decide (kind ≤ 1) && decide (1 ≤ f 2 1 ∧ f 2 1 ≤ 8)
    && decide (1 ≤ f 3 1 ∧ f 3 1 ≤ 32) && decide (1 ≤ f 4 2 ∧ f 4 2 ≤ 256)
    && (if kind = 0 then decide (1 ≤ f 6 2 ∧ f 6 2 ≤ 1000) else f 6 2 == 0)
    && f 8 2 != 0 && decide (f 10 1 < 8) && decide (1 ≤ f 11 1 ∧ f 11 1 ≤ 23) && f 13 1 == 0
    && f 16 8 % 4096 == 0 && f 24 8 % 4096 == 0 && f 24 8 != 0
    && decide (f 34 2 ≤ 8192) && decide (f 36 4 ≤ 2097152) && decide (f 48 4 ≤ 1048575)
    && decide (f 52 4 < 2 ^ 24 ∧ f 112 4 < 2 ^ 24)
    && (List.range 4).all (fun i =>
        !bit (f (80 + 8 * i) 1) 5 && f (81 + 8 * i) 1 == 0 && f (86 + 8 * i) 2 == 0)
    && (List.range 12).all (fun i => f (116 + i) 1 == 0)

/-- Whether a record's drawer geometry fits and its RANKMAP maps one to one onto its engines (09 R261). -/
def recGeometry (l : List Byte) : Bool :=
  decide (recF l 2 1 * recF l 4 2 ≤ 256) && decide (recF l 2 1 * recF l 3 1 ≤ 32)
    && rankmapOk (recF l 72 8) (recEngines l).length (recF l 8 2)

/-! ### What is reserved for the Boot Manifest (16 R553) -/

/-- Entries of the accepted Boot Manifest. -/
def State.manifestCount (s : State) : Nat := fieldAt s.boot.manifest 2 2

/-- Entry `i` of the manifest. -/
def State.manifestEntry (s : State) (i : Nat) : List Byte := (s.boot.manifest.drop (64 + 192 * i)).take 192

/-- The records of the entries that hold resources and have no cabinet, but for entry `own`. -/
def State.reserved (s : State) (own : Option Nat) : List (List Byte) :=
  ((List.range s.manifestCount).filter (fun i => own != some i && !(s.cab (cabId i)).live)).map s.manifestEntry

/-- Whether function `n` exists: the PF, or an enabled VF (15 R507). -/
def State.fnExists (s : State) (n : Nat) : Bool := n == 0 || (s.host.vfEnable && decide (1 ≤ n ∧ n ≤ s.host.numVfs))

/-- Whether a range lies in usable LPDDR5X within the reach of a function (15 R517), at its device addresses. -/
def State.reach (s : State) (f : Nat) (a n : Nat) : Bool :=
  let size := 2 ^ s.winLog2
  decide (0x100000000 ≤ a ∧ a + n ≤ s.lpddrEnd) &&
    (if f = 0 then
      !s.secureAddr a && (List.range 31).all (fun v =>
        match (vget s.fns (fin 33 (by decide) (v + 1))).win with
        | some w => decide (a + n ≤ w ∨ w + size ≤ a)
        | none => true)
     else match (vget s.fns (fin 33 (by decide) f)).win with
       | some w => decide (w ≤ a ∧ a + n ≤ w + size)
       | none => false)

/-- Two spans do not meet. -/
def apart (a n b m : Nat) : Bool := n == 0 || m == 0 || decide (a + n ≤ b ∨ b + m ≤ a)

/-- The regions of the flash-launched cabinets, and of the manifest entries that hold their resources without one (01 R21; 16 R553). -/
def State.flashRegions (s : State) : List (Nat × Nat) :=
  (((List.finRange 8).filter (fun c => (s.cab c).live && (s.cab c).flash)).map (fun c => ((s.cab c).base, (s.cab c).size)))
    ++ (s.reserved none).map (fun r => (recF r 16 8, recF r 24 8))

/-- Whether a record's memory lies in reach (15 R527): for a manifest entry all usable LPDDR5X, for another what no flash-launched
cabinet holds (01 R21; notes/assumptions/131.md). -/
def State.recWindow (s : State) (l : List Byte) (flash : Bool) : Bool :=
  let ok := fun (a n : Nat) => n == 0 ||
    (if flash then decide (0x100000000 ≤ a ∧ a + n ≤ s.lpddrEnd) else s.reach (recF l 0 1) a n)
  let logBytes := 16 * recF l 48 4
  ok (recF l 16 8) (recF l 24 8) &&
    (flash || s.flashRegions.all (fun p => apart p.1 p.2 (recF l 16 8) (recF l 24 8))) &&
    (if flash ∨ recF l 0 1 = 0 then ok (recF l 40 8) logBytes
     else logBytes == 0 || (match s.viewAddr (fin 33 (by decide) (recF l 0 1)) none (recF l 40 8) logBytes with
       | some a => ok a logBytes
       | none => false))

/-- Whether a record's region and share lie wholly on its world's side of the watermarks (14 R468). -/
def State.recWorld (s : State) (l : List Byte) (secure : Bool) : Bool :=
  let side := fun (a n : Nat) => n == 0 || (if secure then s.secureAddr (a + n - 1) else !s.secureAddr a)
  !s.wmOn || (side (recF l 16 8) (recF l 24 8) && side (0x80000000 + recF l 32 2 * 4096) (recF l 34 2 * 4096))

/-- Whether a record's shares and queues can be had (07 R198, R226; 08 R258; 12 R400; 16 R556). -/
def State.recResources (s : State) (l : List Byte) (own : Option Nat) : Bool :=
  let res := s.reserved own
  let cmuOn := (List.range 8).filter (fun m => s.flag F.CMU_SHARE_CFG_EN m)
  let cmuSum := (cmuOn.map (fun m => s.rd F.CMU_SHARE_CFG_LIMIT m) ++ res.map (fun r => recF r 36 4)).foldl (· + ·) (recF l 36 4)
  let cmuNeed := (cmuOn.length + (res.filter (fun r => recF r 36 4 != 0)).length)
  let qs := recQueues l
  (recF l 36 4 == 0 || (decide (cmuSum ≤ 2097152) && decide (cmuNeed < 8)))
    && decide (recF l 32 2 + recF l 34 2 ≤ 8192)
    && (List.range 8).all (fun d => !s.flag F.SBUF_SHARE_EN d ||
        apart (recF l 32 2) (recF l 34 2) (s.rd F.SBUF_SHARE_BASE d) (s.rd F.SBUF_SHARE_SIZE d))
    && res.all (fun r => apart (recF l 32 2) (recF l 34 2) (recF r 32 2) (recF r 34 2))
    && qs.all (fun q => !s.flag F.SN_Q_CFG_EN q.1 && q.2.2.2 != 0 && decide (q.2.2.2 ≤ 256) && decide (q.2.2.1 + q.2.2.2 ≤ 8192)
        && res.all (fun r => (recQueues r).all (fun p => p.1 != q.1)))
    && pairwiseOk (fun (p q : Nat × Bool × Nat × Nat) => p.1 != q.1) qs

/-- Whether an engine is free for a new cabinet (09 R260; 16 R556); a manifest entry is remapped for a fenced one (10 R329). -/
def State.engineFree (s : State) (own : Option Nat) (k : Nat) : Bool :=
  (s.holder k).isNone && (own.isSome || (s.eng (engId k)).ver != .fenced) && (s.reserved own).all (fun r => !bit (recF r 8 2) k)

/-- The cabinet number of a creation: a manifest entry's own, else the lowest that is free and not reserved (15 R527; 16 R553). -/
def State.freeCab (s : State) (own : Option Nat) : Option CabId :=
  match own with
  | some i => if i < 8 ∧ !(s.cab (cabId i)).live then some (cabId i) else none
  | none => (List.finRange 8).find? (fun c => decide (s.manifestCount ≤ c.val) && !(s.cab c).live)

/-- The first check of a creation that fails, in the order of 15 R526; OK where none does. -/
def State.createStatus (s : State) (l : List Byte) (own : Option Nat) (secure : Bool) : Nat :=
  let flash := own.isSome
  if !recOk l flash then csBAD_COMMAND
  else if !flash && !s.fnExists (recF l 0 1) then csNOT_FOUND
  else if (s.freeCab own).isNone then csCABINET_LIMIT
  else if !(recEngines l).all (s.engineFree own) then csENGINE_BUSY
  else if !recGeometry l then csCABINET_GEOMETRY
  else if !s.recWindow l flash then csWINDOW
  else if !s.recWorld l secure then csWORLD_LAYOUT
  else if !s.recResources l own then csRESOURCE
  else if s.flag F.SEC_STATUS_HALTED then csSERVICE_UNAVAILABLE
  else csOK

/-- The windows and allotments of a cabinet's engine (09 R261). -/
def State.setGeometry (s : State) (l : List Byte) (k : Nat) : State :=
  (List.range 8).foldl (fun s d =>
    let on := decide (d < recF l 2 1)
    let s := (s.put F.TE_DRW_LM_BASE_PAGE k d (if on then d * recF l 4 2 else 0)).put F.TE_DRW_LM_PAGES k d (if on then recF l 4 2 else 0)
    (s.put F.TE_DRW_IB_BASE_BLK k d (if on then d * recF l 3 1 else 0)).put F.TE_DRW_IB_BLKS k d (if on then recF l 3 1 else 0)) s

/-- The registers of an engine that a cabinet takes: its geometry, tolerances and budget (15 R527). -/
def State.takeEngine (s : State) (l : List Byte) (k : Nat) : State :=
  let s := (((s.perfClear (engId k)).setGeometry l k).put F.TE_CHK_TOL_REL_EXP k 0 (recF l 11 1)).put F.TE_CHK_TOL_ABS_EXP k 0 (recF l 12 1)
  (s.put F.QOS_M_BUDGET_GUAR k 0 (recF l 52 4)).put F.QOS_M_BUDGET_LIMIT k 0 (recF l 112 4)

/-- The CMU share of a cabinet: the lowest free one. -/
def State.placeShare (s : State) (c : CabId) (l : List Byte) : State :=
  if recF l 36 4 = 0 then s
  else match (List.finRange 8).find? (fun n => !s.flag F.CMU_SHARE_CFG_EN n.val) with
    | none => s
    | some n =>
      let s := (s.put F.CMU_SHARE_CFG_CABINET n.val 0 c.val).put F.CMU_SHARE_CFG_LIMIT n.val 0 (recF l 36 4)
      let s := (s.put F.CMU_SHARE_RLOG_ADDR n.val 0 (recF l 40 8)).put F.CMU_SHARE_RLOG_LEN_LEN n.val 0 (recF l 48 4)
      s.shareEnable n

/-- The queues of a cabinet. -/
def State.placeQueues (s : State) (c : CabId) (l : List Byte) : State :=
  (recQueues l).foldl (fun s q =>
    let s := (s.put F.SN_Q_CFG_CABINET q.1 0 c.val).put F.SN_Q_CFG_MULTI q.1 0 (b2n q.2.1)
    let s := (s.put F.SN_Q_GEOM_BASE q.1 0 q.2.2.1).put F.SN_Q_GEOM_DEPTH q.1 0 q.2.2.2
    s.queueEnable (queueId q.1)) s

/-- The Stream Buffer share of a cabinet. -/
def State.placeSbuf (s : State) (c : CabId) (l : List Byte) : State :=
  if recF l 34 2 = 0 then s
  else ((s.put F.SBUF_SHARE_BASE c.val 0 (recF l 32 2)).put F.SBUF_SHARE_SIZE c.val 0 (recF l 34 2)).sbufEnable c

/-- The scheduler's and network's registers of a cabinet, written before EN (09 R259; 15 R527). -/
def State.cabRegs (s : State) (c : CabId) (l : List Byte) : State :=
  let s := ((s.put F.SCH_CAB_CFG_KIND c.val 0 (recF l 1 1)).put F.SCH_CAB_CFG_RES_MAX c.val 0 (recF l 2 1)).put
    F.SCH_CAB_CFG_IB_BLKS c.val 0 (recF l 3 1)
  let s := (s.put F.SCH_CAB_CFG_WIN_PAGES c.val 0 (recF l 4 2)).put F.SCH_CAB_CFG_SLICE c.val 0 (recF l 6 2)
  let s := ((s.put F.SCH_CAB_ENG_ENGINES c.val 0 (recF l 8 2)).put F.SCH_CAB_SEMLOCK_LOCK c.val 0 (recF l 56 8)).put
    F.SCH_CAB_CT_ENTRIES c.val 0 0
  let s := ((s.put F.SN_CAB_CFG_SIZE c.val 0 (recEngines l).length).put F.SN_CAB_CFG_WDOG c.val 0 (recF l 14 2)).put
    F.SN_CAB_RANKMAP_MAP c.val 0 (recF l 72 8)
  (s.takeEffect R.SCH_CAB_CFG c.val).takeEffect R.SCH_CAB_CT c.val

/-- A checked cabinet created (15 R527; 14 R462): `own` is its manifest entry. -/
def State.makeCab (s : State) (c : CabId) (l : List Byte) (own : Option Nat) (secure lkr : Bool) (locker : Nat) : State :=
  let s := s.bindCabinet c.val secure lkr locker
  let s := (recEngines l).foldl (fun s k => s.takeEngine l k) (s.cabRegs c l)
  let s := ((s.placeSbuf c l).placeShare c l).placeQueues c l
  let off := (recEngines l).any (fun k => (s.eng (engId k)).ver == .off)
  let s := s.modCab c (fun _ => { emptyCabinet with
    live := true
    flash := own.isSome
    fn := if own.isSome then 0 else recF l 0 1
    base := recF l 16 8
    size := recF l 24 8
    secure := secure
    n1 := recF l 64 8
    manifest := own
    qctMax := recF l 10 1
    body := l
    resting := off })
  let s := if s.safeCab c ∧ (recEngines l).any (fun k => (s.eng (engId k)).ver == .unverified) then s.doubt 1 else s
  s.put F.SCH_CAB_CFG_EN c.val 0 1

/-- A creation: the status and, where OK, the number (15 R527). -/
def State.createCab (s : State) (l : List Byte) (own : Option Nat) (secure lkr : Bool) (locker : Nat) : State × Nat × Nat :=
  let st := s.createStatus l own secure
  if st ≠ csOK then (s, st, 0)
  else match s.freeCab own with
    | some c => (s.makeCab c l own secure lkr locker, csOK, c.val)
    | none => (s, csCABINET_LIMIT, 0)

/-- The CMU share, queues and Stream Buffer share of a cabinet disabled (15 R525). -/
def State.freeShares (s : State) (c : CabId) : State :=
  let s := (List.finRange 8).foldl (fun s n =>
    if s.flag F.CMU_SHARE_CFG_EN n.val ∧ s.rd F.CMU_SHARE_CFG_CABINET n.val = c.val then s.shareDisable n else s) s
  let s := (List.finRange 32).foldl (fun s q =>
    if s.flag F.SN_Q_CFG_EN q.val ∧ s.rd F.SN_Q_CFG_CABINET q.val = c.val then s.queueDisable q else s) s
  s.put F.SBUF_SHARE_EN c.val 0 0

/-- What a destruction does once every context of the cabinet is gone (15 R525). -/
def State.dropCab (s : State) (c : CabId) : State :=
  let s := (recEngines (s.cab c).body).foldl (fun s k => if s.holder k = some c then s.perfClear (engId k) else s) s
  (((s.freeShares c).put F.SCH_CAB_CFG_EN c.val 0 0)).modCab c (fun _ => emptyCabinet)

/-- A VF's reset is complete once every abort of its cabinets is (15 R534): STATE DETACHED. -/
def State.endFlr (s : State) (f : Fin 33) : State :=
  if (vget s.fns f).st = .resetting ∧ (s.cabs.toList.all (fun b => b.aborting.isEmpty || b.fn != f.val)) then
    s.modFn f (fun x => { x with st := .detached })
  else s

/-- What a VF's reset does to a cabinet of it once every context is gone (15 R534): shares cleared, queues emptied, semaphores 0. -/
def State.clearCab (s : State) (c : CabId) : State :=
  let s := (s.emptyQueues c).modCab c (fun b => { b with sems := Vector.replicate 64 0, after := .none })
  let s := match s.shareOf c with
    | some n => s.modShare n Share.cleared
    | none => s
  s.endFlr (fin 33 (by decide) (s.cab c).fn)

/-- The aborts of a cabinet go as far as they can, and what waits for their end follows (09 R281; 15 R525, R534). -/
def State.settleCab (s : State) (c : CabId) : State :=
  let s := s.tryAborts c
  if (s.cab c).aborting ≠ [] then s
  else match (s.cab c).after with
    | .none => s
    | .destroy => (s.dropCab c).endFlr (fin 33 (by decide) (s.cab c).fn)
    | .flr => s.clearCab c

/-- What SCH does once a command may have let an abort go on or a stored context become runnable (09 R278, R281). -/
def State.schSettle (s : State) : State := ((List.finRange 8).foldl (fun s c => s.settleCab c) s).evictLogs

/-- Every context of a cabinet is aborted, and `what` follows once all are gone; a destruction under way stays one (09 R280; 15 R525,
R534). -/
def State.abortThen (s : State) (c : CabId) (what : AfterAborts) : State :=
  ((s.modCab c (fun b => { b with after := if b.after = .destroy then .destroy else what })).abort c none).settleCab c

/-- A cabinet destroyed once its contexts are aborted (15 R525). -/
def State.destroyCab (s : State) (c : CabId) : State := s.abortThen c .destroy

/-! ### Losing the host (15 R531-R533) -/

/-- HIF_STATUS.REASON. -/
def rsVERSION : Nat := 1
def rsBAD_RINGS : Nat := 2
def rsHOST_LOST : Nat := 3
def rsNO_WINDOW : Nat := 4

/-- The functions of the host, the PF and the VFs. -/
def hostFns : List (Fin 33) := (List.finRange 33).filter (fun f => f.val != 32)

/-- Whether a cabinet is a host cabinet of a function. -/
def State.cabOfFn (s : State) (f : Fin 33) (c : CabId) : Bool := (s.cab c).live && !(s.cab c).flash && (s.cab c).fn == f.val

/-- The contexts of a function's cabinets. -/
def State.fnCtxs (s : State) (f : Fin 33) : Nat :=
  ((List.finRange 8).filter (s.cabOfFn f)).foldl (fun n c => n + (s.residents c).length + (s.storeds c).length) 0

/-- HOST_LOST entered (15 R532 steps 1 and 2). -/
def State.hostLost (s : State) : State :=
  if s.host.lostAt.isSome then s
  else
    let s : State := { s with host := { s.host with lostAt := some s.stamp, stamp := s.stamp, monitored := false } }
    hostFns.foldl (fun (s : State) f =>
      let x := vget s.fns f
      let n := if x.st = .open_ ∨ x.st = .quiesced then x.sq.used - b2n (!x.cmd.isEmpty) else 0
      let s := s.modFn f (fun x => { x with suspended := true, owed := true, gone := false, ctxLost := 0, subsLost := n })
      if x.st = .open_ ∨ x.st = .quiesced then
        (s.modFn f (fun x => { x with st := .lost, reason := rsHOST_LOST })).vector f 2
      else s) s

/-- The host state of a function discarded (15 R532 step 4): its contexts aborted, its cabinets destroyed, its window
withdrawn, dirty logging stopped, its page back to reset. -/
def State.discardFn (s : State) (f : Fin 33) : State :=
  let n := s.fnCtxs f
  let s := (List.finRange 8).foldl (fun s c => if s.cabOfFn f c then s.destroyCab c else s) s
  let s := s.modFn f (fun x => { emptyFn with
    bme := x.bme
    owed := x.owed
    gone := true
    ctxLost := x.ctxLost + n
    subsLost := x.subsLost
    evLost := x.evLost
    vectors := x.vectors })
  s.resetRegs (R.HIF_VERSION.addr f.val 0) 4096

/-- HOST_STATE_DISCARD (15 R532, R533): 10 s after HOST_LOST without a resume, of every function; after a PF attach with
RESUME, of the VFs that have not attached. -/
def State.hostDiscard (s : State) : State :=
  hostFns.foldl (fun s f => if (vget s.fns f).suspended then s.discardFn f else s) s

/-- HEARTBEAT_TIMEOUT (15 R531). -/
def State.heartbeatTimeout (s : State) : State := if s.host.monitored then s.hostLost else s

/-- PCIE_LINK_DOWN (15 R531). -/
def State.pcieDown (s : State) : State := if s.linkUp then ({ s with linkUp := false } : State).hostLost else s

/-- PERST_N_DEASSERT (17 R594): the endpoint leaves reset where its domain is powered. -/
def State.perstHigh (s : State) : State := if s.pd 41 then { s with linkUp := true } else s

/-- VF_ENABLE_CLEAR (15 R507, R535): the host state of every VF is discarded. -/
def State.vfClear (s : State) : State :=
  if !s.host.vfEnable then s
  else
    let s : State := { s with host := { s.host with vfEnable := false } }
    hostFns.foldl (fun s f => if f.val = 0 then s else s.discardFn f) s

/-- PF_FLR (15 R531, R535): the host state of every VF is discarded and HOST_LOST entered; the PF's page and MSI-X state return
to reset. -/
def State.pfFlr (s : State) : State :=
  let s := hostFns.foldl (fun s f => if f.val = 0 then s else s.discardFn f) s
  let s := s.hostLost
  let s : State := { s with host := { s.host with vfEnable := false, numVfs := 0 } }
  (s.modFn 0 (fun x => { emptyFn with
    suspended := x.suspended
    owed := x.owed
    gone := x.gone
    ctxLost := x.ctxLost
    subsLost := x.subsLost
    evLost := x.evLost })).msixReset 0 |>.resetRegs (R.HIF_VERSION.addr 0 0) 4096

/-- VF_FLR (15 R534, R541): the VF's contexts are aborted, its shares cleared, queues emptied and semaphores set to 0, and its
page and MSI-X state return to reset; its window, its cabinets and dirty logging stay. It is RESETTING until the aborts are over. -/
def State.vfFlr (s : State) (f : Fin 33) : State :=
  if f.val = 0 ∨ f.val = 32 ∨ !s.fnExists f.val then s
  else
    let s := (List.finRange 8).foldl (fun s c =>
      if !s.cabOfFn f c then s
      else s.abortThen c .flr) s
    (((s.modFn f (fun x => { emptyFn with
      st := .resetting
      win := x.win
      dirty := x.dirty
      suspended := x.suspended
      owed := x.owed
      gone := x.gone
      ctxLost := x.ctxLost
      subsLost := x.subsLost })).msixReset f).resetRegs (R.HIF_VERSION.addr f.val 0) 0x18).endFlr f

end Sys2Proof.Machine
end

