-- ==== Sys2Proof/Machine/Domain.lean ====
section
/-! DEFINITION. Power domains and clocks (17 R564, R565, R582, R590-R592): what a domain needs, what is lost with it, and what its
power-up brings. -/

namespace Sys2Proof.Machine

/-! ### Sets of domains (17 R565) -/

/-- The domains that a domain needs. -/
def needs (d : Nat) : List Nat :=
  if d = 0 then []
  else if d ≤ 3 ∨ d = 32 ∨ d = 61 then [0]
  else if d ≤ 19 then [20 + (d - 4) / 4, 61]
  else if 43 ≤ d ∧ d ≤ 48 then [42]
  else if 56 ≤ d ∧ d ≤ 58 then [1, 2, 3]
  else [61]

/-- The domains that go with one: PD33-PD40 and PD28-PD29 are powered and off together. -/
def group (d : Nat) : List Nat :=
  if 33 ≤ d ∧ d ≤ 40 then (List.range 8).map (fun i => 33 + i) else if d = 28 ∨ d = 29 then [28, 29] else [d]

/-- The set of a request that powers a domain on, what is needed first. -/
def upSet (d : Nat) : List Nat :=
  let a := group d
  let b := a.flatMap needs
  let c := b.flatMap needs
  (c.flatMap needs ++ c ++ b ++ a).eraseDups

/-- The set of a request that powers a domain off. -/
def downSet (d : Nat) : List Nat := (List.range 64).filter (fun x => (upSet x).any (fun e => (group d).contains e))

/-! ### Clocks (17 R582, R583, R588) -/

/-- Whether a rail that stops the fast clocks is below BROWN: VDD_CORE or VDD_SRAM. -/
def Pmc.dip (p : Pmc) : Bool := bit p.brown 0 || bit p.brown 1

/-- The clocks as the domains, PLLs and rails have them. -/
def State.clocks (s : State) : State :=
  let p := s.pmc
  let s := if p.pllF && s.pd 61 && !p.dip && !bit p.unlocked 0 then s.startFclk else s.stopFclk
  { s with
    aclk := (s.pd 56 || (List.range 16).any (fun k => s.pd (k + 4))) && !p.dip && !bit p.unlocked 1
    islClk := s.pd 1 && !bit p.brown 3 && !bit p.unlocked 2 }

/-- Whether the control cores and the main fabric are clocked: by FCLK, or before PLL_F locks by the boot oscillator (17 R567). -/
def State.mainClk (s : State) : Bool := s.fclk || (s.pmc.good && !s.pmc.pllF && s.pd 32)

/-- Whether engine `k` is clocked: in IDLE only for a patrol (17 R575). -/
def State.aclkOn (s : State) (k : EngineId) : Bool :=
  s.aclk && (k.val == 16 || s.rd F.PMC_STATE_STATE != 1 || (s.eng k).st == .patrol || (s.eng k).patrolDue)

/-- Whether a master is an island core that a mismatch has halted: nothing of the pair leaves the island until the island domains are
reset (13 R425). -/
def State.pairHalted (s : State) (m : Master) : Bool := s.isl.halted && (match m with | .isl _ => true | _ => false)

/-- Whether a master's accesses are made: its clock runs, and it is not halted. -/
def State.clkOf (s : State) (m : Master) : Bool := (if m.cabin then s.islClk else s.mainClk) && !s.pairHalted m

/-- What happens only while a clock runs. -/
def State.gate (s : State) (on : Bool) (t : State) : State := if on then t else s

/-! ### Loss (17 R564) -/

/-- Whether every domain of a list is off. -/
def State.allOff (s : State) (l : List Nat) : Bool := l.all (fun d => !s.pd d)

/-- The scheduler's state lost with PD31 (17 R578): every cabinet, context and job, without completions; for the loss report of
15 R533 the contexts that a function had are counted. -/
def State.loseSch (s : State) : State :=
  let fns := Vector.ofFn (fun (f : Fin 33) =>
    let x := vget s.fns f
    { emptyFn with
      bme := x.bme
      owed := x.owed
      gone := x.owed
      ctxLost := x.ctxLost + s.fnCtxs f
      subsLost := x.subsLost
      vectors := x.vectors })
  (({ s with
      fns := fns
      cabs := Vector.replicate 8 emptyCabinet } : State).resetRegs 0x40050000 0x10000).resetRegs (R.HIF_VERSION.addr 32 0) 0x1000

/-- The island's state lost (17 R579): the cores, the Cabin Bus blocks and the Arbiter Unit return to reset, with FAULT_N low. -/
def State.loseIsland (s : State) : State :=
  ({ s with
      isl := resetIsl
      arb := resetArb
      bridge := ⟨[], none⟩
      cans := Vector.replicate 12 ⟨0, 0⟩ } : State).resetRegs 0x20000000 0x23000 |>.resetRegs 0x20025000 0x1000

/-- The CMU's state lost: every share is disabled. -/
def State.loseCmu (s : State) : State :=
  ({ s with shares := Vector.replicate 8 ⟨.disabled, [], 0, false, []⟩ } : State).resetRegs 0x40060000 0x1000

/-- The stream network's state lost. -/
def State.loseStreams (s : State) : State :=
  ({ s with sn := State.reset.sn } : State).resetRegs 0x40070000 0x1000

/-- The switch's state lost; what left it stays in the world. -/
def State.loseSwitch (s : State) : State :=
  ({ s with sw := { State.reset.sw with out := s.sw.out } } : State).resetRegs 0x40200000 0x100000

/-- What PD61 holds lost: the global, memory, time (the ITU apart, which is in PD0) and performance blocks. -/
def State.loseFabric (s : State) : State :=
  let s := ((s.resetRegs 0x40000000 0x10000).resetRegs 0x40040000 0x10000).resetRegs 0x40090000 0x40
  let s := (s.resetRegs 0x40090060 0xFA0).resetRegs 0x400C0000 0x1000
  { s with
    mtu := 0
    inj := none
    pulses := Vector.replicate 8 ⟨none, false, 0⟩
    caps := Vector.replicate 16 []
    capIn := Vector.replicate 16 none }

/-- What is lost when a domain, already marked off, has lost its power. -/
def State.loseDomain (s : State) (d : Nat) : State :=
  if d = 2 then { s with mem := s.mem.wipe 0x10000000 0x400000 }
  else if d = 3 then s.loseIsland
  else if 4 ≤ d ∧ d ≤ 19 then
    (s.loseEngine (engId (d - 4))).modEng (engId (d - 4)) (fun e =>
      { e with st := if e.ver = .fenced then e.st else .stopped, ver := if e.ver = .fenced then e.ver else .off })
  else if 20 ≤ d ∧ d ≤ 23 then
    let s : State := { s with ppus := vmod s.ppus (fin 4 (by decide) (d - 20)) (fun _ => []) }
    if s.allOff [20, 21, 22, 23] then s.loseStreams else s
  else if 24 ≤ d ∧ d ≤ 27 then
    ({ s with mem := s.mem.wipe (0x80000000 + (d - 24) * 2 ^ 23) (2 ^ 23) } : State).put0 F.SBUF_STAT_READY
      (putBits (s.rd F.SBUF_STAT_READY) (d - 24) (d - 24) 0)
  else if d = 28 then s.loseCmu
  else if d = 30 then ({ s with ga := emptyGa } : State).resetRegs 0x40080300 0xD00
  else if d = 31 then s.loseSch
  else if d = 32 then (({ s with sec := resetSec } : State).resetRegs 0x40010000 0x1000).resetRegs 0x40020000 0x10000
  else if d = 41 then
    (hostFns.foldl (fun s f => s.msixReset f) ({ s with linkUp := false } : State).hostLost).resetRegs (R.HIF_VERSION.addr 0 0)
      0x20000
  else if d = 42 then s.loseSwitch
  else if 49 ≤ d ∧ d ≤ 52 then
    let s : State := { s with slots := Vector.ofFn (fun (n : Fin 16) =>
      if s.rd F.CSI_S_CFG_RECV n.val = d - 49 then emptySlot else vget s.slots n) }
    if s.allOff [49, 50, 51, 52] then ({ s with slots := Vector.replicate 16 emptySlot } : State).resetRegs 0x40080000 0x100 else s
  else if 53 ≤ d ∧ d ≤ 55 then
    let s : State := { s with outs := Vector.ofFn (fun (o : Fin 2) => if d = 53 + o.val ∨ d = 55 then emptyOut else vget s.outs o) }
    if s.allOff [53, 54, 55] then ({ s with outs := Vector.replicate 2 emptyOut } : State).resetRegs 0x40080100 0x200 else s
  else if d = 56 then (s.loseEngine 16).modEng 16 (fun e => { e with st := .stopped, ver := .off })
  else if 33 ≤ d ∧ d ≤ 40 then s.flushCrc ((List.range 4).map (fun i => 4 * (d - 33) + i))
  else if d = 57 then (s.flushCrc [32]).resetRegs 0x20024000 0x800
  else if d = 58 then (s.flushCrc [33]).resetRegs 0x20024800 0x800
  else if d = 59 then s.resetRegs 0x400B0000 0x10000
  else if d = 60 then
    ({ s with trs := { State.reset.trs with primary := s.trs.primary, out := s.trs.out } } : State).resetRegs 0x400A0000 0x1000
  else if d = 61 then s.loseFabric
  else if d = 62 then s.resetRegs 0x400D0000 0x10000
  else s

/-- The domains of a list that are on go off (17 R565). -/
def State.powerOff (s : State) (l : List Nat) : State :=
  let on := l.filter (fun d => s.pd d)
  let s := on.foldl (fun s d => s.setPd d false) s
  (on.foldl (fun s d => s.loseDomain d) s).clocks

/-! ### Power-up (17 R564, R572) -/

/-- An engine powered up: UNVERIFIED until its first patrol (10 R317), its windows those of its cabinet (09 R261). -/
def State.engineUp (s : State) (k : EngineId) : State :=
  let s := (s.modEng k (fun e => { e with st := .stopped, fresh := true })).unverified k
  match s.holder k.val with
  | some c =>
    let l := (s.cab c).body
    ((s.setGeometry l k.val).put F.TE_CHK_TOL_REL_EXP k.val 0 (recF l 11 1)).put F.TE_CHK_TOL_ABS_EXP k.val 0 (recF l 12 1)
  | none => s

/-- What a domain's power-up brings. -/
def State.upDomain (s : State) (d : Nat) : State :=
  if 4 ≤ d ∧ d ≤ 19 then s.engineUp (engId (d - 4))
  else if d = 56 then s.modEng 16 (fun e => { e with st := .stopped, ver := .unverified, fresh := false })
  else if d = 31 then s.wdogArm 1
  else if 20 ≤ d ∧ d ≤ 23 then s.wdogArm (d - 18)
  else if d = 57 ∨ d = 58 then s.put F.HB_STAT_READY (d - 57) 0 (b2n (s.hyperBytes (d - 57) != 0))
  else s

/-- Whether a domain is one of a fenced engine (10 R310). -/
def State.fencedPd (s : State) (d : Nat) : Bool := decide (4 ≤ d ∧ d ≤ 19) && (s.eng (engId (d - 4))).ver == .fenced

/-- The domains of a list that are off come on, but for those of fenced engines. -/
def State.powerOn (s : State) (l : List Nat) : State :=
  let off := l.filter (fun d => !s.pd d && !s.fencedPd d)
  let s := off.foldl (fun s d => s.setPd d true) s
  (off.foldl (fun s d => s.upDomain d) s).clocks

/-- Cabinets that rested because an engine was off go on once every engine of theirs is on (17 R572). -/
def State.unrest (s : State) : State :=
  (List.finRange 8).foldl (fun s c =>
    if (s.cab c).live ∧ (s.cab c).resting ∧ ((List.range 16).all (fun k =>
        !bit (s.rd F.SCH_CAB_ENG_ENGINES c.val) k || s.pd (k + 4))) then s.modCab c (fun b => { b with resting := false })
    else s) s

end Sys2Proof.Machine
end

