-- ==== Sys2Proof/Machine/Boot.lean ====
section
/-! DEFINITION. Firmware and start-up (16; 14 R490-R495, R501-R503): the flash directory, slots and images, the Configuration
Record, the start-up sequence, the Boot Manifest and the recovery slot. -/

namespace Sys2Proof.Machine

/-! ### Failure codes and stages (16 R558, BOOT_STATUS) -/

def bfDIRECTORY : Nat := 0x01
def bfROOT_KEY : Nat := 0x02
def bfFORMAT : Nat := 0x03
def bfSIGNATURE : Nat := 0x04
def bfROLLBACK : Nat := 0x05
def bfCONFIG : Nat := 0x06
def bfRECOVERY : Nat := 0x07
def bfHYPERRAM : Nat := 0x08
def bfLPDDR : Nat := 0x09
def bfEMMC : Nat := 0x0A
def bfMODEL : Nat := 0x0B
def bfIDENTITY : Nat := 0x0C

/-- Flash offset 0 and the end of the flash window (12 R380; 16 R545). -/
def flashBase : Nat := 0x90000000
def flashEnd : Nat := 0xB0000000

/-- Bytes of flash. -/
def State.flash (s : State) (off n : Nat) : List Byte := s.mem.readBytes (flashBase + off) n

/-- BOOT_STATUS.FAIL set. -/
def State.bootFail (s : State) (code : Nat) : State := if code = 0 then s else s.put0 F.BOOT_STATUS_FAIL code

/-- BOOT_STATUS.STAGE. -/
def State.stage (s : State) : Nat := s.rd F.BOOT_STATUS_STAGE
/-- BOOT_STATUS.STAGE set. -/
def State.setStage (s : State) (n : Nat) : State := s.put0 F.BOOT_STATUS_STAGE n

/-- `n` bytes from offset `o` are 0. -/
def zeros (l : List Byte) (o n : Nat) : Bool := (List.range n).all (fun i => nth 0 l (o + i) == 0)

/-! ### The directory (16 R546, R560) -/

/-- Whether a directory copy is valid. -/
def dirOk (l : List Byte) : Bool := fieldAt l 0 4 == 0x52494454 && fieldAt l 60 4 == crc32 (l.take 60)

/-- A directory copy's bytes, by its number. -/
def State.dirCopy (s : State) (i : Nat) : List Byte := s.flash (0x1000 * i) 64

/-- The number of the copy that is used (16 R546). -/
def State.dirUsed (s : State) : Option Nat :=
  let a := s.dirCopy 0
  let b := s.dirCopy 1
  if dirOk a then (if dirOk b && lower32 (fieldAt a 4 4) (fieldAt b 4 4) then some 1 else some 0)
  else if dirOk b then some 1 else none

/-- A directory copy with the fields of another and new ones, its CRC computed. -/
def dirBytes (seq a b active trial tries xspi : Nat) : List Byte :=
  let l := leBytes 0x52494454 4 ++ leBytes seq 4 ++ leBytes a 4 ++ leBytes b 4 ++ leBytes active 1 ++ leBytes trial 1
    ++ leBytes tries 1 ++ leBytes xspi 1 ++ leBytes 0 40
  l ++ leBytes (crc32 l) 4

/-- A directory copy written: the one that is not used. -/
def State.dirWrite (s : State) (l : List Byte) : State :=
  let i := if s.dirUsed = some 0 then 1 else 0
  { s with mem := s.mem.writeBytes (flashBase + 0x1000 * i) l }

/-! ### Images (14 R490-R495) -/

/-- An image header's fields (14 R492). -/
structure Img where
  ty : Nat
  signer : Nat
  svn : Nat
  counter : Nat
  len : Nat
  load : Nat
  deriving DecidableEq, Repr

/-- The fields of a header's bytes. -/
def imgOf (l : List Byte) : Img := ⟨fieldAt l 4 2, fieldAt l 6 1, fieldAt l 8 4, fieldAt l 12 1, fieldAt l 16 4, fieldAt l 32 8⟩

/-- Check 1 of 14 R495 on a header, but for the image's place. -/
def hdrOk (l : List Byte) : Bool :=
  fieldAt l 0 4 == 0x4D495443 && zeros l 7 1 && zeros l 13 3 && zeros l 20 12 && zeros l 40 24
    && (decide (fieldAt l 12 1 ≤ 30) || fieldAt l 12 1 == 0xFF)

/-- Whether a type takes a signer (14 R493); `cert` is the delegation certificate. -/
def signerOk (ty signer : Nat) (cert : List Byte) : Bool :=
  signer == 0 || (signer == 1 && decide (0x10 ≤ ty ∧ ty ≤ 0x14) && bit (fieldAt cert 16 4) (ty - 0x10))

/-- Whether a delegation certificate verifies under the root key for this device (14 R494, R495 check 3). -/
def certOk (root cert : List Byte) : Bool :=
  fieldAt cert 0 4 == 0x4C445443 && fieldAt cert 4 2 == 1 && fieldAt cert 6 2 == 0 && zeros cert 20 12
    && (zeros cert 32 32 || (cert.drop 32).take 32 == leBytes Config.deviceId 32)
    && sigOk root (sha512 (cert.take 592)) ((cert.drop 592).take 512)

/-- An image's digest: over its header and payload (14 R492). -/
def State.imgDigest (s : State) (base : Nat) : List Byte :=
  let h := s.mem.readBytes base 64
  sha512 (h ++ s.mem.readBytes (base + 576) (imgOf h).len)

/-- The checks of 14 R495 in their order on the image of type `ty` at a key, below `lim`: a failure code, 0 where every check
passes. -/
def State.checkImage (s : State) (root cert : List Byte) (base lim ty : Nat) : Nat :=
  let h := s.mem.readBytes base 576
  let i := imgOf h
  if lim < base + 576 + i.len ∨ !hdrOk h then bfFORMAT
  else if i.ty ≠ ty ∨ !signerOk ty i.signer cert then bfFORMAT
  else if i.signer = 1 ∧ !certOk root cert then bfSIGNATURE
  else if i.signer = 1 ∧ fieldAt cert 8 4 < s.rollback 31 then bfROLLBACK
  else if !sigOk (if i.signer = 0 then root else (cert.drop 64).take 528) (s.imgDigest base) (h.drop 64) then bfSIGNATURE
  else if i.counter ≤ 30 ∧ i.svn < s.rollback i.counter then bfROLLBACK
  else 0

/-- An accepted image recorded: the measurement log, the SVN of its counter and the certificate's serial (14 R495, R499,
R502). -/
def State.acceptImage (s : State) (cert : List Byte) (base index : Nat) : State :=
  let i := imgOf (s.mem.readBytes base 64)
  (s.measureLog ⟨i.ty, index, i.svn, i.signer, s.imgDigest base⟩).modSec (fun c => { c with
    svns := if i.counter ≤ 30 then (i.counter, i.svn) :: c.svns else c.svns
    serial := if i.signer = 1 then some (fieldAt cert 8 4) else c.serial })

/-- An image checked and, where it passes, recorded. -/
def State.takeImage (s : State) (root cert : List Byte) (base lim ty index : Nat) : State × Nat :=
  let code := s.checkImage root cert base lim ty
  if code = 0 then (s.acceptImage cert base index, 0) else (s, code)

/-! ### Slots (16 R547) -/

/-- The table of a slot at a key, below `lim`: types and offsets; none where it breaks its form. -/
def State.slotTable (s : State) (b lim : Nat) : Option (List (Nat × Nat)) :=
  let h := s.mem.readBytes b 8
  let n := fieldAt h 4 4
  if fieldAt h 0 4 ≠ 0x544C5354 ∨ lim < b + 8 + 8 * n then none
  else
    let l := s.mem.readBytes (b + 8) (8 * n)
    if (List.range n).all (fun i => fieldAt l (8 * i + 2) 2 == 0) then
      some ((List.range n).map (fun i => (fieldAt l (8 * i) 2, fieldAt l (8 * i + 4) 4)))
    else none

/-- How often a table names a type. -/
def timesNamed (t : List (Nat × Nat)) (ty : Nat) : Nat := (t.filter (fun e => e.1 == ty)).length

/-- The offset of a type that a table names. -/
def offsetOf (t : List (Nat × Nat)) (ty : Nat) : Nat :=
  match t.find? (fun e => e.1 == ty) with
  | some e => e.2
  | none => 0

/-- The types of a complete slot. -/
def slotTypes : List Nat := [1, 2, 3, 4, 5, 0x10, 0x11, 0x12, 0x13]

/-- Whether a slot's table is complete (16 R547). -/
def State.slotComplete (s : State) (b : Nat) (t : List (Nat × Nat)) : Bool :=
  let delegated := slotTypes.any (fun ty => fieldAt (s.mem.readBytes (b + offsetOf t ty) 64) 6 1 == 1)
  slotTypes.all (fun ty => timesNamed t ty == 1) && decide (timesNamed t 0xC1 ≤ 1)
    && (!delegated || timesNamed t 0xC1 == 1)

/-- The certificate that a slot names. -/
def State.slotCert (s : State) (b : Nat) (t : List (Nat × Nat)) : List Byte :=
  if timesNamed t 0xC1 = 1 then s.mem.readBytes (b + offsetOf t 0xC1) 1104 else []

/-- The root key blob of flash (16 R545). -/
def State.rootKey (s : State) : List Byte := s.flash 0x10000 528

/-- Some images of a slot checked in order: the first failure code. -/
def State.takeImages (s : State) (b lim : Nat) (t : List (Nat × Nat)) : List Nat → State × Nat
  | [] => (s, 0)
  | ty :: l =>
    let (s, code) := s.takeImage s.rootKey (s.slotCert b t) (b + offsetOf t ty) lim ty 0
    if code = 0 then s.takeImages b lim t l else (s, code)

/-! ### The Configuration Record (16 R548, R549) -/

/-- A field of the accepted record. -/
def State.cfg (s : State) (o n : Nat) : Nat := fieldAt s.boot.config o n
/-- A bit of its FLAGS. -/
def State.cfgFlag (s : State) (i : Nat) : Bool := bit (s.cfg 3 1) i

/-- Whether a record uses no reserved bit, no reserved encoding and no value out of its range. -/
def cfgOk (l : List Byte) : Bool :=
  let f := fieldAt l
  let inSram := fun (a n unit : Nat) => a % unit == 0 && decide (0x10000000 ≤ a ∧ a + n ≤ 0x10400000)
  l.length == 64 && f 0 2 == 1 && decide (1 ≤ f 2 1 ∧ f 2 1 ≤ 3) && !bit (f 3 1) 7
    && decide (bits (f 4 1) 4 2 ≤ 4) && decide (bits (f 4 1) 7 5 ≤ 4) && decide (26 ≤ f 5 1 ∧ f 5 1 ≤ 32) && f 6 2 == 0
    && decide (f 8 4 ≤ 63488) && decide (f 12 4 ≤ 4096) && decide (f 16 4 ≤ 8192) && decide (f 20 4 ≤ 1024)
    && decide (f 24 8 < 2 ^ 40) && inSram (f 32 4) 65536 65536 && inSram (f 36 4) 16384 16384
    && decide (f 40 2 + f 42 2 ≤ 64) && (bit (f 3 1) 1 || f 42 2 != 0) && zeros l 52 12

/-- The fitted memories of the Configuration Record in MEM_CFG, whose fields are Static (00 R11). -/
def State.applyMemory (s : State) (n : Nat) : State :=
  if s.flag F.MEM_CFG_EN then
    (if s.rd F.MEM_CFG_HYP1 = bits n 7 5 ∧ s.rd F.MEM_CFG_HYP0 = bits n 4 2 ∧ s.rd F.MEM_CFG_CAP = bits n 1 0 then s
     else s.put0 F.MEM_ERR_CFG_WHILE_RUN 1)
  else ((s.put0 F.MEM_CFG_HYP1 (bits n 7 5)).put0 F.MEM_CFG_HYP0 (bits n 4 2)).put0 F.MEM_CFG_CAP (bits n 1 0)

/-- The record applied and locked (16 R549; 14 R461, R463, R467). -/
def State.applyConfig (s : State) (l : List Byte) : State :=
  let f := fieldAt l
  let flag := fun i => bit (f 3 1) i
  let s := if s.flag F.SEC_CFG_LOCK then s
    else ((s.put0 F.SEC_CFG_MODE (f 2 1)).put0 F.SEC_CFG_SEC_DEBUG (b2n (flag 0))).put0 F.SEC_CFG_LOCK 1
  let s := (List.range 4).foldl (fun s k =>
    if s.flag F.SEC_WM_LOCK k then s else (s.put F.SEC_WM_LIMIT k 0 (f (8 + 4 * k) 4)).put F.SEC_WM_LOCK k 0 1) s
  let s := s.applyMemory (f 4 1)
  let s := s.put0 F.SEC_MWORLD_SECURE (if flag 0 then f 24 8 else f 24 8 % 2 ^ 39)
  { s with
    winLog2 := f 5 1
    trs := { s.trs with primary := !flag 4 }
    boot := { s.boot with config := l } }

/-- Key of the byte that tells that the RPMB authentication key is programmed. -/
def rpmbKeyAt : Nat := 2 ^ 55

/-- Rollback storage as a record's FLAGS and the card have it (14 R503, R498); whether three authenticated reads fail is a free
value. -/
def State.rollbackSetup (s : State) (flags : Nat) : State :=
  let (c, s) := s.nextFree
  let s : State := if bit flags 6 ∧ bit flags 2 then { s with mem := s.mem.write rpmbKeyAt 1 } else s
  let programmed := s.mem.read rpmbKeyAt != 0
  let absent := !bit flags 6 || !programmed
  let failed := !absent && (s.flag F.SEC_STATUS_NO_IDENTITY || Config.freeBool c 0)
  (s.put0 F.SEC_STATUS_ROLLBACK_ABSENT (b2n absent)).put0 F.SEC_STATUS_ROLLBACK_FAILED (b2n failed)

/-! ### The Boot Manifest (16 R552) -/

/-- Whether a manifest has its form. -/
def manifestOk (l : List Byte) : Bool :=
  let n := fieldAt l 2 2
  fieldAt l 0 2 == 1 && decide (n ≤ 8) && l.length == 64 + 192 * n && zeros l 4 60
    && (List.range n).all (fun i =>
        let e := (l.drop (64 + 192 * i)).take 192
        decide (fieldAt e 128 1 < 4) && zeros e 131 1 && zeros e 178 14 && decide (fieldAt e 130 1 ≤ 64)
          && decide (fieldAt e 176 2 ≤ 72))

/-! ### Candidates (16 R558) -/

/-- A payload of a slot. -/
def State.payloadOf (s : State) (b : Nat) (t : List (Nat × Nat)) (ty : Nat) : List Byte :=
  let a := b + offsetOf t ty
  s.mem.readBytes (a + 576) (imgOf (s.mem.readBytes a 64)).len

/-- A candidate's checks up to the release of PMC (16 R550): the state with what was applied, and the failure code. -/
def State.tryFirmware (s : State) (c : Cand) : State × Nat :=
  let b := flashBase + c.base
  match s.slotTable b flashEnd with
  | none => (s, bfFORMAT)
  | some t =>
    if !s.slotComplete b t then (s, bfFORMAT)
    else
      let s := (s.setStage 1).rollbackSetup (fieldAt (s.payloadOf b t 0x10) 3 1)
      let (s, code) := s.takeImages b flashEnd t [0x10]
      if code ≠ 0 then (s, code)
      else
        let l := s.payloadOf b t 0x10
        if !cfgOk l then (s, bfCONFIG)
        else
          let s := (s.applyConfig l).setStage 2
          let (s, code) := s.takeImages b flashEnd t [1, 2, 3, 4, 0x11]
          if code ≠ 0 then (s, code)
          else if !manifestOk (s.payloadOf b t 0x11) then (s, bfFORMAT)
          else ({ s with boot := { s.boot with manifest := s.payloadOf b t 0x11 } }, 0)

/-- The recovery slot's checks (16 R547, R562). -/
def State.tryRecovery (s : State) : State × Nat :=
  let b := flashBase + 0x20000
  match s.slotTable b flashEnd with
  | none => (s, bfRECOVERY)
  | some t =>
    if t.length ≠ 2 ∨ timesNamed t 1 ≠ 1 ∨ timesNamed t 2 ≠ 1 then (s, bfRECOVERY)
    else
      let (s, code) := (s.rollbackSetup 0).takeImages b flashEnd t [1, 2]
      (s, if code = 0 then 0 else bfRECOVERY)

/-- The running firmware's release number, which no table of the spec places in an image: free values (19 R619). -/
def State.writeDevFw (s : State) : State :=
  let (c, s) := s.nextFree
  s.setReg R.DEV_FW 0 0 (Config.freeWord c 0).toNat

/-- The domains that PMC powers once it is released (17 R566); PD33-PD40 when LPDDR5X has been trained (17 R573). -/
def State.mainSet (s : State) : List Nat :=
  (List.range 64).filter (fun d =>
    (d != 41 || s.cfgFlag 5) && (d != 57 || s.hyperBytes 0 != 0) && (d != 58 || s.hyperBytes 1 != 0)
      && (decide (d < 33 ∨ 40 < d) || s.pmc.trained))

/-- PMC released (16 R550, R562; 17 R566). -/
def State.releasePmc (s : State) (c : Cand) (rest : List Cand) : State :=
  let s : State := { s.writeDevFw with boot := { s.boot with cur := some c, cands := rest }, pmc := { s.pmc with run := true } }
  let s := (s.put0 F.BOOT_STATUS_SLOT c.slot).put0 F.BOOT_STATUS_TRIAL (b2n c.trial)
  if c.slot = 2 then
    let s := if s.flag F.SEC_CFG_LOCK then s else s.put0 F.SEC_CFG_MODE 1
    (s.setStage 8).powerOn ([41, 24, 25, 26, 27, 59, 61].flatMap upSet)
  else (s.setStage 3).powerOn s.mainSet

/-- The candidates tried in order (16 R558): the first that passes releases PMC; with none left, BOOT_HALT. -/
def State.tryCands (s : State) : List Cand → State
  | [] => ({ s with boot := { s.boot with cands := [], cur := none } } : State).setStage 9
  | c :: l =>
    let (s, code) := if c.slot = 2 then s.tryRecovery else s.tryFirmware c
    if code = 0 then s.releasePmc c l else (s.bootFail code).tryCands l

/-- The candidates of a start from a directory copy, and the trial's directory write (16 R558, R560). -/
def State.fromDirectory (s : State) : State × List Cand :=
  let rcv : Cand := ⟨2, 0x20000, false⟩
  match s.dirUsed with
  | none => (s.bootFail bfDIRECTORY, [rcv])
  | some i =>
    let d := s.dirCopy i
    let f := fieldAt d
    let slot := fun (n : Nat) => if n = 0 then f 8 4 else f 12 4
    let act : Cand := ⟨min 1 (f 16 1), slot (min 1 (f 16 1)), false⟩
    let s := ((s.put0 F.XSPI_CFG_PROTO (f 19 1 % 2)).put0 F.XSPI_CFG_DIV (if bit (f 19 1) 0 then 5 else 40)).put0 F.XSPI_CFG_EN 1
    if f 17 1 ≤ 1 ∧ f 18 1 ≠ 0 then
      let s := s.dirWrite (dirBytes ((f 4 4 + 1) % 2 ^ 32) (f 8 4) (f 12 4) (f 16 1) (f 17 1) (f 18 1 - 1) (f 19 1))
      (s.put0 F.BOOT_STATUS_TRIES (f 18 1 - 1), [⟨f 17 1, slot (f 17 1), true⟩, act, rcv])
    else (s.put0 F.BOOT_STATUS_TRIES (f 18 1), [act, rcv])

/-- Mask ROM from the release of SEC to that of PMC (16 R550, R558; 17 R566, R578): the PUF, the directory, the root key and
the candidates. An exit from PARK boots the slot that PMC_CAUSE records. -/
def State.startUp (s : State) (fromPark : Bool) : State :=
  let (c, s) := s.nextFree
  let s := (s.powerOn [0, 32, 59, 61]).modSec (fun _ => resetSec)
  let s : State := { s with boot := { resetBoot with fromPark := fromPark, t0 := s.ticks } }
  let s := s.setStage 0
  let s := if Config.pufReconstructs c then s else (s.put0 F.SEC_STATUS_NO_IDENTITY 1).bootFail bfIDENTITY
  let (s, cands) := s.fromDirectory
  let cands := if fromPark then cands.filter (fun x => x.slot == s.rd F.PMC_CAUSE_SLOT || x.slot == 2) else cands
  if sha512 (s.rootKey.take 516) ≠ beBytes Config.rootKeyDigest 64 then (s.bootFail bfROOT_KEY).setStage 9
  else s.tryCands cands

/-- POWER_GOOD_RISE (16 R550; 17 R566). -/
def State.powerGood (s : State) : State :=
  if s.pmc.good ∨ s.pmc.hold then { s with pmc := { s.pmc with good := true } }
  else ({ s with pmc := { s.pmc with good := true } } : State).startUp false

/-- PLL_F_LOCK (17 R567). -/
def State.pllFLock (s : State) : State :=
  if s.pmc.good ∧ !s.pmc.hold then ({ s with pmc := { s.pmc with pllF := true } } : State).clocks else s

/-! ### The release of the island (16 R550, R551, R553, R556) -/

/-- The control cores released, the booted slot recorded, the memory system started and the host interface opened. -/
def State.releaseCores (s : State) (c : Cand) : State :=
  let s := (s.put0 F.PMC_CAUSE_SLOT c.slot).setStage 4
  let s := if s.flag F.MEM_CFG_EN then s else s.memStart
  { s with boot := { s.boot with open_ := true } }

/-- The island's registers and parts that the record gives, and its release (16 R548; 13 R420, R421). -/
def State.releaseIsland (s : State) : State :=
  let s := s.put0 F.ISL_PAIR_STAT_MODE (b2n (s.cfgFlag 1))
  (s.modIsl (fun i => { i with running := true, privBase := s.cfg 40 2, privSize := if s.cfgFlag 1 then 0 else s.cfg 42 2 })).modArb
    (fun a => { a with logBase := s.cfg 36 4, patrolBase := s.cfg 32 4 })

/-- SEC gives up the candidate under way and turns to the next, with PMC in reset (16 R558). -/
def State.nextCand (s : State) (code : Nat) : State :=
  (({ s with pmc := { s.pmc with run := false } } : State).bootFail code).tryCands s.boot.cands

/-- ISLAND_RELEASE (16 R550, R558): the island images are verified and written and the cores released; `hyper` tells that the
HyperRAM device answers. -/
def State.islandRelease (s : State) (hyper : Bool) : State :=
  match s.boot.cur with
  | none => s
  | some c =>
    if s.stage ≠ 3 ∨ c.slot = 2 ∨ !s.pmc.run then s
    else if s.boot.fromPark then s.releaseCores c
    else
      let b := flashBase + c.base
      let t := (s.slotTable b flashEnd).getD []
      let (s, code) := s.takeImages b flashEnd t [5, 0x12, 0x13]
      if code ≠ 0 then s.nextCand code
      else
        let load := fun (ty : Nat) => (imgOf (s.mem.readBytes (b + offsetOf t ty) 64)).load
        let s := (s.fabWrite .sec (s.cfg 32 4) (s.payloadOf b t 5)).1
        let s := (s.fabWrite .sec (load 0x12) (s.payloadOf b t 0x12)).1
        let (s, st) := if hyper then s.fabWrite .sec (load 0x13) (s.payloadOf b t 0x13) else (s, stFABRIC_ERR)
        let s := if st = stOK then s else s.bootFail bfHYPERRAM
        s.releaseIsland.releaseCores c

/-- LPDDR5X_TRAINING_DONE (17 R573; 16 R558): PD33-PD40 are usable, or the main path is withheld. -/
def State.trainingDone (s : State) (ok : Bool) : State :=
  if !s.pmc.run ∨ s.pmc.trained ∨ s.stage = 8 then s
  else if ok then ({ s with pmc := { s.pmc with
      trained := true
      trainFail := false } } : State).powerOn (group 33)
  else (({ s with pmc := { s.pmc with trainFail := true } } : State).bootFail bfLPDDR).put0 F.ARB_STATUS_STATE 0

/-! ### Stages that software and the Arbiter reach -/

/-- Milliseconds since the start's origin. -/
def State.bootMs (s : State) : Nat := min 65535 ((s.ticks - s.boot.t0) / 1000000)

/-- BOOT_STATUS.STAGE and BOOT_TIMES follow what has happened (16, BOOT_STATUS). -/
def State.bootStage (s : State) : State :=
  let s := if s.stage = 4 ∧ s.flag F.ARB_MECH_INJ_DONE then s.setStage 5 else s
  let s := if s.stage = 5 ∧ s.arb.fsLast then (s.setStage 6).put0 F.BOOT_TIMES_FS_MS s.bootMs else s
  if s.stage = 6 ∧ s.boot.open_ ∧ s.manifestCount ≤ s.boot.launched then s.setStage 7 else s

/-! ### The launch of manifest cabinets (16 R553, R554) -/

/-- A failed entry is reported, its resources kept reserved. -/
def State.launchFailed (s : State) (i status : Nat) : State :=
  ((s.bootFail bfMODEL).put0 F.BOOT_STATUS_ENTRY i).tell (.refusal i 0xFF status)

/-- The model image of an entry read from the eMMC into its LOAD address and verified; a status. -/
def State.loadModel (s : State) (i : Nat) (e : List Byte) : State × Nat :=
  let base := emmcBase + fieldAt e 144 8 * 512
  let lim := base + fieldAt e 140 4 * 512
  let h := imgOf (s.mem.readBytes base 64)
  let slot := match s.boot.cur with | some c => flashBase + c.base | none => flashBase
  let cert := s.slotCert slot ((s.slotTable slot flashEnd).getD [])
  if lim < base + 576 + h.len ∨ h.load < recF e 16 8 ∨ recF e 16 8 + recF e 24 8 < h.load + h.len then (s, bfFORMAT)
  else
    let (s, st) := s.fabWrite (.port 38) h.load (s.mem.readBytes (base + 576) h.len)
    if st ≠ stOK then (s, st) else s.takeImage s.rootKey cert base lim 0x14 i

/-- The contexts that an entry's table names are created: the first status other than OK. -/
def State.launchContexts (s : State) (c : CabId) (a : Nat) : Nat → State × Nat
  | 0 => (s, csOK)
  | n + 1 =>
    let (s, st) := s.launchContexts c a n
    if st ≠ csOK then (s, st)
    else
      let (s, q) := s.cabRead .sch c (a + 8 * n) 8
      if q.st ≠ stOK then (s, csREGION)
      else
        let (s, st, _) := s.createContext c (ofBytes q.data)
        (s, st)

/-- A cabinet of the manifest remapped for the engines of it that were fenced at start, one after another (10 R329). -/
def State.remapFenced (s : State) (c : CabId) (engines : List Nat) : State :=
  let l := engines.filter (fun k => (s.eng (engId k)).ver == .fenced)
  l.foldl (fun s _ => s.remap c) (s.modCab c (fun b => { b with lost := l }))

/-- One entry launched; a status. -/
def State.launchEntry (s : State) (i : Nat) : State × Nat :=
  let e := s.manifestEntry i
  let f := fieldAt e
  let (s, st) := s.loadModel i e
  if st ≠ 0 then (s, st)
  else
    let lkr := bit (f 128 1) 1
    let (s, st, l) := if lkr then (let (s, st, l, _) := s.sealLocker (f 152 8) (f 132 4) (f 136 4); (s, st, l)) else (s, svOK, 0)
    if st ≠ svOK then (s, st)
    else
      let (s, st, n) := s.createCab (e.take 128) (some i) (bit (f 128 1) 0) lkr l
      if st ≠ csOK then (s, st)
      else
        let c := cabId n
        let (s, st) := s.launchContexts c (f 168 8) (f 176 2)
        let s := s.remapFenced c (recEngines e)
        if st ≠ csOK then (s.destroyCab c, st)
        else (((s.put F.SCH_CAB_CT_TRIG c.val 0 (f 129 1)).put F.SCH_CAB_CT_ENTRIES c.val 0 (f 130 1)).put F.SCH_CAB_CT_ADDR
          c.val 0 (f 160 8), csOK)

/-- MANIFEST_LAUNCH (16 R553-R555, R558): the next entry; `emmc` tells that the eMMC is there and initialised. -/
def State.manifestLaunch (s : State) (emmc : Bool) : State :=
  let i := s.boot.launched
  if !s.boot.open_ ∨ s.manifestCount ≤ i ∨ !s.mainReleased ∨ !s.pmc.trained ∨ !s.pd 31 then s
  else if !emmc ∨ !s.cfgFlag 6 then
    ({ s with boot := { s.boot with launched := s.manifestCount } } : State).bootFail bfEMMC |>.bootStage
  else
    let (s, st) := s.launchEntry i
    let s := if st = csOK then s else s.launchFailed i st
    let s : State := { s with boot := { s.boot with launched := i + 1 } }
    let s := if i + 1 = s.manifestCount then s.put0 F.BOOT_TIMES_MAIN_MS s.bootMs else s
    s.bootStage

/-! ### The recovery slot's write (16 R562) -/

/-- A write of BOOT_RCV with GO. -/
def State.rcvGo (s : State) : State :=
  let n := s.rd F.BOOT_RCV_LENGTH
  if s.rd F.BOOT_RCV_RESULT = 1 then s
  else if n = 0 ∨ 524288 < n then s.put0 F.BOOT_RCV_RESULT 3
  else s.put0 F.BOOT_RCV_RESULT 1

/-- RECOVERY_WRITE: the host's slot is checked and written to slot A with a directory copy; `flashOk` tells that the flash takes
the writes. -/
def State.recoveryWrite (s : State) (flashOk : Bool) : State :=
  if s.stage ≠ 8 ∨ s.rd F.BOOT_RCV_RESULT ≠ 1 then s
  else
    let b := 0x80000000
    let n := s.rd F.BOOT_RCV_LENGTH * 64
    match s.slotTable b (b + n) with
    | none => s.put0 F.BOOT_RCV_RESULT 3
    | some t =>
      if !s.slotComplete b t then s.put0 F.BOOT_RCV_RESULT 3
      else
        let (s, code) := s.takeImages b (b + n) t slotTypes
        if code ≠ 0 then s.put0 F.BOOT_RCV_RESULT 3
        else if !flashOk then s.put0 F.BOOT_RCV_RESULT 4
        else
          let d := match s.dirUsed with
            | some i => s.dirCopy i
            | none => dirBytes 0 0x420000 0x420000 0 0xFF 0 0
          let f := fieldAt d
          let s : State := { s with mem := s.mem.writeBytes (flashBase + f 8 4) (s.mem.readBytes b n) }
          (s.dirWrite (dirBytes ((f 4 4 + 1) % 2 ^ 32) (f 8 4) (f 12 4) 0 0xFF 0 (f 19 1))).put0 F.BOOT_RCV_RESULT 2

/-! ### The xSPI controller (19 R624, R625; 16 R559) -/

/-- Whether a master is an island core in the Secure world. -/
def State.islSecure (s : State) (m : Master) : Bool :=
  match m with
  | .isl c => vget s.isl.world c
  | _ => false

/-- Whether a command touches the key area or the recovery slot. -/
def State.xspiProtected (s : State) (kind : Nat) : Bool :=
  let a := s.rd F.XSPI_ADDR_ADDR
  let u := 2 ^ s.rd F.XSPI_ERASE_UNIT
  if kind = 2 then decide (0 < s.rd F.XSPI_LEN_LEN ∧ a < 0x420000 ∧ 0x10000 < a + s.rd F.XSPI_LEN_LEN)
  else if kind = 3 then decide (a / u * u < 0x420000 ∧ 0x10000 < a / u * u + u)
  else false

/-- XSPI_READ, XSPI_WRITE, XSPI_PROGRAM, XSPI_ERASE: a write of XSPI_CMD with GO by a master; the command's other bits are
`cmd`. A reserved ADDR_BYTES keeps its previous value (00 R9). -/
def State.xspiGo (s : State) (m : Master) (kind cmd : Nat) : State :=
  if !s.pd 59 then s
  else if m ≠ .sec ∧ !s.islSecure m then s.put0 F.XSPI_STAT_REJ_MASTER 1
  else if s.flag F.XSPI_STAT_BUSY ∨ !s.flag F.XSPI_CFG_EN then s
  else
    let s := ((s.put0 F.XSPI_CMD_KIND kind).put0 F.XSPI_CMD_DUMMY (bits cmd 23 16)).put0 F.XSPI_CMD_OPCODE (bits cmd 7 0)
    let s := if bits cmd 27 26 = 3 then s else s.put0 F.XSPI_CMD_ADDR_BYTES (bits cmd 27 26)
    if s.xspiProtected kind then (s.put0 F.XSPI_STAT_PROT_REJ 1).put0 F.XSPI_STAT_DONE 1
    else s.put0 F.XSPI_STAT_BUSY 1

/-- Bytes of the 256-byte data buffer. -/
def State.xspiData (s : State) (n : Nat) : List Byte :=
  (List.range n).map (fun i => byteOf (s.rd F.XSPI_DATA_DATA (i / 4)) (i % 4))

/-- XSPI_DONE: the command under way completes: a read fills the buffer, a program clears bits of flash, an erase sets a unit's
bytes to 0xFF. -/
def State.xspiDone (s : State) : State :=
  if !s.flag F.XSPI_STAT_BUSY then s
  else
    let kind := s.rd F.XSPI_CMD_KIND
    let a := flashBase + s.rd F.XSPI_ADDR_ADDR % 2 ^ 29
    let n := min 256 (s.rd F.XSPI_LEN_LEN)
    let u := 2 ^ s.rd F.XSPI_ERASE_UNIT
    let e := flashBase + s.rd F.XSPI_ADDR_ADDR % 2 ^ 29 / u * u
    let s : State :=
      if kind = 0 then
        (List.range (cdiv n 4)).foldl (fun (s : State) i =>
          s.put F.XSPI_DATA_DATA i 0 (s.mem.readNat (a + 4 * i) (min 4 (n - 4 * i)))) s
      else if kind = 2 then
        { s with mem := s.mem.writeBytes a ((List.range n).map (fun i => s.mem.read (a + i) &&& nth 0 (s.xspiData n) i)) }
      else if kind = 3 then { s with mem := s.mem.writeBytes e (List.replicate u 0xFF) }
      else s
    (s.put0 F.XSPI_STAT_BUSY 0).put0 F.XSPI_STAT_DONE 1

/-! ### The eMMC controller (19 R626) -/

/-- Whether a command selects the RPMB partition: CMD6 with PARTITION_ACCESS 3 of PARTITION_CONFIG (eMMC 5.1). -/
def selectsRpmb (index arg : Nat) : Bool := index == 6 && bits arg 23 16 == 179 && bits arg 10 8 == 3

/-- EMMC_COMMAND: a write of EMMC_CMD with GO by a master. -/
def State.emmcGo (s : State) (m : Master) (cmd : Nat) : State :=
  if !s.pd 59 ∨ !(m.isSec || m == .sch || s.islSecure m) ∨ s.flag F.EMMC_STAT_BUSY ∨ !s.flag F.EMMC_CFG_EN then s
  else if !m.isSec ∧ (selectsRpmb (bits cmd 29 24) (s.rd F.EMMC_ARG_ARG) || (bit cmd 23 && s.boot.part == 3)) then
    s.put0 F.EMMC_STAT_REJ 1
  else (s.setReg R.EMMC_CMD 0 0 (bits cmd 29 20 * 2 ^ 20)).put0 F.EMMC_STAT_BUSY 1

/-- EMMC_DONE: the command under way and its transfer complete, with the errors that the bus met. What the card answers is free;
block reads and writes of the user area (CMD17, CMD18, CMD24, CMD25) move its bytes, CMD6 selects a partition. -/
def State.emmcDone (s : State) (timeout cmdCrc dataCrc : Bool) : State :=
  if !s.flag F.EMMC_STAT_BUSY then s
  else
    let ix := s.rd F.EMMC_CMD_INDEX
    let arg := s.rd F.EMMC_ARG_ARG
    let n := 512 * s.rd F.EMMC_BLKCNT_CNT
    let dma := s.rd F.EMMC_DMA_ADDR / 64 * 64
    let card := emmcBase + arg * 512
    let user := s.boot.part == 0
    let (c, s) := s.nextFree
    let s := if s.rd F.EMMC_CMD_RESPONSE = 0 then s
      else (List.range 4).foldl (fun s i => s.setReg R.EMMC_RESP i 0 (Config.freeWord c i).toNat) s
    let s : State :=
      if timeout || cmdCrc then s
      else if ix = 6 ∧ bits arg 23 16 = 179 then { s with boot := { s.boot with part := bits arg 10 8 } }
      else if !s.flag F.EMMC_CMD_DATA then s
      else if s.flag F.EMMC_CMD_WRITE then
        let (s, l) := s.readOrFree (.port 38) dma n
        if user && (ix == 24 || ix == 25) then { s with mem := s.mem.writeBytes card l } else s
      else
        let l := if user && (ix == 17 || ix == 18) then s.mem.readBytes card n
          else (List.range n).map (fun i => Config.freeByte c i)
        if n = 0 then s else (s.fabWrite (.port 38) dma l).1
    let s := if timeout then s.put0 F.EMMC_STAT_TIMEOUT 1 else s
    let s := if cmdCrc then s.put0 F.EMMC_STAT_CMD_CRC 1 else s
    let s := if dataCrc then s.put0 F.EMMC_STAT_DATA_CRC 1 else s
    (s.put0 F.EMMC_STAT_BUSY 0).put0 F.EMMC_STAT_DONE 1

end Sys2Proof.Machine
end

