-- ==== Sys2Proof/Machine/Tracks.lean ====
section
/-! DEFINITION. The arithmetic of the Track Unit (11 R371-R375, R378): FP32 matrices by rows, every product a sum in
ascending order (notes/assumptions/42.md). -/

namespace Sys2Proof.Machine

/-- FP32 nearest to z / d. -/
def f32q (z : Int) (d : Nat) : Nat := round32 (decide (z < 0)) (z.natAbs <<< 300) d

/-- FP32 one. -/
def one32 : Nat := 0x3F800000

/-- A matrix by rows. -/
abbrev Mat := List (List Nat)

/-- The matrix of r rows and c columns with element `f i j`. -/
def matOf (r c : Nat) (f : Nat → Nat → Nat) : Mat := (List.range r).map (fun i => (List.range c).map (fun j => f i j))

/-- Element (i, j); 0 outside. -/
def Mat.get (m : Mat) (i j : Nat) : Nat := nth 0 (nth [] m i) j

/-- Sum of products in ascending order. -/
def dot (n : Nat) (f g : Nat → Nat) : Nat := (List.range n).foldl (fun a k => f32add a (f32mul (f k) (g k))) 0

/-- The product of an r × n and an n × c matrix. -/
def matMul (r n c : Nat) (a b : Mat) : Mat := matOf r c (fun i j => dot n (fun k => a.get i k) (fun k => b.get k j))

/-- The transpose of an r × c matrix. -/
def matT (r c : Nat) (a : Mat) : Mat := matOf c r (fun i j => a.get j i)

/-- The sum of two r × c matrices. -/
def matAdd (r c : Nat) (a b : Mat) : Mat := matOf r c (fun i j => f32add (a.get i j) (b.get i j))

/-- The rows of the Cholesky factor of an n × n matrix; none where a pivot is not positive (11 R374). -/
def cholRow (s : Mat) (rows : Mat) (i : Nat) : Option (List Nat) :=
  (List.range (i + 1)).foldl (fun (acc : Option (List Nat)) j =>
    match acc with
    | none => none
    | some row =>
      let lj := if j = i then row else nth [] rows j
      let v := f32sub (s.get i j) (dot j (fun k => nth 0 row k) (fun k => nth 0 lj k))
      if j = i then
        (if f32lt 0 v && f32finite v then some (row ++ [(Config.sqrtF32 (BitVec.ofNat 32 v)).toNat]) else none)
      else some (row ++ [f32div v (nth 0 lj j)])) (some [])

/-- The Cholesky factor of an n × n matrix. -/
def cholesky (n : Nat) (s : Mat) : Option Mat :=
  (List.range n).foldl (fun (acc : Option Mat) i =>
    match acc with
    | none => none
    | some rows => (cholRow s rows i).map (fun r => rows ++ [r])) (some [])

/-- Column `j` of the inverse of L L', by forward and backward substitution. -/
def cholCol (n : Nat) (l : Mat) (j : Nat) : List Nat :=
  let fwd := (List.range n).foldl (fun (y : List Nat) i =>
    y ++ [f32div (f32sub (if i = j then one32 else 0) (dot i (fun k => l.get i k) (fun k => nth 0 y k))) (l.get i i)]) []
  (List.range n).foldl (fun (x : List Nat) r =>
    let i := n - 1 - r
    f32div (f32sub (nth 0 fwd i) (dot r (fun k => l.get (i + 1 + k) i) (fun k => nth 0 x k))) (l.get i i) :: x) []

/-- The inverse of S from its Cholesky factor. -/
def cholInv (n : Nat) (l : Mat) : Mat := matT n n ((List.range n).map (fun j => cholCol n l j))

/-- A motion model of the model table (11 R372). -/
structure Model where
  n : Nat
  a : Mat
  pn : List Nat

/-- A measurement type of the model table (11 R372). -/
structure MeasType where
  m : Nat
  h : Mat
  g : Mat
  p0 : List Nat

/-- The number at 4-byte element `i` from byte `o` on. -/
def f32At (l : List Byte) (o i : Nat) : Nat := leNat (fun k => (nth 0 l (o + 4 * i + k)).toNat) 4

/-- A motion model's fields. -/
def Model.of (l : List Byte) : Model :=
  ⟨min 12 (nth 0 l 0).toNat, matOf 12 12 (fun i j => f32At l 64 (12 * i + j)), (List.range 12).map (f32At l 640)⟩

/-- A measurement type's fields. -/
def MeasType.of (l : List Byte) : MeasType :=
  ⟨min 6 (nth 0 l 0).toNat, matOf 6 12 (fun i j => f32At l 64 (12 * i + j)), matOf 12 6 (fun i j => f32At l 352 (6 * i + j)),
    (List.range 12).map (f32At l 640)⟩

/-- A state and covariance predicted over `dt` (11 R374). -/
def predict (md : Model) (dt : Nat) (x : Mat) (p : Mat) : Mat × Mat :=
  let n := md.n
  let half := f32div (f32mul dt dt) 0x40000000
  let a1 := matOf n n (fun i j => f32mul dt (md.a.get i j))
  let a2 := matMul n n n (matOf n n (fun i j => f32mul half (md.a.get i j))) md.a
  let f := matOf n n (fun i j => f32add (f32add (if i = j then one32 else 0) (a1.get i j)) (a2.get i j))
  (matMul n n 1 f x, matAdd n n (matMul n n n (matMul n n n f p) (matT n n f))
    (matOf n n (fun i j => if i = j then f32mul dt (nth 0 md.pn i) else 0)))

/-- A predicted state updated by a measurement; none where S has no Cholesky factor (11 R374). -/
def correct (md : Model) (ty : MeasType) (z mc : Mat) (x p : Mat) : Option (Mat × Mat) :=
  let n := md.n
  let m := ty.m
  let hx := matMul m n 1 ty.h x
  let y := matOf m 1 (fun i _ => f32sub (z.get i 0) (hx.get i 0))
  let ht := matT m n ty.h
  let s := matAdd m m (matMul m n m (matMul m n n ty.h p) ht) mc
  match cholesky m s with
  | none => none
  | some l =>
    let k := matMul n m m (matMul n n m p ht) (cholInv m l)
    let kh := matMul n m n k ty.h
    let ikh := matOf n n (fun i j => f32sub (if i = j then one32 else 0) (kh.get i j))
    let x' := matAdd n 1 x (matMul n m 1 k y)
    let p' := matAdd n n (matMul n n n (matMul n n n ikh p) (matT n n ikh)) (matMul n m n (matMul n m m k mc) (matT n m k))
    some (x', p')

/-- The seconds between two timestamps (11 R374). -/
def seconds (t0 t1 : Nat) : Nat := f32q ((t1 : Int) - t0) 1000000000

/-- A column vector of a list, and a square matrix of a row-major list. -/
def colOf (l : List Nat) : Mat := l.map (fun v => [v])
def sqOf (n : Nat) (l : List Nat) : Mat := matOf n n (fun i j => nth 0 l (n * i + j))

/-- The measurement covariance of a record: the upper triangle of 6 × 6 row by row (11 R373). -/
def measCov (l : List Byte) : Mat :=
  matOf 6 6 (fun i j =>
    let r := min i j
    let c := max i j
    f32At l 40 (6 * r - r * (r + 1) / 2 + c))

end Sys2Proof.Machine
end

