-- ==== Sys2Proof/Machine/Fusion.lean ====
section
/-! DEFINITION. The Grid Aligner and the Track Unit (11 R359-R379). -/

namespace Sys2Proof.Machine

/-- The Grid Aligner's master port (12 R402). -/
def gaPort : Master := .port 27

/-- The Grid Aligner changed. -/
def State.modGa (s : State) (f : Ga → Ga) : State := { s with ga := f s.ga }

/-- A read of the Grid Aligner; what it works with where the read gets an error response is a free value
(notes/assumptions/2.md). -/
def State.gaRead (s : State) (a n : Nat) : State × List Byte :=
  let (s, r) := s.fabRead gaPort a n
  if r.st = stOK then (s, r.data)
  else
    let (c, s) := s.nextFree
    (s, (List.range n).map (fun i => Config.freeByte c (a + i)))

/-! ### The configuration block (11 R361) -/

/-- Sensor `n` of a block: PTAB, KIND, WEIGHT. -/
def blkSensor (b : List Byte) (n : Nat) : Nat × Nat × Nat :=
  (fieldAt b (64 + 12 * n) 6, fieldAt b (70 + 12 * n) 1, fieldAt b (71 + 12 * n) 1)

/-- Whether a block is accepted. -/
def blkOk (b : List Byte) : Bool :=
  let g := fieldAt b
  g 0 8 % 4096 == 0 && g 8 8 % 64 == 0 && g 16 8 % 2 ^ 20 == 0 && g 24 8 % 2 ^ 20 == 0 && g 40 8 % 4096 == 0
    && decide (16 ≤ g 48 2) && decide (g 48 2 ≤ 4096) && decide (g 50 1 ≤ 63) && decide (1 ≤ g 52 1) && g 56 8 % 64 == 0
    && (List.range 16).all (fun n => (blkSensor b n).1 % 64 == 0 && decide ((blkSensor b n).2.1 ≤ 2))

/-- The sensors that a block enables. -/
def blkOn (b : List Byte) : List (Fin 16) := (List.finRange 16).filter (fun n => (blkSensor b n.val).2.1 != 0)

/-! ### The Track Unit -/

/-- The counts changed. -/
def State.modCounts (s : State) (f : GaCounts → GaCounts) : State := s.modGa (fun g => { g with counts := f g.counts })

/-- The track table's bytes of a track that changed: their layout belongs to the firmware, so they are free values
(11 R371; notes/assumptions/2.md). -/
def State.trackTable (s : State) (b : List Byte) (id : Nat) : State :=
  let (c, s) := s.nextFree
  (s.fabWrite gaPort (fieldAt b 40 8 + 2048 * id) ((List.range 2048).map (fun i => Config.freeByte c i))).1

/-- The track of a number replaced, or closed. -/
def State.putTrack (s : State) (b : List Byte) (id : Nat) (t : Option Track) : State :=
  let new := (match t with | some t => [t] | none => []) ++ s.ga.tracks.filter (fun x => x.id != id)
  (s.modGa (fun g => { g with tracks := sortBy (fun x y => decide (x.id ≤ y.id)) new })).trackTable b id

/-- What became of a measurement: applied, REJECTED, UNTRACKED or OOS_DROPPED. -/
inductive MeasEnd where
  | applied | rejected | untracked | oosDropped
  deriving DecidableEq, Repr

/-- One update of a track (11 R374, R378): at or after its time a normal update; before it, from the newest stored state that
is old enough, and predicted to its time. -/
def updateTrack (md : Model) (ty : MeasType) (t : Nat) (z mc : Mat) (w : Track) : MeasEnd × Track :=
  let n := md.n
  let p := sqOf n w.p
  if w.t ≤ t then
    let (x1, p1) := predict md (seconds w.t t) (colOf w.x) p
    match correct md ty z mc x1 p1 with
    | none => (.rejected, w)
    | some (x2, p2) =>
      (.applied, { w with t := t, x := x2.flatten, p := p2.flatten, past := ((w.t, w.x, w.p) :: w.past).take 4, upd := true })
  else match w.past.find? (fun q => decide (q.1 ≤ t)) with
    | none => (.oosDropped, w)
    | some (t0, x0, p0) =>
      let (x1, p1) := predict md (seconds t0 t) (colOf x0) (sqOf n p0)
      match correct md ty z mc x1 p1 with
      | none => (.rejected, w)
      | some (x2, p2) =>
        let (x3, p3) := predict md (seconds t w.t) x2 p2
        (.applied, { w with x := x3.flatten, p := p3.flatten, oos := true, upd := true })

/-- One measurement record (11 R373-R375, R378). -/
def State.measure (s : State) (b : List Byte) (l : List Byte) : State × MeasEnd :=
  let g := fieldAt l
  let tr := g 8 2
  if 15 < g 10 1 ∨ (tr = 0xFFFF ∧ 7 < g 11 1) ∨ (1024 ≤ tr ∧ tr < 0xFFFE) then (s, .rejected)
  else
    let (s, tl) := s.gaRead (fieldAt b 56 8 + 8192 + 1024 * g 10 1) 1024
    let ty := MeasType.of tl
    if tr = 0xFFFF then
      match (List.range 1024).find? (fun i => s.ga.tracks.all (fun t => t.id != i)) with
      | none => (s, .untracked)
      | some id =>
        let (s, ml) := s.gaRead (fieldAt b 56 8 + 1024 * g 11 1) 1024
        let n := (Model.of ml).n
        let z := matOf 6 1 (fun i _ => f32At l 16 i)
        let x := (matMul n ty.m 1 ty.g z).flatten
        let p := (matOf n n (fun i j => if i = j then nth 0 ty.p0 i else 0)).flatten
        (s.putTrack b id (some ⟨id, g 11 1, g 0 8, x, p, [], false, true⟩), .applied)
    else if tr = 0xFFFE then
      -- no field of R373 says which track a DELETE names: a free value of the record (notes/assumptions/43.md)
      let id := Config.deletedTrack (ofBytes l)
      if s.ga.tracks.any (fun t => t.id == id) then (s.putTrack b id none, .applied) else (s, .rejected)
    else match s.ga.tracks.find? (fun t => t.id == tr) with
      | none => (s, .rejected)
      | some w =>
        let (s, ml) := s.gaRead (fieldAt b 56 8 + 1024 * w.model) 1024
        let (e, w) := updateTrack (Model.of ml) ty (g 0 8) (matOf 6 1 (fun i _ => f32At l 16 i)) (measCov l) w
        match e with
        | .applied => (s.putTrack b tr (some w), e)
        | _ => (s, e)

/-- The count of a measurement's end. -/
def State.countMeas (s : State) (e : MeasEnd) : State :=
  match e with
  | .applied => s
  | .rejected => s.modCounts (fun c => { c with rejected := satInc 16 c.rejected })
  | .untracked => s.modCounts (fun c => { c with untracked := satInc 16 c.untracked })
  | .oosDropped => s.modCounts (fun c => { c with oosDropped := satInc 16 c.oosDropped })

/-- The measurement records of a sample, in order. -/
def State.measOf (s : State) (x : Sample) : State × List (List Byte) :=
  (List.range (min 4096 x.measN)).foldl (fun (acc : State × List (List Byte)) i =>
    let (s, l) := acc.1.gaRead (x.meas + 128 * i) 128
    (s, acc.2 ++ [l])) (s, [])

/-! ### Samples (11 R363, R364, R368, R378) -/

/-- A sensor changed; GA_STAT.LATE_MASK follows. -/
def State.modSensor (s : State) (n : Fin 16) (f : Sensor → Sensor) : State :=
  let s := s.modGa (fun g => { g with sensors := vmod g.sensors n f })
  s.put0 F.GA_STAT_LATE_MASK ((List.finRange 16).foldl (fun m i => m + b2n (vget s.ga.sensors i).masked * 2 ^ i.val) 0)

/-- The cycle whose window contains an instant: an opened one, or the next where the trigger pulse's due time has been reached. -/
def State.cycleAt (s : State) (t : Nat) : Option Nat :=
  let due := (vget s.pulses (fin8 (s.rd F.GA_CFG_TRIG))).due
  let top := match s.ga.opens.head? with | some (k, _) => k + 1 | none => 0
  if due.any (fun d => decide (d ≤ t)) then some top
  else (s.ga.opens.find? (fun o => decide (o.2.1 ≤ t))).map (fun o => o.1)

/-- A late sample (11 R378): with an age of at most 2 its measurements are applied at once. -/
def State.lateSample (s : State) (n : Fin 16) (k : Option Nat) (x : Sample) : State :=
  let s := s.modSensor n (fun z => { z with late := z.late + 1, masked := decide (3 ≤ z.late + 1), ontime := 0 })
  let c := match s.ga.opens.head? with | some (c, _) => c | none => 0
  match k, s.ga.block with
  | some k, some b =>
    if c - k ≤ 2 then
      let (s, ls) := s.measOf x
      ls.foldl (fun s l =>
        let (s, e) := s.measure b l
        let s := s.countMeas e
        if e = .oosDropped then s else s.modCounts (fun c => { c with lateOos := satInc 16 c.lateOos })) s
    else s.modCounts (fun c => { c with lateDropped := satInc 16 c.lateDropped })
  | _, _ => s.modCounts (fun c => { c with lateDropped := satInc 16 c.lateDropped })

/-- The outcome of an accepted sample (11 R364): the first row of the table that applies. A third consecutive sample on time
ends a late mask, and is held (11 R368; notes/assumptions/44.md). -/
def State.takeSample (s : State) (n : Fin 16) (x : Sample) : State :=
  let k := s.cycleAt x.t
  let onTime := k.any (fun k => decide (s.ga.next ≤ k))
  let z := vget s.ga.sensors n
  if x.at_ + 1000000 < x.t then
    (s.modSensor n (fun z => { z with late := 0 })).modCounts (fun c => { c with future := satInc 16 c.future })
  else
  let s := if z.masked then
      s.modSensor n (fun z => { z with
        ontime := if onTime then z.ontime + 1 else 0
        masked := !(onTime && decide (3 ≤ z.ontime + 1))
        late := if onTime ∧ 3 ≤ z.ontime + 1 then 0 else z.late })
    else s
  if bit (s.rdE F.GA_LIE_LIE) n.val ∨ (vget s.ga.sensors n).masked then s.modSensor n (fun z => { z with late := 0 })
  else match k with
    | some k =>
      if onTime then
        let s := if z.held.any (fun h => h.1 == k) then s.modCounts (fun c => { c with replaced := satInc 16 c.replaced }) else s
        s.modSensor n (fun z => { z with held := (k, x) :: z.held.filter (fun h => h.1 != k), late := 0 })
      else s.lateSample n (some k) x
    | none => s.lateSample n none x

/-- The next slot of every enabled sensor checked (11 R363). -/
def State.pollSamples (s : State) : State :=
  match s.ga.block with
  | none => s
  | some b => (blkOn b).foldl (fun s n =>
      let q := (vget s.ga.sensors n).q
      let (s, r) := s.fabRead gaPort (fieldAt b 0 8 + 512 * n.val + 32 * (q % 16)) 32
      let g := fieldAt r.data
      if r.st = stOK ∧ g 28 4 = q % 2 ^ 32 then
        let s := s.modSensor n (fun z => { z with q := z.q + 1 })
        s.takeSample n ⟨g 0 8, g 8 6, g 14 6, g 20 6, g 26 2, s.stamp⟩
      else s) s

/-- SAMPLE_POLL (11 R363). -/
def State.samplePoll (s : State) : State := if s.flag F.GA_CFG_EN then s.pollSamples else s

/-! ### Ego-motion (11 R365) -/

/-- The samples of the ego ring, oldest first: time, speed, yaw rate. -/
def egoOf (len head : Nat) (l : List Byte) : List (Nat × Nat × Nat) :=
  (List.range len).map (fun i =>
    let o := 16 * ((head + 1 + i) % len)
    (fieldAt l o 8, fieldAt l (o + 8) 4, fieldAt l (o + 12) 4))

/-- A quantity at an instant in half nanoseconds: linear between the bracketing samples, the nearest held outside. -/
def egoAt (f : Nat × Nat × Nat → Nat) (l : List (Nat × Nat × Nat)) (t2 : Nat) : Nat :=
  match (l.filter (fun e => decide (2 * e.1 ≤ t2))).getLast?, l.find? (fun e => decide (t2 < 2 * e.1)) with
  | some a, some b =>
    f32add (f a) (f32mul (f32sub (f b) (f a)) (f32q ((t2 : Int) - 2 * (a.1 : Nat)) (2 * (b.1 - a.1))))
  | some a, none => f a
  | none, some b => f b
  | none, none => 0

/-- The loop of R365 from `t` to `ts`, in steps of at most 1 ms. -/
def egoLoop (l : List (Nat × Nat × Nat)) (ts : Nat) (t psi px py : Nat) : Nat → Nat × Nat × Nat
  | 0 => (psi, px, py)
  | fuel + 1 =>
    if ts ≤ t then (psi, px, py)
    else
      let hn := min 1000000 (ts - t)
      let h := f32q hn 1000000000
      let om := egoAt (fun e => e.2.2) l (2 * t + hn)
      let sp := egoAt (fun e => e.2.1) l (2 * t + hn)
      let pm := f32add psi (f32div (f32mul om h) 0x40000000)
      let px := f32add px (f32mul (f32mul sp (Config.cosF32 (BitVec.ofNat 32 pm)).toNat) h)
      let py := f32add py (f32mul (f32mul sp (Config.sinF32 (BitVec.ofNat 32 pm)).toNat) h)
      egoLoop l ts (t + hn) (f32add psi (f32mul om h)) px py fuel

/-- Whether an instant lies more than 20 ms outside the span of the samples. -/
def egoFar (l : List (Nat × Nat × Nat)) (t : Nat) : Bool :=
  match l.head?, l.getLast? with
  | some a, some b => decide (t + 20000000 < a.1) || decide (b.1 + 20000000 < t)
  | _, _ => true

/-- The pose of the vehicle at T_S in the frame at T_k, and whether zero motion was used. -/
def pose (l : List (Nat × Nat × Nat)) (tk ts : Nat) : Bool × Nat × Nat × Nat :=
  if egoFar l tk || egoFar l ts then (true, 0, 0, 0) else (false, egoLoop l ts tk 0 0 0 ((ts - tk) / 1000000 + 1))

/-! ### Sampling and merging (11 R359, R366, R367, R369) -/

/-- What the merge holds of one sensor: its number, kind, weight, pose, Projection Table, features, confidences. -/
structure Src where
  n : Nat
  kind : Nat
  w : Nat
  psi : Nat
  px : Nat
  py : Nat
  ptab : List Byte
  feat : List Byte
  conf : Option (List Byte)

/-- The exact value of FP32 bits, in units of 2^-300; 0 for what is not finite. -/
def unitsOf (v : Nat) : Int := (fvF32 v).units

/-- p' of a cell centre, in units of 2^-300 m (11 R366). -/
def Src.point (x : Src) (u v : Nat) : Int × Int :=
  let dx := f32sub (f32q ((u : Int) * 2 - 479) 8) x.px
  let dy := f32sub (f32q ((v : Int) * 2 - 255) 8) x.py
  let c := (Config.cosF32 (BitVec.ofNat 32 x.psi)).toNat
  let n := (Config.sinF32 (BitVec.ofNat 32 x.psi)).toNat
  (unitsOf (f32add (f32mul c dx) (f32mul n dy)), unitsOf (f32sub (f32mul c dy) (f32mul n dx)))

/-- A grid position along one axis, in cells with the fraction in units of 2^-300, from the first cell centre at -`off`/8 m. -/
def gridPos (off : Int) (z : Int) : Int := (z * 8 + off * 2 ^ 300) / 2

/-- The bilinear mean of four values with exact weights `fx`/d and `fy`/d, rounded once to FP32. -/
def bilinear (d : Nat) (fx fy : Nat) (a00 a10 a01 a11 : Int) : Nat :=
  let w := fun (p q : Nat) => ((p * q : Nat) : Int)
  f32q (w (d - fx) (d - fy) * a00 + w fx (d - fy) * a10 + w (d - fx) fy * a01 + w fx fy * a11) (d * d)

/-- One camera's sample at a cell: its confidence and its channel function (11 R366). -/
def Src.camera (x : Src) (u v : Nat) : Nat × (Nat → Nat) :=
  let (zx, zy) := x.point u v
  let cu := (zx * 4 + 240 * 2 ^ 300) / 2 ^ 300
  let cv := (zy * 4 + 128 * 2 ^ 300) / 2 ^ 300
  if cu < 0 ∨ 1280 ≤ cu ∨ cv < 0 ∨ 256 ≤ cv then (0, fun _ => 0)
  else
    let g := fieldAt x.ptab
    let o := 64 + 8 * (cu.toNat * 256 + cv.toNat)
    let fw := g 0 2
    let fh := g 2 2
    let pitch := g 4 4
    let sx := g o 2
    let sy := g (o + 2) 2
    let cp := g (o + 4) 1
    if cp = 0 ∨ (fw - 1) * 64 < sx ∨ (fh - 1) * 64 < sy ∨ fw = 0 ∨ fh = 0 then (0, fun _ => 0)
    else
      let x0 := sx / 64
      let y0 := sy / 64
      let x1 := min (x0 + 1) (fw - 1)
      let y1 := min (y0 + 1) (fh - 1)
      let mean := fun (f : Nat → Nat → Int) => bilinear 64 (sx % 64) (sy % 64) (f x0 y0) (f x1 y0) (f x0 y1) (f x1 y1)
      let conf := match x.conf with
        | none => f32q 255 1
        | some l => mean (fun a b => ((nth 0 l (b * fw + a)).toNat : Int))
      (f32div (f32mul (f32q cp 1) conf) (f32q 255 1),
        fun ch => mean (fun a b => sext 8 (nth 0 x.feat (b * pitch + 64 * a + ch)).toNat))

/-- One plane's sample at a cell (11 R366). -/
def Src.plane (x : Src) (u v : Nat) : Nat × (Nat → Nat) :=
  let (zx, zy) := x.point u v
  let pu := gridPos 479 zx
  let pv := gridPos 255 zy
  let iu := pu / 2 ^ 300
  let iv := pv / 2 ^ 300
  let inside := fun (a b : Int) => decide (0 ≤ a ∧ a < 1280 ∧ 0 ≤ b ∧ b < 256)
  let cell := fun (a b : Int) => a.toNat * 256 + b.toNat
  let mean := fun (f : Nat → Int) =>
    let at_ := fun (a b : Int) => if inside a b then f (cell a b) else 0
    bilinear (2 ^ 300) (pu % 2 ^ 300).toNat (pv % 2 ^ 300).toNat (at_ iu iv) (at_ (iu + 1) iv) (at_ iu (iv + 1)) (at_ (iu + 1) (iv + 1))
  let conf := mean (fun c => match x.conf with | none => 255 | some l => ((nth 0 l c).toNat : Int))
  (conf, fun ch => mean (fun c => sext 8 (nth 0 x.feat (c * 64 + ch)).toNat))

/-- A sensor's sample at a cell. -/
def Src.sample (x : Src) (u v : Nat) : Nat × (Nat → Nat) := if x.kind = 1 then x.camera u v else x.plane u v

/-- An FP32 value rounded to the nearest integer, ties away from zero (11 R367). -/
def roundAway (v : Nat) : Int :=
  let z := unitsOf v
  if z < 0 then -((-z * 2 + 2 ^ 300) / 2 ^ 301) else (z * 2 + 2 ^ 300) / 2 ^ 301

/-- One cell of the merge (11 R367, R369): its 64 features, its confidence, whether a sensor contradicts. -/
def mergeCell (b : List Byte) (srcs : List Src) (u v : Nat) : List Byte × Nat × Bool :=
  let ev := fieldAt b 50 1
  let cmin := f32q (fieldAt b 51 1) 1
  let thr := f32q (fieldAt b 52 1) 1
  let l := srcs.map (fun x => (x.w, x.sample u v))
  let take_ := fun (e : Nat × Nat × (Nat → Nat)) => !f32lt e.2.1 cmin
  let far := fun (p q : Nat) => f32lt thr (f32sub p q) || f32lt thr (f32sub q p)
  let contra := l.map (fun e => take_ e && l.any (fun o => take_ o && far (e.2.2 ev) (o.2.2 ev)))
  let a := (List.range l.length).map (fun i =>
    let e := nth (0, 0, fun _ => 0) l i
    (f32mul (f32mul (f32q e.1 1) e.2.1) (if nth false contra i then 0x3F000000 else one32), e.2.2))
  let tot := a.foldl (fun t e => f32add t e.1) 0
  let feats := (List.range 64).map (fun ch =>
    if unitsOf tot = 0 then (0 : Byte)
    else
      let f := roundAway (a.foldl (fun t e => f32add t (f32div (f32mul e.1 (e.2 ch)) tot)) 0)
      BitVec.ofNat 8 (toU 8 (if f < -128 then -128 else if 127 < f then 127 else f)))
  (feats, (min 255 (roundAway (f32div tot (f32q 255 1)))).toNat, contra.any id)

/-- The sources of a closed cycle, and the sensors with stale ego-motion (11 R362, R365, R366). -/
def State.sources (s : State) (z : Closed) : State × List Src × Nat :=
  let b := z.block
  let len := fieldAt b 48 2
  let (s, er) := s.gaRead (fieldAt b 8 8) (16 * len)
  let ego := egoOf len (s.rd F.GA_EGO_HEAD_HEAD) er
  z.samples.foldl (fun (acc : State × List Src × Nat) e =>
    let (s, l, st) := acc
    let (pt, kind, w) := blkSensor b e.1
    let x := e.2
    let (zero, psi, px, py) := pose ego z.tk x.t
    let (s, ptab) := if kind = 1 then s.gaRead pt (64 + 8 * 327680) else (s, [])
    let g := fieldAt ptab
    let (s, feat) := if kind = 1 then s.gaRead x.feat (g 2 2 * g 4 4) else s.gaRead x.feat 20971520
    let (s, conf) := if x.conf = 0 then (s, none)
      else
        let (s, c) := s.gaRead x.conf (if kind = 1 then g 0 2 * g 2 2 else 327680)
        (s, some c)
    (s, l ++ [⟨e.1, kind, w, psi, px, py, ptab, feat, conf⟩], if zero then st + 2 ^ e.1 else st)) (s, [], 0)

/-- Base address of a cycle's output buffer (11 R360, R361). -/
def gridBase (z : Closed) : Nat := if z.k % 2 = 0 then fieldAt z.block 16 8 else fieldAt z.block 24 8

/-- The merge of the oldest closed cycle (11 R360, R365-R369): the planes and features are written. -/
def State.merge (s : State) : State :=
  match s.ga.closed with
  | [] => s
  | z :: _ =>
    let (s, srcs, stale) := s.sources z
    let (s, corr) := s.gaRead (fieldAt z.block 32 8) (1280 * 4)
    let cells := (List.range 327680).map (fun c => mergeCell z.block srcs (c / 256) (c % 256))
    let conf := cells.map (fun c => c.2.2)
    let inCorr := fun (c : Nat) =>
      let lo := fieldAt corr (4 * (c / 256)) 2
      let hi := fieldAt corr (4 * (c / 256) + 2) 2
      decide (lo ≤ c % 256 ∧ c % 256 ≤ hi)
    let plane := (List.range 40960).map (fun i =>
      BitVec.ofNat 8 ((List.range 8).foldl (fun m j => m + b2n (nth false conf (8 * i + j)) * 2 ^ j) 0))
    let a := gridBase z
    let s := (s.fabWrite gaPort (a + 4096) (cells.map (fun c => BitVec.ofNat 8 c.2.1))).1
    let s := (s.fabWrite gaPort (a + 331776) plane).1
    let s := (s.fabWrite gaPort (a + 1048576) (cells.flatMap (fun c => c.1))).1
    let hits := (List.range 327680).filter (fun i => nth false conf i)
    let s := if stale = 0 then s else s.put0 F.GA_ERR_EGO_STALE 1
    s.modGa (fun g => { g with
      conflicts := hits.length
      corridor := (hits.filter inCorr).length
      stale := stale
      merged := srcs.foldl (fun m x => m + 2 ^ x.n) 0 })

/-! ### Close and release -/

/-- FUSION_CLOSE (11 R361, R363, R364, R368): once T_k + CLOSE_US has come, the block is read, the slots are checked, the samples are fixed, and the merge
starts unless another runs. -/
def State.fusionClose (s : State) : State :=
  let k := s.ga.next
  match (if s.flag F.GA_CFG_EN then s.ga.opens.find? (fun o => o.1 == k && decide (o.2.2 ≤ s.stamp)) else none) with
  | none => s
  | some (_, tk, _) =>
    let s := (s.takeEffect R.GA_BLOCK).takeEffect R.GA_LIE
    let (s, r) := s.fabRead gaPort (s.rdE F.GA_BLOCK_ADDR / 256 * 256) 256
    let s := if r.st = stOK ∧ blkOk r.data then s.modGa (fun g => { g with block := some r.data }) else s.put0 F.GA_ERR_BLOCK 1
    let s := s.pollSamples.modGa (fun g => { g with next := k + 1 })
    match s.ga.block with
    | none => s
    | some b =>
      let heldBy := fun (n : Fin 16) => (vget s.ga.sensors n).held.find? (fun h => h.1 == k)
      let mask := fun (p : Fin 16 → Bool) => (blkOn b).foldl (fun m n => m + b2n (p n) * 2 ^ n.val) 0
      let lie := mask (fun n => bit (s.rdE F.GA_LIE_LIE) n.val)
      let late := mask (fun n => (vget s.ga.sensors n).masked)
      let samples := (blkOn b).filterMap (fun n =>
        if bit lie n.val ∨ bit late n.val then none else (heldBy n).map (fun h => (n.val, h.2)))
      let z : Closed := ⟨k, tk, b, samples, mask (fun n => (heldBy n).isNone), lie, late⟩
      let idle := s.ga.closed.isEmpty
      let s := s.modGa (fun g => { g with
        closed := g.closed ++ [z]
        sensors := g.sensors.map (fun x => { x with held := x.held.filter (fun h => decide (k < h.1)) }) })
      if idle then s.merge else s

/-- One record of the track list (11 R376), its state predicted to T_k. -/
def State.trackRecord (s : State) (b : List Byte) (tk : Nat) (w : Track) : State × List Byte :=
  let (s, ml) := s.gaRead (fieldAt b 56 8 + 1024 * w.model) 1024
  let md := Model.of ml
  let x := (predict md (seconds w.t tk) (colOf w.x) (sqOf md.n w.p)).1.flatten
  (s, leBytes w.id 2 ++ leBytes w.model 1 ++ leBytes (b2n w.oos + 2 * b2n w.upd) 1 ++ leBytes 0 4 ++ leBytes w.t 8
    ++ (List.range 12).flatMap (fun i => leBytes (nth 0 x i) 4))

/-- The track stage of a release (11 R376): the measurements in order, then the track list. -/
def State.trackStage (s : State) (z : Closed) : State :=
  let (s, ms) := z.samples.foldl (fun (acc : State × List (Nat × Nat × List Byte)) e =>
    let (s, ls) := acc.1.measOf e.2
    (s, acc.2 ++ ls.map (fun l => (fieldAt l 0 8, e.1, l)))) (s, [])
  let ordered := sortBy (fun (p q : Nat × Nat × List Byte) => decide (p.1 < q.1 ∨ (p.1 = q.1 ∧ p.2.1 ≤ q.2.1))) ms
  let s := ordered.foldl (fun s m =>
    let (s, e) := s.measure z.block m.2.2
    s.countMeas e) s
  let (s, l) := s.ga.tracks.foldl (fun (acc : State × List Byte) w =>
    let (s, r) := acc.1.trackRecord z.block z.tk w
    (s, acc.2 ++ r)) (s, [])
  let s := if l.isEmpty then s else (s.fabWrite gaPort (gridBase z + 372736) l).1
  s.modGa (fun g => { g with tracks := g.tracks.map (fun w => { w with oos := false, upd := false }) })

/-- The cycle record (11 R370). -/
def State.cycleRecord (s : State) (z : Closed) : List Byte :=
  let g := s.ga
  let c := g.counts
  leBytes z.tk 8 ++ leBytes z.k 4 ++ leBytes g.merged 2 ++ leBytes z.dropout 2 ++ leBytes z.lie 2 ++ leBytes z.lateMask 2
    ++ leBytes g.stale 2 ++ leBytes 0 2 ++ leBytes g.conflicts 4 ++ leBytes g.corridor 4 ++ leBytes g.tracks.length 2
    ++ leBytes c.untracked 2 ++ leBytes c.lateOos 2 ++ leBytes c.lateDropped 2 ++ leBytes c.oosDropped 2
    ++ leBytes c.rejected 2 ++ leBytes c.replaced 2 ++ leBytes c.future 2 ++ leBytes s.stamp 8 ++ leBytes 0 8

/-- GRID_RELEASE (11 R369, R370, R376): track stage, cycle record, interrupt, CYCLE; the next closed cycle merges. -/
def State.gridRelease (s : State) : State :=
  match s.ga.closed with
  | [] => s
  | z :: rest =>
    let s := s.trackStage z
    let s := (s.fabWrite gaPort (gridBase z) (s.cycleRecord z)).1
    let max_ := fieldAt z.block 54 2
    let s := if max_ ≠ 0xFFFF ∧ max_ < s.ga.corridor then s.doubt 3 else s
    let s := (s.tell (.irq "GRID_RELEASE" z.k)).put0 F.GA_STAT_CYCLE (z.k % 65536)
    (s.modGa (fun g => { g with closed := rest, counts := ⟨0, 0, 0, 0, 0, 0, 0⟩ })).merge

/-- GA_CFG.EN becomes 1 (11 R363, R379). -/
def State.gaEnable (s : State) : State :=
  if s.flag F.GA_CFG_EN then s else ((s.put0 F.GA_CFG_EN 1).modGa (fun _ => emptyGa)).put0 F.GA_STAT_LATE_MASK 0

/-- GA_CFG.EN becomes 0 (11 R379). -/
def State.gaDisable (s : State) : State :=
  ((s.put0 F.GA_CFG_EN 0).modGa (fun _ => emptyGa)).put0 F.GA_STAT_LATE_MASK 0

end Sys2Proof.Machine
end

