-- ==== Sys2Proof/Machine/Power.lean ====
section
/-! DEFINITION. PMC (17): power requests, the state ladder, wakes, clock and supply monitors, thermal hold and the resets. -/

namespace Sys2Proof.Machine

/-! ### The log and the state (17 R571, R574) -/

/-- PMC_STATE.STATE: 0 ACTIVE, 1 IDLE, 2 HOLD, 3 PARK, 4 WATCH, 5 SLUMBER. -/
def State.pstate (s : State) : Nat := s.rd F.PMC_STATE_STATE

/-- PMC changed. -/
def State.modPmc (s : State) (f : Pmc → Pmc) : State := { s with pmc := f s.pmc }

/-- An entry of PMC's log; for an event without a requester the spec gives no master and no world: free values. -/
def State.pmcLog (s : State) (kind detail : Nat) (who : Option (Nat × Bool)) (dom : Nat) : State :=
  let n := s.rd F.PMC_LOG_HEAD_NEXT
  let (w, s) := match who with
    | some w => (w, s)
    | none => (let (c, s) := s.nextFree; (((Config.freeWord c 0).toNat % 64, Config.freeBool c 0), s))
  let s := ((s.put F.PMC_LOG_TIME n 0 (s.itu / 400000)).put F.PMC_LOG_KIND n 0 kind).put F.PMC_LOG_DETAIL n 0 detail
  let s := ((s.put F.PMC_LOG_MASTER n 0 w.1).put F.PMC_LOG_WORLD n 0 (b2n w.2)).put F.PMC_LOG_DOMAIN n 0 dom
  (s.put0 F.PMC_LOG_HEAD_NEXT ((n + 1) % 16)).put0 F.PMC_LOG_HEAD_TOTAL (satInc 16 (s.rd F.PMC_LOG_HEAD_TOTAL))

/-- The ladder state set, and logged. -/
def State.setPstate (s : State) (n : Nat) (who : Option (Nat × Bool)) : State :=
  ((s.put0 F.PMC_STATE_STATE n).put0 F.PMC_STATE_TARGET n).pmcLog 2 n who n

/-- A bit of PMC_MON set: the monitor event is logged and the interrupt raised (17 R596). -/
def State.monitor (s : State) (b : Nat) : State :=
  ((s.setReg R.PMC_MON 0 0 (s.regVal R.PMC_MON 0 0 ||| 2 ^ b)).pmcLog 3 b none 0).tell (.irq "PMC_MON" b)

/-- The domains that a ladder state allows (17 R575). -/
def allowed (st d : Nat) : Bool :=
  match st with
  | 0 => true
  | 1 => true
  | 2 => decide (d ≤ 3) || decide (20 ≤ d ∧ d ≤ 29) || [31, 32, 41, 42, 47, 48, 56, 57, 58, 59, 61, 63].contains d
  | 3 => decide (d ≤ 3)
  | _ => d == 0

/-- The rails, as PMC_MON numbers them (17 R584, PMC_MON). -/
inductive Rail where
  | core | sram | ao | isl | io18 | io33 | ddr | serdes
  deriving DecidableEq, Repr

/-- The rail of a PMC_MON bit. -/
def railOf (n : Fin 8) : Rail :=
  match n.val with
  | 0 => .core | 1 => .sram | 2 => .ao | 3 => .isl | 4 => .io18 | 5 => .io33 | 6 => .ddr | _ => .serdes

/-- Whether a rail's enable output is high in a ladder state (17 R575, R584); VDD_AO and VDDIO_33 are always on. -/
def railOn (st : Nat) (r : Rail) : Bool :=
  match r with
  | .ao => true
  | .io33 => true
  | .isl => decide (st ≤ 3)
  | .io18 => decide (st ≤ 3)
  | .ddr => decide (st ≤ 3)
  | _ => decide (st ≤ 2)

/-- Whether output AO_FULL is high: it selects retention when low (17 R575, R584). -/
def aoFull (st : Nat) : Bool := st != 5

/-! ### Resets (17 R590, R591) -/

/-- A device reset with a cause: every domain but PD0; LPDDR5X does not survive it; start-up follows where POWER_GOOD is high and
no thermal hold lasts. -/
def State.deviceReset (s : State) (cause : Nat) : State :=
  let s := s.powerOff ((List.range 64).filter (fun d => d != 0))
  let s : State := { s with
    mem := s.mem.wipe 0x100000000 0x3F00000000
    engines := Vector.replicate 17 emptyEngine
    fns := Vector.replicate 33 emptyFn
    host := resetHost
    linkUp := false
    winLog2 := 32
    boot := resetBoot
    pmc := { resetPmc with
      good := s.pmc.good
      hold := s.pmc.hold
      brown := s.pmc.brown
      status := s.pmc.status } }
  let s := ((s.put0 F.PMC_STATE_STATE 0).put0 F.PMC_STATE_TARGET 0).put0 F.PMC_CAUSE_RESET cause
  let s := (s.pmcLog 4 cause none 0).clocks
  if s.pmc.good ∧ !s.pmc.hold then s.startUp false else s

/-- A power-on reset: everything, PD0 included; flash, the eMMC and HyperRAM devices keep what they hold. -/
def State.powerOnReset (s : State) : State :=
  let m := (((s.mem.wipe 0 0x60000000).wipe 0x70000000 0x20000000).wipe 0xB0000000 (2 ^ 52 - 0xB0000000)).wipe (2 ^ 53) (2 ^ 53)
  { State.reset with
    mem := m
    ticks := s.ticks
    hostOut := s.hostOut
    out := s.out
    resp := s.resp
    freeCtr := s.freeCtr
    pending := s.pending }

/-! ### Moving on the ladder (17 R575-R579) -/

/-- The exit from PARK: the main side restarts (17 R578). -/
def State.parkExit (s : State) (wake : Nat) : State :=
  let s := ((s.put0 F.PMC_CAUSE_RESET 0x0A).put0 F.PMC_CAUSE_WAKE wake).pmcLog 4 0x0A none 0
  (s.setPstate 0 none).startUp true

/-- The device raised to ACTIVE (17 R575-R578). -/
def State.raise (s : State) (who : Option (Nat × Bool)) : State :=
  match s.pstate with
  | 0 => s
  | 1 => s.setPstate 0 who
  | 2 => ((s.powerOn s.mainSet).unrest).setPstate 0 who
  | 3 => s.parkExit 4
  | _ => s

/-- A lower state entered (17 R577-R579): the domains it does not allow go off. -/
def State.enter (s : State) (st : Nat) (who : Option (Nat × Bool)) : State :=
  let s := s.powerOff ((List.range 64).filter (fun d => !allowed st d))
  let s : State := if 3 ≤ st then { s with boot := resetBoot, pmc := { s.pmc with pllF := false } } else s
  let s : State := if 4 ≤ st then
      { s with mem := s.mem.wipe 0x100000000 0x3F00000000, pmc := { s.pmc with trained := false } } else s
  s.clocks.setPstate st who

/-- A context that becomes READY brings the device from IDLE to ACTIVE (17 R576, R581). -/
def State.anyReady (s : State) : Bool :=
  (List.finRange 8).any (fun c => (s.cab c).live && (List.finRange 72).any (fun x => match s.ctx? c x with
    | some t => t.st == .ready
    | none => false))

/-- The wake of IDLE after a command. -/
def State.wakeReady (s : State) : State := if s.pstate = 1 ∧ s.anyReady then s.setPstate 0 none else s

/-- A wake from WATCH or SLUMBER: a device reset (17 R579, R581). -/
def State.wakeReset (s : State) (wake : Nat) : State :=
  (s.put0 F.PMC_CAUSE_WAKE wake).deviceReset (if s.pstate = 4 then 0x08 else 0x09)

/-! ### Power requests (17 R569-R573; 14 R478-R482) -/

def PmcReq.op (q : PmcReq) : Nat := bits q.value 7 0
def PmcReq.target (q : PmcReq) : Nat := bits q.value 15 8

/-- The world of a bank's requests (17 R571). -/
def PmcReq.secure (q : PmcReq) : Bool := q.bank.val != 1 && q.bank.val != 4

/-- The master port of a bank's requests: the island 36, SEC 25, SCH 24, a relayed host request 26, CCn 20 + n. -/
def PmcReq.port (q : PmcReq) : Nat :=
  match q.bank.val with
  | 0 => 36 | 1 => 36 | 2 => 25 | 3 => 24 | 4 => 26 | n => 15 + n

/-- Who made a request, as the log has it. -/
def PmcReq.who (q : PmcReq) : Option (Nat × Bool) := some (q.port, q.secure)

/-- Domains that change only with the ladder state (17 R568). -/
def ladderOnly (d : Nat) : Bool := decide (d ≤ 3) || d == 32 || d == 61

/-- Check 1 of 17 R570 fails. -/
def PmcReq.bad (q : PmcReq) : Bool :=
  decide (2 ^ 16 ≤ q.value) ||
    (match q.op with
     | 1 => decide (64 ≤ q.target) || ladderOnly q.target
     | 2 => decide (64 ≤ q.target) || ladderOnly q.target
     | 3 => decide (6 ≤ q.target)
     | 4 => q.target != 0
     | _ => true)

/-- The set of a request: the domains it powers on or would cut (17 R565); of a STATE request, those its state does not allow. -/
def State.reqSet (s : State) (q : PmcReq) : List Nat :=
  match q.op with
  | 1 => upSet q.target
  | 2 => (downSet q.target).filter (fun d => s.pd d)
  | 3 => if s.pstate < q.target then (List.range 64).filter (fun d => s.pd d && !allowed q.target d) else []
  | _ => []

/-- Whether a domain is an engine's that a flash-launched cabinet holds, or a cabinet of a function (17 R570). -/
def State.pdHeld (s : State) (p : Cabinet → Bool) (d : Nat) : Bool :=
  decide (4 ≤ d ∧ d ≤ 19) && (match s.holder (d - 4) with | some c => p (s.cab c) | none => false)

/-- The authority table of 17 R570. -/
def State.mayRequest (s : State) (q : PmcReq) : Bool :=
  match q.bank.val with
  | 0 => true
  | 1 => q.op != 4
  | 2 => decide (q.op ≤ 2)
  | 3 => decide (q.op ≤ 2)
  | 4 => (match q.host with
      | some f => if f.val = 0 then q.op != 4
          else decide (q.op ≤ 2) && s.pdHeld (fun b => !b.flash && b.fn == f.val) q.target
      | none => false) && (s.reqSet q).all (fun d => !s.pdHeld (fun b => b.flash) d)
  | n => decide (q.op ≤ 2) && decide (4 + 4 * (n - 5) ≤ q.target ∧ q.target ≤ 7 + 4 * (n - 5))

/-- The marked domains, rising, that a Normal request would cut, or whose clock it would stop (14 R480); a power-on cuts none. -/
def State.cutMarked (s : State) (q : PmcReq) : List Nat :=
  if q.secure ∨ q.op = 1 then []
  else
    let l := s.reqSet q ++ (if q.op = 3 ∧ q.target = 1 ∧ s.pstate = 0 then (List.range 16).map (fun k => k + 4) else [])
    l.filter (fun d => s.pd d && bit q.marks d)

/-- The first check of 17 R570 that fails; OK where none does. -/
def State.reqStatus (s : State) (q : PmcReq) : Nat :=
  if q.bad then csBAD_COMMAND
  else if !s.mayRequest q then csDENIED_AUTHORITY
  else if q.op = 1 ∧ s.fencedPd q.target then csFENCED
  else if s.cutMarked q ≠ [] then csDENIED_SECURE
  else csOK

/-- The request at the head completes with a status; a refusal is logged. -/
def State.reqDone (s : State) (q : PmcReq) (st : Nat) : State :=
  let dom := match s.cutMarked q with | d :: _ => if st = csDENIED_SECURE then d else q.target | [] => q.target
  let s := if st = csOK then s else s.pmcLog 1 st q.who dom
  s.modPmc (fun p => { p with queue := p.queue.drop 1, status := vmod p.status q.bank (fun _ => st) })

/-- Ill-formed requests at the head complete at once; `n` bounds their number. -/
def State.reqSettle (s : State) : Nat → State
  | 0 => s
  | n + 1 => match s.pmc.queue with
    | q :: _ => if q.bad then (s.reqDone q csBAD_COMMAND).reqSettle n else s
    | [] => s

/-- Whether a bank has a request that is not complete (PMC_RESP.BUSY). -/
def State.bankBusy (s : State) (b : Fin 9) : Bool := s.pmc.queue.any (fun q => q.bank == b)

/-- A request submitted through a bank (17 R571). -/
def State.pmcSubmit (s : State) (b : Fin 9) (v : Nat) (host : Option (Fin 33)) : State :=
  if s.bankBusy b then s
  else
    let q : PmcReq := ⟨b, v, s.rd F.PMC_SEC_INUSE_INUSE, host⟩
    (s.modPmc (fun p => { p with queue := p.queue ++ [q] })).reqSettle 9

/-- The bank of a master's requests, at the first offsets or the relay's (17 R571). -/
def State.bankOf (s : State) (m : Master) (relay : Bool) : Option (Fin 9) :=
  match m with
  | .isl c => if relay then none else some (if vget s.isl.world c then 0 else 1)
  | .sec => if relay then none else some 2
  | .sch => some (if relay then 4 else 3)
  | .cc i => if relay then none else some (fin 9 (by decide) (5 + i.val))
  | _ => none

/-- SCH asks for the engines of a resting cabinet that are off (17 R572), in ACTIVE and IDLE. -/
def State.wakeCab (s : State) (c : CabId) : State :=
  if !(s.cab c).resting ∨ 1 < s.pstate then s
  else
    let off := (List.range 16).filter (fun k => bit (s.rd F.SCH_CAB_ENG_ENGINES c.val) k && !s.pd (k + 4))
    s.modPmc (fun p => { p with queue := p.queue ++ off.map (fun k => ⟨3, 256 * (k + 4) + 1, 0, none⟩) })

/-- The cabinets that hold an engine of a set of domains and are not degraded. -/
def State.cabsOf (s : State) (l : List Nat) : List CabId :=
  (List.finRange 8).filter (fun c => (s.cab c).live && !(s.cab c).degraded
    && l.any (fun d => decide (4 ≤ d ∧ d ≤ 19) && bit (s.rd F.SCH_CAB_ENG_ENGINES c.val) (d - 4)))

/-- Cabinets brought to rest (17 R572): whether every one has stored its contexts. -/
def State.restCabs (s : State) (l : List CabId) : State × Bool :=
  (l.foldl (fun s c => s.modCab c (fun b => { b with resting := true })) s, l.all (fun c => (s.residents c).isEmpty))

/-- The head request served by the row of its OP, where PMC has been released and `f` says what it does once every check has
passed: the state, and whether it is complete. -/
def State.serveReq (s : State) (op : Nat) (f : State → PmcReq → State × Bool) : State :=
  match s.pmc.queue with
  | [] => s
  | q :: _ =>
    if !s.pmc.run ∨ q.op ≠ op then s
    else
      let st := s.reqStatus q
      if st ≠ csOK then (s.reqDone q st).reqSettle 9
      else
        let (s, ok) := f s q
        if ok then (s.reqDone q csOK).reqSettle 9 else s

/-- DOMAIN_ON (17 R565, R572, R573, R575): the device is raised to ACTIVE where it is below, the needed domains come first, and
LPDDR5X waits for its training. -/
def State.domainOn (s : State) : State :=
  s.serveReq 1 (fun s q =>
    let s := s.raise q.who
    if (upSet q.target).contains 33 && !s.pmc.trained then (s, false)
    else
      let s := (s.powerOn (upSet q.target)).unrest
      ((s.cabsOf [q.target]).foldl (fun s c => s.wakeCab c) s, true))

/-- DOMAIN_OFF (17 R565, R572): cabinets that hold an engine of the set first store their contexts. -/
def State.domainOff (s : State) : State :=
  s.serveReq 2 (fun s q =>
    let l := s.reqSet q
    let (s, stored) := s.restCabs (s.cabsOf l)
    if stored then (s.powerOff l, true) else (s, false))

/-- STATE (17 R574-R579). -/
def State.ladder (s : State) : State :=
  s.serveReq 3 (fun s q =>
    let t := q.target
    if t ≤ s.pstate then
      let s := if t < s.pstate then s.raise q.who else s
      (if s.pstate < t then s.enter t q.who else s, true)
    else
      let (s, stored) := if t = 2 then s.restCabs ((List.finRange 8).filter (fun c => (s.cab c).live && !(s.cab c).degraded))
        else (s, true)
      if stored then (s.enter t q.who, true) else (s.put0 F.PMC_STATE_TARGET t, false))

/-- DEVICE_RESET (17 R590). -/
def State.resetRequest (s : State) : State :=
  s.serveReq 4 (fun s q =>
    let s := s.modPmc (fun p => { p with status := vmod p.status q.bank (fun _ => csOK) })
    (s.deviceReset 0x03, false))

/-! ### Wakes and AUTO_IDLE (17 R576, R581) -/

/-- AUTO_IDLE_ENTRY. -/
def State.autoIdle (s : State) : State :=
  let t := (List.finRange 8).foldl (fun s c => if (s.cab c).live then s.revive c else s) s
  let quiet := (List.finRange 16).all (fun k =>
    let e := t.eng (engId k.val)
    (e.st == .stopped || e.st == .fenced) && e.active.isNone)
  if s.flag F.PMC_CFG_AUTO_IDLE ∧ s.pmc.run ∧ s.pstate = 0 ∧ quiet ∧ !t.anyReady then s.setPstate 1 none else s

/-- CAN_WAKE. -/
def State.canWake (s : State) (n : Fin 12) : State :=
  if 4 ≤ s.pstate ∧ bit (s.rd F.PMC_WAKE_CFG_CAN) n.val then (s.put0 F.PMC_CAUSE_CAN n.val).wakeReset 1 else s

/-- WAKE_N_WAKE. -/
def State.pinWake (s : State) : State :=
  if !s.flag F.PMC_WAKE_CFG_PIN_EN then s
  else if s.pstate = 3 then s.parkExit 3
  else if 4 ≤ s.pstate then s.wakeReset 3
  else s

/-- ITU_WAKE. -/
def State.ituWake (s : State) : State :=
  if s.pstate = 4 ∧ s.flag F.PMC_WAKE_CFG_ITU_EN ∧ s.rd F.PMC_WAKE_ITU_COUNT ≤ s.itu then s.wakeReset 2 else s

/-! ### Supplies (17 R586-R588) -/

/-- WARN_CROSSING. -/
def State.warn (s : State) (r : Fin 8) : State := if railOn s.pstate (railOf r) then s.monitor r.val else s

/-- Whether a rail has a BROWN threshold (17 R587). -/
def hasBrown (r : Rail) : Bool := r == .core || r == .sram || r == .isl

/-- BROWN_CROSSING: the clocks that the rail feeds stop. -/
def State.brownOut (s : State) (r : Fin 8) : State :=
  if !hasBrown (railOf r) ∨ !railOn s.pstate (railOf r) then s
  else ((s.monitor (8 + r.val)).modPmc (fun p => { p with brown := Nat.lor p.brown (2 ^ r.val) })).clocks

/-- BROWN_RECOVERY: the rail has stayed above WARN, and the clocks restart. -/
def State.brownEnd (s : State) (r : Fin 8) : State :=
  if bit s.pmc.brown r.val then (s.modPmc (fun p => { p with brown := p.brown - 2 ^ r.val })).clocks else s

/-- LONG_DIP. -/
def State.longDip (s : State) (r : Fin 8) : State := if bit s.pmc.brown r.val then s.deviceReset 0x04 else s

/-- UV_OV: a rail leaves its range, upward where `over`. -/
def State.railFail (s : State) (r : Fin 8) (high : Bool) : State :=
  if railOf r = .ao then s.powerOnReset
  else if railOn s.pstate (railOf r) then s.deviceReset (if high then 0x05 else 0x04)
  else s

/-- AVS_STEP: a PMBus transaction for a target in mV, acknowledged or not. -/
def State.avsStep (s : State) (target : Nat) (ack : Bool) : State :=
  let v := s.rd F.PMC_VCORE_TARGET
  if !s.flag F.PMC_CFG_AVS_EN ∨ !s.pmc.run ∨ s.pmc.avsStop ∨ target < 650 ∨ 850 < target ∨ v + 10 < target ∨ target + 10 < v then s
  else if ack then s.put0 F.PMC_VCORE_TARGET target
  else (s.monitor 27).modPmc (fun p => { p with avsStop := true })

/-! ### Thermal (17 R589) -/

/-- A reading of the sensors kept. -/
def State.setTj (s : State) (tj : Int) : State := s.put0 F.PMC_THERM_TJ (toU 9 tj)

/-- THERMAL_WARN. -/
def State.thermWarn (s : State) (tj : Int) : State :=
  if !s.pd 63 then s
  else if (s.rd F.PMC_THERM_WARN : Int) ≤ tj then (s.setTj tj).monitor 24
  else s.setTj tj

/-- THERMAL_HOLD. -/
def State.thermHold (s : State) (tj : Int) : State :=
  if s.pmc.hold ∨ tj < 135 ∨ !s.pd 63 then s
  else ((s.setTj tj).modPmc (fun p => { p with hold := true })).deviceReset 0x07

/-- THERMAL_RELEASE. -/
def State.thermRelease (s : State) (tj : Int) : State :=
  if !s.pmc.hold ∨ 120 < tj then s
  else
    let s := (s.setTj tj).modPmc (fun p => { p with hold := false })
    if s.pmc.good then s.startUp false else s

/-! ### Clocks (17 R583) -/

/-- PLL_LOCK_LOSS: PLL_F, PLL_A or PLL_I loses lock and its outputs are gated. -/
def State.pllLost (s : State) (p : Fin 3) : State :=
  if 3 < s.pstate then s else (s.modPmc (fun x => { x with unlocked := Nat.lor x.unlocked (2 ^ p.val) })).clocks

/-- PLL_RELOCK: it locks again, or the device is reset. -/
def State.pllRelock (s : State) (p : Fin 3) (ok : Bool) : State :=
  if !bit s.pmc.unlocked p.val then s
  else if ok then ((s.modPmc (fun x => { x with unlocked := x.unlocked - 2 ^ p.val })).monitor 25).clocks
  else s.deviceReset 0x06

/-- REFERENCE_LOSS. -/
def State.refLost (s : State) : State := if s.pstate ≤ 3 ∧ s.pmc.good then s.deviceReset 0x06 else s

/-- XTAL32_FAIL. -/
def State.xtalFail (s : State) : State := s.monitor 26

/-! ### Reset pins (17 R590) -/

/-- RESET_N. -/
def State.resetPin (s : State) : State := s.deviceReset 0x02

/-- POWER_GOOD_FALL. -/
def State.goodFall (s : State) : State :=
  if s.pmc.good then (s.modPmc (fun p => { p with good := false })).deviceReset 0x01 else s

end Sys2Proof.Machine
end

