-- ==== Sys2Proof/Machine/Host.lean ====
section
/-! DEFINITION. The host functions and the island command page (15; 09 R287-R289): attaching, rings and doorbells, and the
commands they carry. -/

namespace Sys2Proof.Machine

/-! ### Functions -/

/-- Whether a function's page is served: SCH is powered and clocked, and of the host's functions, the host interface is open
(16 R556) and the function exists. -/
def State.fnServed (s : State) (f : Fin 33) : Bool :=
  s.pd 31 && s.mainClk && (f.val == 32 || (s.boot.open_ && s.pd 41 && s.fnExists f.val))

/-- A function's STATE and REASON set; vector 2 on a change of STATE (15 R530). -/
def State.setFn (s : State) (f : Fin 33) (st : FnState) (reason : Nat) : State :=
  let old := (vget s.fns f).st
  let s := s.modFn f (fun x => { x with st := st, reason := reason })
  if old = st then s else s.vector f 2

/-- Whether `n` bytes at an address that a function gives for a ring lie in its reach (15 R517; 09 R287). -/
def State.fnReach (s : State) (f : Fin 33) (a n : Nat) : Bool :=
  if f.val = 32 then decide (0x100000000 ≤ a ∧ a + n ≤ s.lpddrEnd) && (!s.wmOn || s.secureAddr (a + (n - 1)))
  else match s.fnAddr f a n with
    | some d => s.reach f.val d n
    | none => false

/-- The device address of `n` bytes that an argument of a command names, on behalf of cabinet `c` or of none (15 R511, R512,
R526). -/
def State.argAddr (s : State) (f : Fin 33) (c : Option CabId) (a n : Nat) : Option Nat :=
  if f.val = 32 then some a
  else if f.val = 0 then
    let share := match c with
      | some c => s.flag F.SBUF_SHARE_EN c.val && decide (0x80000000 + s.rd F.SBUF_SHARE_BASE c.val * 4096 ≤ a
          ∧ a + n ≤ 0x80000000 + (s.rd F.SBUF_SHARE_BASE c.val + s.rd F.SBUF_SHARE_SIZE c.val) * 4096)
      | none => false
    if s.reach 0 a n || share then some a else none
  else s.viewAddr f c a n

/-! ### Attaching (15 R516-R518, R533) -/

/-- The spans of the three rings that an attach record names. -/
def attachSpans (l : List Byte) : List (Nat × Nat) :=
  [(fieldAt l 0 8, 64 * 2 ^ fieldAt l 24 1), (fieldAt l 8 8, 32 * 2 ^ fieldAt l 25 1), (fieldAt l 16 8, 32 * 2 ^ fieldAt l 26 1)]

/-- Whether an attach record's rings are good (15 R517). -/
def State.ringsOk (s : State) (f : Fin 33) (l : List Byte) : Bool :=
  let sp := attachSpans l
  (List.range 3).all (fun i => decide (4 ≤ fieldAt l (24 + i) 1 ∧ fieldAt l (24 + i) 1 ≤ 12))
    && decide (fieldAt l 27 1 < 2) && zeros l 28 36
    && sp.all (fun p => p.1 % 4096 == 0 && s.fnReach f p.1 p.2)
    && pairwiseOk (fun (p q : Nat × Nat) => apart p.1 p.2 q.1 q.2) sp

/-- The attach record at an address; none where it cannot be read. -/
def State.attachRecord (s : State) (f : Fin 33) (a : Nat) : State × Option (List Byte) :=
  match s.fnAddr f a 64 with
  | none => (s, none)
  | some d =>
    let (s, r) := s.fabRead .sch d 64
    (s, if r.st = stOK ∧ a % 64 = 0 then some r.data else none)

/-- Why an attach is refused (15 R517), and the record where it is not. -/
def State.attachCheck (s : State) (f : Fin 33) (a : Nat) : State × Nat × List Byte :=
  let vf := decide (f.val ≠ 0 ∧ f.val ≠ 32)
  if s.rd F.HIF_VERSION_DRV_MAJOR f.val ≠ s.rd F.HIF_VERSION_FW_MAJOR f.val
      ∨ s.rd F.HIF_VERSION_FW_MINOR f.val < s.rd F.HIF_VERSION_DRV_MINOR f.val then (s, rsVERSION, [])
  else if vf && (vget s.fns f).win.isNone then (s, rsNO_WINDOW, [])
  else if vf && s.host.lostAt.isSome then (s, rsHOST_LOST, [])
  else match s.attachRecord f a with
    | (s, none) => (s, rsBAD_RINGS, [])
    | (s, some l) => if s.ringsOk f l then (s, 0, l) else (s, rsBAD_RINGS, l)

/-- The rings of a good record opened (15 R518). -/
def State.openRings (s : State) (f : Fin 33) (l : List Byte) : State :=
  (s.modFn f (fun x => { x with
    sq := ⟨fieldAt l 0 8, fieldAt l 24 1, 0, 0, true⟩
    cq := ⟨fieldAt l 8 8, fieldAt l 25 1, 0, 0, true⟩
    eq := ⟨fieldAt l 16 8, fieldAt l 26 1, 0, 0, true⟩
    evLost := 0
    cmd := []
    suspended := false })).setFn f .open_ 0

/-- The LOSS_REPORT that a function's first entry after its attach is (15 R528 type 6, R533). -/
def State.lossReport (s : State) (f : Fin 33) (events : Nat) : State :=
  let x := vget s.fns f
  if !x.owed then s
  else
    let kept := if x.gone then 0 else s.fnCtxs f
    let d := kept % 65536 + x.ctxLost % 65536 * 2 ^ 16 + x.subsLost % 65536 * 2 ^ 32 + events % 65536 * 2 ^ 48
    (s.modFn f (fun x => { x with owed := false, gone := false, ctxLost := 0, subsLost := 0 })).postTo f 6 0xFF 0xFF
      (if x.gone then 2 else 1) d s.host.stamp 1

/-- HIF_ATTACH (15 R516-R518, R533; 09 R287): the version is checked, then the record. A PF attach ends HOST_LOST, and without
RESUME discards the host state. -/
def State.attach (s : State) (f : Fin 33) (a : Nat) : State :=
  let st := (vget s.fns f).st
  if !s.fnServed f ∨ st = .open_ ∨ st = .quiesced ∨ st = .resetting then s
  else
    let (s, why, l) := s.attachCheck f a
    if why ≠ 0 then s.setFn f .refused why
    else
      let lost := decide (f.val = 0) && s.host.lostAt.isSome
      let s := if lost && !bit (fieldAt l 27 1) 0 then s.hostDiscard else s
      let s : State := if lost then { s with host := { s.host with lostAt := none } } else s
      let events := (vget s.fns f).evLost
      (s.openRings f l).lossReport f events

/-- HIF_DETACH (15 R518): the rings close; a PF detach stops heartbeat monitoring. -/
def State.detach (s : State) (f : Fin 33) : State :=
  if !s.fnServed f then s
  else
    let s : State := if f.val = 0 then { s with host := { s.host with monitored := false } } else s
    (s.modFn f (fun x => { x with cmd := [] })).setFn f .detached 0

/-! ### Completions (15 R520-R522) -/

/-- A command of a function completes: its entry is consumed and its completion entry written. SCH logs a refusal for want of
authority (01 R21; notes/assumptions/132.md). -/
def State.completeCmd (s : State) (f : Fin 33) (l : List Byte) (st value detail : Nat) : State :=
  let s := if st = csDENIED_AUTHORITY then s.tell (.refusal (fieldAt l 8 8) 0xFF st) else s
  let x := vget s.fns f
  let h := (x.sq.head + 1) % 2 ^ x.sq.log2
  let e := leBytes (fieldAt l 2 2) 2 ++ leBytes st 1 ++ leBytes 0 1 ++ leBytes h 2 ++ leBytes 0 2 ++ leBytes value 8
    ++ leBytes detail 8 ++ leBytes 0 8
  let s := s.modFn f (fun x => { x with sq := { x.sq with head := h }, cmd := [] })
  let (s, r) := s.ringWrite f x.cq 3 e
  (s.modFn f (fun x => { x with cq := r })).vector f 0

/-- Whether firmware takes the next entry of a function: its rings are open, an entry waits, the completion ring has a free
slot, and no command of it is under way (15 R521, R524). -/
def State.takesCmd (s : State) (f : Fin 33) : Bool :=
  let x := vget s.fns f
  s.fnServed f && x.st == .open_ && x.cmd.isEmpty && x.sq.head != x.sq.tail && decide (x.cq.used + 1 < 2 ^ x.cq.log2)

/-- Whether the command under way of a function goes on, also after HOST_LOST (15 R541). -/
def State.cmdOn (s : State) (f : Fin 33) : Bool :=
  let x := vget s.fns f
  s.fnServed f && !x.cmd.isEmpty && (x.st == .open_ || x.st == .lost || x.st == .quiesced)

/-- The submission entry at a function's head. -/
def State.headEntry (s : State) (f : Fin 33) : State × List Byte :=
  let x := vget s.fns f
  match s.fnAddr f (x.sq.base + 64 * x.sq.head) 64 with
  | some a => s.readOrFree .sch a 64
  | none =>
    let (c, s) := s.nextFree
    (s, (List.range 64).map (fun i => Config.freeByte c i))

/-- Whether an OPC names a command of a function (15 R524; 09 R288). -/
def knownOpc (f : Fin 33) (opc : Nat) : Bool :=
  let isl := opc == 0x30 || opc == 0x31 || opc == 0x32
  if f.val = 32 then opc == 0 || opc == 5 || opc == 6 || isl
  else decide (opc ≤ 6) || decide (0x10 ≤ opc ∧ opc ≤ 0x17) || opc == 0x20 || opc == 0x21 || isl

/-- Entries whose OPC names no command complete with BAD_COMMAND; `n` bounds their number. -/
def State.settleRing (s : State) (f : Fin 33) : Nat → State
  | 0 => s
  | n + 1 =>
    if !s.takesCmd f then s
    else
      let (t, l) := s.headEntry f
      if knownOpc f (fieldAt l 0 1) then s else (t.completeCmd f l csBAD_COMMAND 0 0).settleRing f n

/-- The answer of a command: status, VALUE, DETAIL, whether it has completed, and if not, whether it has started. -/
structure Ans where
  s : State
  st : Nat
  value : Nat
  detail : Nat
  ready : Bool
  started : Bool

/-- A command that has completed. -/
def reply (s : State) (st : Nat) (value : Nat := 0) (detail : Nat := 0) : Ans := ⟨s, st, value, detail, true, true⟩
/-- A command that is still under way. -/
def later (s : State) : Ans := ⟨s, 0, 0, 0, false, true⟩
/-- A command that cannot start yet. -/
def hold (s : State) : Ans := ⟨s, 0, 0, 0, false, false⟩

/-- An argument of a submission entry (15 R519). -/
def argOf (l : List Byte) (i : Nat) : Nat := fieldAt l (8 + 8 * i) 8

/-- Whether an entry with `n` arguments uses a reserved byte or an unused argument (15 R519). -/
def entryBad (l : List Byte) (n : Nat) : Bool := !(zeros l 1 1 && zeros l 4 4 && zeros l (8 + 8 * n) (56 - 8 * n))

/-- A command carried on: it completes, or stays under way. -/
def State.goOn (f : Fin 33) (l : List Byte) (a : Ans) : State :=
  if a.ready then (a.s.completeCmd f l a.st a.value a.detail).settleRing f 4096
  else if a.started then a.s.modFn f (fun x => { x with cmd := l })
  else a.s

/-- The command of an OPC that is at the head of a function's ring, or under way: `run` tells its effect, its first argument
whether it starts. -/
def State.command (s : State) (f : Fin 33) (opc n : Nat) (run : Bool → State → List Byte → Ans) : State :=
  let cmd := (vget s.fns f).cmd
  if s.cmdOn f then (if fieldAt cmd 0 1 = opc then State.goOn f cmd (run false s cmd) else s)
  else if !s.takesCmd f then s
  else
    let (t, l) := s.headEntry f
    if fieldAt l 0 1 ≠ opc then s
    else if !knownOpc f opc ∨ entryBad l n then State.goOn f l (reply t csBAD_COMMAND)
    else State.goOn f l (run true t l)

/-! ### Doorbells (15 R521-R523, R531) -/

/-- A doorbell that is ignored as wrong. -/
def State.dbErr (s : State) (f : Fin 33) : State := s.put F.HIF_STATUS_DB_ERR f.val 0 1

/-- A doorbell of an OPEN function raises the device out of HOLD (17 R575). -/
def State.dbRaise (s : State) : State := if s.pstate = 2 then s.raise (some (26, false)) else s

/-- SUBMISSION_TAIL. -/
def State.subTail (s : State) (f : Fin 33) (i : Nat) : State :=
  let x := vget s.fns f
  let n := 2 ^ x.sq.log2
  if n ≤ i ∨ n ≤ x.sq.used + (i + n - x.sq.tail) % n then s.dbErr f
  else ((s.modFn f (fun x => { x with sq := { x.sq with tail := i } })).dbRaise).settleRing f 4096

/-- COMPLETION_HEAD. -/
def State.complHead (s : State) (f : Fin 33) (i : Nat) : State :=
  let x := vget s.fns f
  let n := 2 ^ x.cq.log2
  if n ≤ i ∨ x.cq.used < (i + n - x.cq.head) % n then s.dbErr f
  else ((s.modFn f (fun x => { x with cq := { x.cq with head := i } })).dbRaise).settleRing f 4096

/-- EVENT_HEAD. -/
def State.eventHead (s : State) (f : Fin 33) (i : Nat) : State :=
  let x := vget s.fns f
  let n := 2 ^ x.eq.log2
  if n ≤ i ∨ x.eq.used < (i + n - x.eq.head) % n then s.dbErr f
  else (s.modFn f (fun x => { x with eq := { x.eq with head := i } })).dbRaise

/-- HEARTBEAT (15 R531; 09 R287): of the PF, after its attach and outside HOST_LOST. -/
def State.heartbeat (s : State) (f : Fin 33) : State :=
  if f.val = 0 ∧ (vget s.fns f).st = .open_ ∧ s.host.lostAt = none then { s with host := { s.host with monitored := true } } else s

/-- A doorbell (15 R523): served while OPEN, recorded while QUIESCED (15 R538), ignored otherwise. -/
def State.doorbell (s : State) (f : Fin 33) (kind i : Nat) : State :=
  if !s.fnServed f then s
  else if kind = 3 then s.heartbeat f
  else match (vget s.fns f).st with
    | .open_ => if kind = 0 then s.subTail f i else if kind = 1 then s.complHead f i else s.eventHead f i
    | .quiesced => s.modFn f (fun x => { x with doorbells := x.doorbells ++ [kind * 2 ^ 30 + i] })
    | _ => s

/-! ### Checks of arguments (15 R526; 01 R21) -/

/-- The first status of two that is not OK. -/
def orElse (a b : Nat) : Nat := if a = csOK then b else a

/-- A command of the PF only. -/
def pfOnly (f : Fin 33) : Nat := if f.val = 0 then csOK else csDENIED_AUTHORITY

/-- A cabinet that a function's command names: its own, or with `any` for the PF every host cabinet; on the island page a
flash-launched one. -/
def State.cabArg (s : State) (f : Fin 33) (n : Nat) (any : Bool) : Nat :=
  let b := s.cab (cabId n)
  if 8 ≤ n then csBAD_COMMAND
  else if !b.live then csNOT_FOUND
  else if f.val = 32 then (if b.flash then csOK else csDENIED_AUTHORITY)
  else if b.flash then csDENIED_AUTHORITY
  else if b.fn = f.val ∨ (any ∧ f.val = 0) then csOK else csDENIED_AUTHORITY

/-- A VF that a command names. -/
def State.vfArg (s : State) (n : Nat) : Nat :=
  if n = 0 ∨ 31 < n then csBAD_COMMAND else if s.fnExists n then csOK else csNOT_FOUND

/-- Function number `n`. -/
def fnId (n : Nat) : Fin 33 := fin 33 (by decide) n

/-- A command of the PF that names a VF: `run` gets the VF. It waits for a reset of the VF (15 R541). -/
def vfCommand (f : Fin 33) (run : Bool → State → List Byte → Fin 33 → Ans) (first : Bool) (s : State) (l : List Byte) : Ans :=
  let n := argOf l 0
  let st := if n = 0 ∨ 31 < n then csBAD_COMMAND else orElse (pfOnly f) (s.vfArg n)
  if first ∧ st ≠ csOK then reply s st
  else if first ∧ (vget s.fns (fnId n)).st = .resetting then hold s
  else run first s l (fnId n)

/-! ### Commands (15 R524) -/

/-- NOP. -/
def cmdNop (_ : Bool) (s : State) (_ : List Byte) : Ans := reply s csOK

/-- CABINET_CREATE (15 R527): it waits while SEC restarts (14 R488). -/
def cmdCabinetCreate (f : Fin 33) (first : Bool) (s : State) (l : List Byte) : Ans :=
  if first ∧ pfOnly f ≠ csOK then reply s csDENIED_AUTHORITY
  else if s.sec.restarting ∧ !s.flag F.SEC_STATUS_HALTED then hold s
  else match s.argAddr f none (argOf l 0) 128 with
    | none => reply s csWINDOW
    | some a =>
      let (s, r) := s.fabRead .sch a 128
      if r.st ≠ stOK then reply s csWINDOW
      else
        let (s, st, n) := s.createCab r.data none false false 0
        reply s st n

/-- Whether the contexts that an abort names are gone. -/
def State.abortedAll (s : State) (c : CabId) (x : Option CtxId) : Bool :=
  match x with
  | some x => (s.cab c).aborting.all (fun p => p.1 != x)
  | none => (s.cab c).aborting.isEmpty

/-- CABINET_DESTROY (15 R525). -/
def cmdCabinetDestroy (f : Fin 33) (first : Bool) (s : State) (l : List Byte) : Ans :=
  let c := cabId (argOf l 0)
  let st := if 8 ≤ argOf l 0 then csBAD_COMMAND else orElse (pfOnly f) (s.cabArg f (argOf l 0) true)
  if first ∧ st ≠ csOK then reply s st
  else
    let s := if first then s.destroyCab c else s
    if (s.cab c).after = .destroy then later s else reply s csOK

/-- CONTEXT_CREATE (09 R262, R263). -/
def cmdContextCreate (f : Fin 33) (_ : Bool) (s : State) (l : List Byte) : Ans :=
  let st := s.cabArg f (argOf l 0) false
  if st ≠ csOK then reply s st
  else
    let (s, st, x) := s.createContext (cabId (argOf l 0)) (argOf l 1)
    reply s st x

/-- An abort of a named context or, for 0xFF, of every context, which completes once it is over (09 R280-R283). One that comes between a
fence of an engine of the cabinet and its remap, or waited when the engine was fenced, has no effect and completes with FENCED (01
R26). -/
def State.cmdAbortOf (s : State) (c : CabId) (x : Option CtxId) (first : Bool) : Ans :=
  if (s.cab c).lost ≠ [] then reply s csFENCED
  else
    let s := if first then s.abort c x else s
    if s.abortedAll c x then reply s csOK else later s

/-- FENCE: an engine is fenced, and the aborts of contexts of its cabinet that waited complete with FENCED (01 R26). -/
def State.fenceStep (s : State) (k : EngineId) : State :=
  match (if (s.eng k).fencePending then s.holder k.val else none) with
  | none => s.fence k
  | some c => (List.finRange 33).foldl (fun (s : State) f =>
      let cmd := (vget s.fns f).cmd
      let opc := fieldAt cmd 0 1
      if s.cmdOn f ∧ (opc = 4 ∨ opc = 6) ∧ argOf cmd 0 = c.val then (s.completeCmd f cmd csFENCED 0 0).settleRing f 4096
      else s) (s.fence k)

/-- Whether a context exists and is not being aborted. -/
def State.ctxHere (s : State) (c : CabId) (n : Nat) : Bool :=
  match s.ctx? c (ctxId n) with
  | some t => t.st != .aborting
  | none => false

/-- CONTEXT_DESTROY (15 R525). -/
def cmdContextDestroy (f : Fin 33) (first : Bool) (s : State) (l : List Byte) : Ans :=
  let c := cabId (argOf l 0)
  let st := if 72 ≤ argOf l 1 then csBAD_COMMAND
    else orElse (s.cabArg f (argOf l 0) false) (if s.ctxHere c (argOf l 1) then csOK else csNOT_FOUND)
  if first ∧ st ≠ csOK then reply s st else s.cmdAbortOf c (some (ctxId (argOf l 1))) first

/-- ABORT (09 R280-R283). -/
def cmdAbort (f : Fin 33) (first : Bool) (s : State) (l : List Byte) : Ans :=
  let c := cabId (argOf l 0)
  let all := argOf l 1 == 0xFF
  let st := if !all ∧ 72 ≤ argOf l 1 then csBAD_COMMAND
    else orElse (s.cabArg f (argOf l 0) true) (if all || s.ctxHere c (argOf l 1) then csOK else csNOT_FOUND)
  if first ∧ st ≠ csOK then reply s st else s.cmdAbortOf c (if all then none else some (ctxId (argOf l 1))) first

/-- JOB_SUBMIT (09 R265-R267, R278; 17 R572, R576). -/
def cmdJobSubmit (f : Fin 33) (_ : Bool) (s : State) (l : List Byte) : Ans :=
  let c := cabId (argOf l 0)
  let st := s.cabArg f (argOf l 0) false
  if st ≠ csOK then reply s st
  else if (s.argAddr f (some c) (argOf l 1) 64).isNone then reply s csWINDOW
  else
    let (s, st, n) := s.submit c (argOf l 1) none
    if st ≠ csOK then reply s st else reply (((s.evictLog c).wakeReady).wakeCab c) csOK n

/-- SET_VF_WINDOW (15 R510): a base, or 0 to withdraw. -/
def cmdSetWindow (_ : Bool) (s : State) (l : List Byte) (v : Fin 33) : Ans :=
  let a := argOf l 1
  let n := 2 ^ s.winLog2
  let free := hostFns.all (fun g => g == v || (match (vget s.fns g).win with | some w => decide (a + n ≤ w ∨ w + n ≤ a) | none => true))
  if a = 0 then reply (s.modFn v (fun x => { x with win := none })) csOK
  else if a % n = 0 ∧ 0x100000000 ≤ a ∧ a + n ≤ s.lpddrEnd ∧ !s.secureAddr a ∧ free then
    reply (s.modFn v (fun x => { x with win := some a })) csOK
  else reply s csWINDOW

/-- LOG_DIRTY_START (15 R536). -/
def cmdDirtyStart (_ : Bool) (s : State) (l : List Byte) (v : Fin 33) : Ans :=
  let span := argOf l 3
  if span % 32768 ≠ 0 ∨ 2 ^ 38 < span ∨ argOf l 1 % 4096 ≠ 0 ∨ argOf l 2 % 4096 ≠ 0 then reply s csBAD_COMMAND
  else if !s.reach 0 (argOf l 1) (span / 32768) ∨ !s.reach 0 (argOf l 2) (span / 32768) then reply s csWINDOW
  else reply (s.modFn v (fun x => { x with dirty := some ⟨argOf l 1, argOf l 2, span, false, 0⟩ })) csOK

/-- The number of the active bitmap of a log (15 R536; notes/assumptions/93.md). -/
def Dirty.active (d : Dirty) : Nat := b2n d.active1

/-- LOG_DIRTY_SYNC (15 R536, R537). -/
def cmdDirtySync (_ : Bool) (s : State) (_ : List Byte) (v : Fin 33) : Ans :=
  match (vget s.fns v).dirty with
  | none => reply s csVF_STATE
  | some d => reply (s.modFn v (fun x => { x with dirty := some { d with active1 := !d.active1 } })) csOK d.active d.beyond

/-- LOG_DIRTY_STOP (15 R536). -/
def cmdDirtyStop (_ : Bool) (s : State) (_ : List Byte) (v : Fin 33) : Ans :=
  match (vget s.fns v).dirty with
  | none => reply s csVF_STATE
  | some d => reply (s.modFn v (fun x => { x with dirty := none })) csOK d.active

/-- The cabinets of a function. -/
def State.fnCabs (s : State) (f : Fin 33) : List CabId := (List.finRange 8).filter (fun c => s.cabOfFn f c)

/-- Whether every context of a cabinet is in its save area, or can never be stored again. -/
def State.storedAll (s : State) (c : CabId) : Bool :=
  (s.residents c).isEmpty || (s.cab c).degraded || !(s.cab c).lost.isEmpty

/-- VF_QUIESCE (15 R538 step 2): it completes once every context of the VF's cabinets is stored. -/
def cmdQuiesce (first : Bool) (s : State) (_ : List Byte) (v : Fin 33) : Ans :=
  if first ∧ (vget s.fns v).st ≠ .open_ then reply s csVF_STATE
  else
    let s := if first then s.setFn v .quiesced 0 else s
    if (s.fnCabs v).all s.storedAll then reply s csOK else later s

/-- VF_UNQUIESCE (15 R538 step 7): the recorded doorbells are served. -/
def cmdUnquiesce (_ : Bool) (s : State) (_ : List Byte) (v : Fin 33) : Ans :=
  let x := vget s.fns v
  if x.st ≠ .quiesced then reply s csVF_STATE
  else
    let s := (s.modFn v (fun x => { x with doorbells := [] })).setFn v .open_ 0
    reply (x.doorbells.foldl (fun s d => s.doorbell v (d / 2 ^ 30) (d % 4096)) s) csOK

/-! ### Migration (15 R538-R540) -/

/-- The saved state of a cabinet (15 R539). -/
def State.saveCab (s : State) (c : CabId) : SavedCab :=
  let b := s.cab c
  { body := b.body
    sems := b.sems
    ctxs := (List.finRange 72).filterMap (fun x => (vget b.ctxs x).map (fun t => (x, t)))
    share := (s.shareOf c).map (fun n => vget s.shares n)
    queues := (recQueues b.body).map (fun q =>
      (queueId q.1, vget s.sn.queues (queueId q.1), s.mem.readBytes (s.qKey (queueId q.1) 0) (64 * s.qDepth (queueId q.1))))
    poison := s.sn.poison.filter (fun p => p.1.cab == c) }

/-- Entries and flits of a saved cabinet. -/
def SavedCab.entries (b : SavedCab) : Nat := match b.share with | some h => h.entries.length | none => 0
/-- Queued flits of a saved cabinet. -/
def SavedCab.flits (b : SavedCab) : Nat := b.queues.foldl (fun n q => n + q.2.1.slots.length) 0

/-- The saved state of a VF (15 R539), with its free size within the bound of R539. -/
def State.vfImage (s : State) (v : Fin 33) : State × VfImage :=
  let x := vget s.fns v
  let cabs := (s.fnCabs v).map s.saveCab
  let bound := cabs.foldl (fun n b => n + 12 * b.entries + 64 * b.flits) (4 * 2 ^ 20)
  let (c, s) := s.nextFree
  (s, { major := s.rd F.HIF_VERSION_FW_MAJOR v.val
        winLog2 := s.winLog2
        win := x.win.getD 0
        size := Config.vfImageSize c % (bound + 1)
        drv := s.rd { reg := R.HIF_VERSION, hi := 15, lo := 0 } v.val
        sq := x.sq
        cq := x.cq
        eq := x.eq
        evLost := x.evLost
        lostNext := x.lostNext
        doorbells := x.doorbells
        cabs := cabs })

/-- SAVE_VF_STATE (15 R538 step 5): after its first step it can still be ended by an FLR (15 R541). -/
def cmdSaveVf (first : Bool) (s : State) (l : List Byte) (v : Fin 33) : Ans :=
  if first ∧ (vget s.fns v).st ≠ .quiesced then reply s csVF_STATE
  else if first then later s
  else
    let a := argOf l 1
    let (t, m) := s.vfImage v
    if 2 ^ 38 < a + argOf l 2 ∨ !(vget s.fns 0).bme ∨ !s.linkUp then reply s csWINDOW
    else if argOf l 2 < m.size then reply t csBUFFER_SHORT m.size
    else
      let (c, t) := t.nextFree
      let bytes := (List.range m.size).map (fun i => Config.freeByte c i)
      reply { t with
        hostOut := (0, a, bytes) :: t.hostOut
        host := { t.host with images := (a, m) :: t.host.images } } csOK m.size

/-- A list of bytes with those of `new` from offset `o` on. -/
def overlay (l : List Byte) (o : Nat) (new : List Byte) : List Byte := l.take o ++ new ++ l.drop (o + new.length)

/-- A saved record with its assignment and its window at the destination (15 R540): ENGINES, SB_BASE and RANKMAP replaced, and
the region and the queue bases moved. -/
def movedRecord (body : List Byte) (e : List Byte) (oldWin newWin : Nat) : List Byte :=
  let sb := fieldAt e 2 2
  let l := overlay body 8 (e.take 2)
  let l := overlay l 16 (leBytes (fieldAt body 16 8 + newWin - oldWin) 8)
  let l := overlay l 72 ((e.drop 8).take 8)
  let l := (List.range 4).foldl (fun l i =>
    if bit (fieldAt body (80 + 8 * i) 1) 7 then
      overlay l (82 + 8 * i) (leBytes (fieldAt body (82 + 8 * i) 2 + sb + 65536 - fieldAt body 32 2) 2)
    else l) l
  overlay l 32 (leBytes sb 2)

/-- A saved cabinet put into the cabinet that was created for it. -/
def State.fillCab (s : State) (c : CabId) (b : SavedCab) : State :=
  let s := s.modCab c (fun x => { x with
    sems := b.sems
    ctxs := b.ctxs.foldl (fun v p => vmod v p.1 (fun _ => some p.2)) x.ctxs })
  let s := match s.shareOf c, b.share with
    | some n, some h => s.modShare n (fun _ => h)
    | _, _ => s
  let own : EpName → EpName := fun n => { n with cab := c }
  let s := b.queues.foldl (fun s q =>
    let s := s.modQueue q.1 (fun _ => { q.2.1 with
      slots := q.2.1.slots.map (fun y => { y with owner := own y.owner })
      requests := q.2.1.requests.map (fun r => (own r.1, r.2))
      lastServed := q.2.1.lastServed.map own })
    { s with mem := s.mem.writeBytes (s.qKey q.1 0) q.2.2 }) s
  { s with sn := { s.sn with poison := s.sn.poison ++ b.poison.map (fun p => (own p.1, p.2)) } }

/-- The saved cabinets of an image created in turn with their assignments; the first status other than OK. -/
def State.restoreCabs (s : State) (v : Fin 33) (oldWin newWin : Nat) : List (SavedCab × List Byte) → State × Nat
  | [] => (s, csOK)
  | p :: rest =>
    let l := overlay (movedRecord p.1.body p.2 oldWin newWin) 0 [BitVec.ofNat 8 v.val]
    let (s, st, n) := s.createCab l none false false 0
    if st ≠ csOK then (s, st) else (s.fillCab (cabId n) p.1).restoreCabs v oldWin newWin rest

/-- RESTORE_VF_STATE (15 R540): `image` is what the host buffer holds. A restore that fails changes nothing. -/
def cmdRestoreVf (image : VfImage) (first : Bool) (s : State) (l : List Byte) (v : Fin 33) : Ans :=
  let x := vget s.fns v
  let n := image.cabs.length
  if first ∧ (x.st ≠ .detached ∨ x.win.isNone ∨ !(s.fnCabs v).isEmpty) then reply s csVF_STATE
  else if first then later s
  else match s.argAddr 0 none (argOf l 3) (16 * n) with
    | none => reply s csWINDOW
    | some a =>
      let (s, list) := s.readOrFree .sch a (16 * n)
      let es := (List.range n).map (fun i => (list.drop (16 * i)).take 16)
      if 2 ^ 38 < argOf l 1 + argOf l 2 ∨ !(vget s.fns 0).bme ∨ !s.linkUp then reply s csWINDOW
      else if es.any (fun e => fieldAt e 4 4 != 0) then reply s csBAD_COMMAND
      else if image.major ≠ s.rd F.HIF_VERSION_FW_MAJOR v.val ∨ image.winLog2 ≠ s.winLog2
          ∨ (image.cabs.zip es).any (fun p => (recEngines p.1.body).length != (recEngines (overlay p.1.body 8 (p.2.take 2))).length) then
        reply s csMIGRATE_MISMATCH
      else if argOf l 2 < image.size then reply s csBUFFER_SHORT image.size
      else
        let t := s.modFn v (fun x => { x with
          sq := image.sq
          cq := image.cq
          eq := image.eq
          evLost := image.evLost
          lostNext := image.lostNext
          doorbells := image.doorbells })
        let (t, st) := (t.setFn v .quiesced 0).restoreCabs v image.win (x.win.getD 0) (image.cabs.zip es)
        if st ≠ csOK then reply s st
        else reply (t.put { reg := R.HIF_VERSION, hi := 15, lo := 0 } v.val 0 image.drv) csOK

/-- VF_FLR (15 R534, R541): a save or a restore of the VF that is under way completes with VF_RESET. -/
def State.vfReset (s : State) (f : Fin 33) : State :=
  let cmd := (vget s.fns 0).cmd
  let opc := fieldAt cmd 0 1
  let s := s.vfFlr f
  if !cmd.isEmpty ∧ (opc = 0x16 ∨ opc = 0x17) ∧ argOf cmd 0 = f.val ∧ f.val ≠ 0 then
    (s.completeCmd 0 cmd csVF_RESET 0 0).settleRing 0 4096
  else s

/-! ### Relays (14 R483, R484; 17 R569-R571) -/

/-- SEC_SERVICE: the request record goes to mailbox 3, and the command completes with SEC's response. -/
def cmdSecService (f : Fin 33) (first : Bool) (s : State) (l : List Byte) : Ans :=
  let a := argOf l 0
  if first then
    if pfOnly f ≠ csOK then reply s csDENIED_AUTHORITY
    else match s.argAddr f none a 64 with
      | none => reply s csWINDOW
      | some _ => if 16 ≤ (vget s.sec.queues 3).length then hold s else later (s.enqueue 3 a)
  else if (vget s.sec.queues 3).any (fun q => q.addr == a) then later s
  else
    let (s, r) := s.readOrFree (.mbox false) a 64
    let (s, q) := s.readOrFree (.mbox false) (fieldAt r 8 8) 16
    let st := fieldAt q 4 1
    reply s (if st = svUNAVAILABLE then csSERVICE_UNAVAILABLE else csOK) st

/-- POWER_REQUEST: relayed to PMC by SCH, as a Normal request (14 R479, R480; 17 R570, R571). -/
def cmdPower (f : Fin 33) (first : Bool) (s : State) (l : List Byte) : Ans :=
  if first then
    if s.bankBusy 4 then hold s
    else
      let s := s.pmcSubmit 4 (argOf l 0) (some f)
      if s.bankBusy 4 then later s else reply s (vget s.pmc.status 4)
  else if s.bankBusy 4 then later s else reply s (vget s.pmc.status 4)

/-! ### Island cabinet commands (09 R288) -/

/-- A command of the island page only that names a flash-launched cabinet. -/
def islandCommand (f : Fin 33) (run : Bool → State → CabId → Ans) (first : Bool) (s : State) (l : List Byte) : Ans :=
  let n := argOf l 0
  let st := if 8 ≤ n then csBAD_COMMAND else if f.val ≠ 32 then csDENIED_AUTHORITY else s.cabArg f n false
  if first ∧ st ≠ csOK then reply s st else run first s (cabId n)

/-- CABINET_STOP: it completes once every context is stored. -/
def cmdCabStop (first : Bool) (s : State) (c : CabId) : Ans :=
  let s := if first then s.modCab c (fun b => { b with stopped := true }) else s
  if s.storedAll c then reply s csOK else later s

/-- CABINET_START: deadlines are measured from here, and the cyclic table waits for the next opening pulse. -/
def cmdCabStart (_ : Bool) (s : State) (c : CabId) : Ans :=
  if !(s.cab c).stopped then reply s csOK
  else
    let now := s.itu
    reply (s.modCab c (fun b => { b with
      stopped := false
      due := []
      ctxs := b.ctxs.map (fun o => o.map (fun t => { t with jobs := t.jobs.map (fun j => { j with origin := now }) })) })) csOK

/-- What CABINET_RESTART does once every context is gone. -/
def State.rebuildCab (s : State) (c : CabId) : State × Nat :=
  let s := (s.emptyQueues c).modCab c (fun b => { b with sems := Vector.replicate 64 0, due := [] })
  let s := match s.shareOf c with
    | some n => s.modShare n Share.cleared
    | none => s
  match (s.cab c).manifest with
  | none => (s, csOK)
  | some i =>
    let e := s.manifestEntry i
    s.launchContexts c (fieldAt e 168 8) (fieldAt e 176 2)

/-- CABINET_RESTART. -/
def cmdCabRestart (first : Bool) (s : State) (c : CabId) : Ans :=
  let s := if first then s.abort c none else s
  if s.abortedAll c none then
    let (s, st) := s.rebuildCab c
    reply s st
  else later s

end Sys2Proof.Machine
end

