-- ==== Sys2Proof/Machine/RegWrite.lean ====
section
/-! DEFINITION. Register accesses (00 R5-R13; 19 R609-R630): where a register lies, who writes it, what a write and a read
of it do. -/

namespace Sys2Proof.Machine

/-- Whether a register is the named one. -/
def RegDef.is (r q : RegDef) : Bool := r.base == q.base

/-! ### Where registers lie (19 R609, R610, R613, R616) -/

/-- The domains of the block at an address, any of which serves it; none where nothing is mapped. -/
def regDomain (a : Nat) : Option (List Nat) :=
  let at_ := fun (b n : Nat) => decide (b ≤ a) && decide (a < b + n)
  if at_ 0x40000000 0x10000 then some [61]
  else if at_ 0x40010000 0x1000 then some [32]
  else if at_ 0x40020000 0x10000 then some [32]
  else if at_ 0x40030000 0x1000 then some [0]
  else if at_ 0x40040000 0x10000 then some [61]
  else if at_ 0x40050000 0x10000 then some [31]
  else if at_ 0x40060000 0x1000 then some [28, 29]
  else if at_ 0x40070000 0x1000 then some [20, 21, 22, 23]
  else if at_ 0x40080000 0x100 then some [49, 50, 51, 52]
  else if at_ 0x40080100 0x100 then some [53, 54, 55]
  else if at_ 0x40080200 0x100 then some [49, 50, 51, 52, 53, 54, 55]
  else if at_ 0x40080300 0xD00 then some [30]
  else if at_ 0x40090040 0x20 then some [0]
  else if at_ 0x40090000 0x1000 then some [61]
  else if at_ 0x400A0000 0x1000 then some [60]
  else if at_ 0x400B0000 0x10000 then some [59]
  else if at_ 0x400C0000 0x1000 then some [61]
  else if at_ 0x400D0000 0x10000 then some [62]
  else if at_ 0x40100000 0x100000 then some [4 + (a - 0x40100000) / 0x10000]
  else if at_ 0x40200000 0x100000 then some [42]
  else if at_ 0x20000000 0x3000 then some [3]
  else if at_ 0x20010000 0xC000 then some [3]
  else if at_ 0x20020000 0x1000 then some [3]
  else if at_ 0x20021000 0x2000 then some [3]
  else if at_ 0x20023000 0x1000 then some [56]
  else if at_ 0x20024000 0x1000 then some [57 + (a - 0x20024000) / 0x800]
  else if at_ 0x20025000 0x1000 then some [3]
  else none

/-- Whether an address lies in the Cabin Bus window (19 R616). -/
def inCabin (a : Nat) : Bool := decide (0x20000000 ≤ a) && decide (a < 0x24000000)

/-- The register bank of PMC_REQ by requester (17 R571): one copy of the pair for each bank. -/
def pmcBank : RegDef := ⟨.pmc, 0x1000000100000, 9, 8, 1, 0, true, [⟨63, 0, .rw, .live, 0, []⟩]⟩

/-- The copy's own index: the XL registers of CAN10 and CAN11 are two copies of one register (19 R617). -/
def RegDef.copy (r : RegDef) (i : Nat) : Nat := if r.is R.CAN_XBT || r.is R.CAN_XPWM then i + 10 else i

/-! ### Who writes (19 R614) -/

/-- Whether a master's write of a field of copy `i` of a register takes effect: the writer rules of 02 R56, 07 R198, 08 R256,
09 R287, R290, 10 R335, 11 R336, 12 R415, 13 R429, R444, R449, R458, 14 R476, R478, R483, R505, 15 R514, 16 R563, 17 R595, 18 R607 and
19 R618, R619, R624, R626-R629. -/
def State.mayWrite (s : State) (m : Master) (r : RegDef) (i : Nat) (f : FieldDef) : Bool :=
  let isl := (match m with | .isl _ => true | _ => false)
  let islS := s.islSecure m
  let sec := m == .sec
  let sch := m == .sch
  let w1c := f.acc == .w1c
  match r.blk with
  | .glob => false
  | .boot => sec || (r.is R.BOOT_RCV && m == .pcie 0 && s.stage == 8)
  | .sec =>
    if r.is R.SEC_MBOX_REQ then true
    else if r.is R.SEC_MBOX_STAT then sec || islS || (if h : i < 4 then s.ownsMbox m ⟨i, h⟩ else false)
    else sec || (w1c && islS)
  | .pmc =>
    if r.is R.PMC_REQ then (s.bankOf m (i == 1)).isSome
    else if r.is R.PMC_SEC_INUSE then s.worldOf m
    else if r.is R.PMC_CAUSE then sec
    else if r.is R.PMC_MON then isl || sch
    else islS
  | .mem =>
    if w1c || r.is R.MEM_LINK_CNT then true
    else if r.is R.MEM_CFG then sec
    else if r.is R.MEM_INJ then sec || islS
    else if r.is R.SBUF_SHARE then sch
    else if r.is R.QOS_M_BUDGET then sec || isl || (sch && decide (i < 16))
    else sec || isl
  | .sch => sch
  | .cmu => sch
  | .sn => sch
  | .vid => isl || sec
  | .ga => isl || sec
  | .time => isl || sec
  | .trs => isl
  | .xspi => sec || (islS && (w1c || r.is R.XSPI_CMD || r.is R.XSPI_ADDR || r.is R.XSPI_LEN || r.is R.XSPI_DATA))
  | .emmc => sec || sch || islS
  | .gperf => m == .pcie 0 || isl || sch
  | .dbg => if r.is R.DBG_CTRL then sec else true
  | .te => if i = 16 then isl else engWriter m (engId i)
  | .tep => m == .pcie 0 || isl || sch
  | .sw => isl || sec
  | .islc => if r.is R.ISL_WDOG_KICK then true else if r.is R.ISL_INT_WORLD then islS else isl
  | .arb => isl
  | .bb => isl || sec
  | .can => true
  | .lin => true
  | .gpio => true
  | .tmr => true
  | .ie => isl
  | .hb => isl || (sec && !s.isl.running)
  | .eth => isl
  | .hif => if i = 32 ∨ r.is R.ISL_CMD_VEC then islS else (match m with | .pcie f => f.val == i | _ => false)

/-- Whether any field of a register takes a write of a master. -/
def State.mayWriteAny (s : State) (m : Master) (r : RegDef) (i : Nat) : Bool := r.fields.any (fun f => s.mayWrite m r i f)

/-! ### Static fields (00 R11; 19 R621, R623) -/

/-- Whether the block that owns the Static fields of a copy is stopped. -/
def State.blockStopped (s : State) (r : RegDef) (i j : Nat) : Bool :=
  match r.blk with
  | .te =>
    if r.is R.TE_CTRL then (s.eng (engId i)).st == .stopped
    else (s.eng (engId i)).active != some (fin8 j) && (s.drw (engId i) (fin8 j)).sb.isEmpty
  | .cmu => !s.flag F.CMU_SHARE_CFG_EN i
  | .sn => if r.is R.SN_Q_CFG || r.is R.SN_Q_GEOM then !s.flag F.SN_Q_CFG_EN i else (s.cab (cabId i)).act.isNone
  | .sch => !s.flag F.SCH_CAB_CFG_EN i
  | .vid => if r.is R.MIR_O_CFG then !s.flag F.MIR_O_CFG_EN i else !s.flag F.CSI_S_CFG_EN i
  | .ga => !s.flag F.GA_CFG_EN
  | .mem => if r.is R.SBUF_SHARE then !s.flag F.SBUF_SHARE_EN i else !s.flag F.MEM_CFG_EN
  | .arb => !s.flag F.ARB_CFG_EN
  | .bb => !s.flag F.BB_RANGE_EN i
  | .sec => if r.is R.SEC_CAB then !s.flag F.SCH_CAB_CFG_EN i else !s.flag F.SEC_LKR_BASE_VALID i
  | .hif => (vget s.fns (fin 33 (by decide) i)).st != .open_
  | .can => !s.flag F.CAN_CTRL_EN (r.copy i)
  | .lin => !s.flag F.LIN_CTRL_EN i
  | .xspi => !s.flag F.XSPI_CFG_EN
  | .emmc => !s.flag F.EMMC_CFG_EN
  | .hb => !s.flag F.HB_CFG_EN i
  | .eth => !s.flag F.ETH_CFG_EN
  | _ => true

/-- The CFG_WHILE_RUN bit of the block (19 R621) set; a CAN controller's error interrupt is CAN_IRQ[2]. -/
def State.cfgWhileRun (s : State) (r : RegDef) (i : Nat) : State :=
  match r.blk with
  | .te => s.put F.TE_ERR_CFG_WHILE_RUN i 0 1
  | .cmu => s.put0 F.CMU_ERR_CFG_WHILE_RUN 1
  | .sn => s.put0 F.SN_ERR_CFG_WHILE_RUN 1
  | .sch => s.put0 F.SCH_ERR_CFG_WHILE_RUN 1
  | .vid => s.put0 F.VIO_ERR_CFG_WHILE_RUN 1
  | .ga => s.put0 F.GA_ERR_CFG_WHILE_RUN 1
  | .mem => s.put0 F.MEM_ERR_CFG_WHILE_RUN 1
  | .arb => s.put0 F.ARB_ERR_CFG_WHILE_RUN 1
  | .bb => s.put0 F.BB_ERR_CFG_WHILE_RUN 1
  | .sec => s.put0 F.SEC_ERR_CFG_WHILE_RUN 1
  | .hif => s.put F.HIF_STATUS_CFG_WHILE_RUN i 0 1
  | .can => (s.put F.CAN_STAT_CFG_WHILE_RUN (r.copy i) 0 1).canIrq (fin 12 (by decide) (r.copy i)) 2
  | .lin => s.put F.LIN_STAT_CFG_WHILE_RUN i 0 1
  | .xspi => s.put0 F.XSPI_STAT_CFG_WHILE_RUN 1
  | .emmc => s.put0 F.EMMC_STAT_CFG_WHILE_RUN 1
  | .hb => s.put F.HB_STAT_CFG_WHILE_RUN i 0 1
  | .eth => s.put0 F.ETH_IRQ_CFG_WHILE_RUN 1
  | _ => s

/-- The bit that starts and stops the block of a register with Static fields beside it. -/
def startBit (r : RegDef) : Option Nat :=
  if r.is R.SBUF_SHARE || r.is R.BB_RANGE || r.is R.SEC_LKR_BASE then some 63
  else if r.is R.CMU_SHARE_CFG || r.is R.SN_Q_CFG || r.is R.CSI_S_CFG || r.is R.MIR_O_CFG || r.is R.GA_CFG || r.is R.CAN_CTRL
    || r.is R.LIN_CTRL || r.is R.XSPI_CFG || r.is R.EMMC_CFG || r.is R.HB_CFG || r.is R.ETH_CFG || r.is R.SCH_CAB_CFG then some 31
  else none

/-! ### A write's fields (00 R6, R9-R13) -/

/-- Whether a value is an encoding that the field's table does not reserve (00 R9). -/
def FieldDef.takes (f : FieldDef) (n : Nat) : Bool := f.legal.isEmpty || f.legal.any (fun p => decide (p.1 ≤ n) && decide (n ≤ p.2))

/-- The largest LIMIT of watermark `k` (14 R465). -/
def wmMax (k : Nat) : Nat := nth 0 [63488, 4096, 8192, 1024] k

/-- The event codes of shared unit `u`: 0 Stream Buffer, 1 CMU, 2 fabric, 3 memory (18 R606). -/
def unitCodes (u : Nat) : List Nat :=
  0x01 :: nth [] [[0x10, 0x11, 0x12, 0x13], [0x20, 0x21, 0x22, 0x23], [0x30, 0x31, 0x32], [0x40, 0x41, 0x42, 0x43, 0x44]] u

/-- Whether a field of copy `i` takes a value: what the field's table, or a table of the copy, does not reserve (00 R9). -/
def takesAt (r : RegDef) (i : Nat) (f : FieldDef) (n : Nat) : Bool :=
  f.takes n && (if r.is R.SEC_WM && f.hi == 23 then decide (n ≤ wmMax i)
    else if r.is R.PERF_SEL && f.hi == 7 then (unitCodes i).contains n else true)

/-- One field of a write: Live and Shadowed fields take the value, Static ones while the block is stopped, a one clears. -/
def State.writeField (s : State) (r : RegDef) (i j : Nat) (halted : Bool) (v : Nat) (f : FieldDef) : State :=
  let g : Fld := ⟨r, f.hi, f.lo⟩
  let n := bits v f.hi f.lo
  let old := s.rd g i j
  match f.acc with
  | .ro => s
  | .wo => s
  | .w1c => s.put g i j (old &&& ((2 ^ (f.hi + 1 - f.lo) - 1) ^^^ n))
  | _ =>
    if f.cls = .static ∧ n ≠ old ∧ !halted then s.cfgWhileRun r i
    else if takesAt r i f n then s.put g i j n else s

/-- The fields that a start has rules of its own for, written after the others (19 R623). -/
def hookBit (r : RegDef) : Option Nat :=
  if r.is R.SBUF_SHARE || r.is R.BB_RANGE then some 63
  else if r.is R.SCH_CAB_CFG || r.is R.CMU_SHARE_CFG || r.is R.SN_Q_CFG || r.is R.CSI_S_CFG || r.is R.MIR_O_CFG || r.is R.GA_CFG || r.is R.TP_CFG
    || r.is R.MEM_CFG || r.is R.ARB_CFG || r.is R.ISL_WDOG_CFG then some 31
  else if r.is R.TE_CTRL then some 0
  else none

/-- Writes that a rule ignores as a whole: a drawer's window or allotment that reaches beyond the last page or block (02 R60; 04
R118), a bridge range or a queue that reaches beyond its space (13 R444; 08 R240), and locked registers (14). -/
def State.ignoresAll (s : State) (r : RegDef) (i v : Nat) : Bool :=
  if r.is R.TE_DRW_LM then decide (256 < bits v 7 0 + bits v 24 16)
  else if r.is R.TE_DRW_IB then decide (32 < bits v 4 0 + bits v 13 8)
  else if r.is R.BB_RANGE then decide (16384 < bits v 13 0 + bits v 46 32)
  else if r.is R.SN_Q_GEOM then decide (8192 < bits v 28 16 + bits v 8 0)
  else if r.is R.SEC_CFG then s.flag F.SEC_CFG_LOCK
  else if r.is R.SEC_WM then s.flag F.SEC_WM_LOCK i
  else false

/-- Whether SCH may enable cabinet `c`: none of its engines belongs to another cabinet or is fenced (09 R260), and its drawers
fit (09 R261). -/
def State.cabEnable (s : State) (c : CabId) : Bool :=
  let n := s.rd F.SCH_CAB_CFG_RES_MAX c.val
  (List.finRange 16).all (fun k => !bit (s.rd F.SCH_CAB_ENG_ENGINES c.val) k.val
      || ((s.eng (engId k.val)).ver != .fenced && (List.finRange 8).all (fun o => o == c
        || !((s.cab o).live || s.flag F.SCH_CAB_CFG_EN o.val) || !bit (s.rd F.SCH_CAB_ENG_ENGINES o.val) k.val)))
    && decide (n * s.rd F.SCH_CAB_CFG_WIN_PAGES c.val ≤ 256) && decide (n * s.rd F.SCH_CAB_CFG_IB_BLKS c.val ≤ 32)

/-- A start or a stop by the field of `hookBit`. -/
def State.startHook (s : State) (m : Master) (r : RegDef) (i : Nat) (on : Bool) : State :=
  if r.is R.SCH_CAB_CFG then s.put F.SCH_CAB_CFG_EN i 0 (b2n (on && (s.flag F.SCH_CAB_CFG_EN i || s.cabEnable (cabId i))))
  else if r.is R.CMU_SHARE_CFG then
    if on then s.shareEnable (fin8 i) else if s.flag F.CMU_SHARE_CFG_EN i then s.shareDisable (fin8 i) else s
  else if r.is R.SN_Q_CFG then
    if on then s.queueEnable (queueId i) else if s.flag F.SN_Q_CFG_EN i then s.queueDisable (queueId i) else s
  else if r.is R.CSI_S_CFG then
    let n := fin 16 (by decide) i
    if on then s.slotEnable n else if s.flag F.CSI_S_CFG_EN i then s.slotDisable n else s
  else if r.is R.MIR_O_CFG then
    let o := fin 2 (by decide) i
    if on then s.mirrorEnable o else if s.flag F.MIR_O_CFG_EN i then s.mirrorDisable o else s
  else if r.is R.GA_CFG then
    if on then s.gaEnable else if s.flag F.GA_CFG_EN then s.gaDisable else s
  else if r.is R.SBUF_SHARE then
    if on then s.sbufEnable (cabId i) else s.put F.SBUF_SHARE_EN i 0 0
  else if r.is R.BB_RANGE then
    if on then (if s.rd F.BB_RANGE_SIZE i = 0 then s else s.put F.BB_RANGE_EN i 0 1) else s.put F.BB_RANGE_EN i 0 0
  else if r.is R.TP_CFG then
    let n := fin8 i
    if on then (if s.flag F.TP_CFG_EN i then s else (s.put F.TP_CFG_EN i 0 1).pulseArm n)
    else (s.put F.TP_CFG_EN i 0 0).pulseDisarm n
  else if r.is R.MEM_CFG then
    if on && !s.flag F.MEM_CFG_EN then s.memStart else s
  else if r.is R.ARB_CFG then
    if on && !s.flag F.ARB_CFG_EN then (s.put0 F.ARB_CFG_EN 1).arbStart else s
  else if r.is R.ISL_WDOG_CFG then
    if on && !s.flag F.ISL_WDOG_CFG_EN i then
      (s.put F.ISL_WDOG_CFG_EN i 0 1).wdogArm i
    else s
  else if r.is R.TE_CTRL then
    if on then s.engineRun (engId i) else if s.flag F.TE_CTRL_RUN i then s.engineStop m (engId i) else s
  else s

/-- IE_JOB with START (13 R432; 19 R618): the image is loaded and a job starts at its entry, in the world of the core that
starts it (14 R459). -/
def State.ieJob (s : State) (m : Master) (a : Nat) : State :=
  let k := engId 16
  let s := s.modIsl (fun i => { i with ieWorld := s.worldOf m })
  let (s, st, l, entry) := s.readImage? k 0 a
  let s := s.loadWords k 0 st l entry
  if st ≠ stOK then s.ieEnd st
  else
    let s := (s.takeEffect R.TE_CTRL 16).takeEffect R.TE_CHK_TOL 16
    let s := s.modDrw k 0 (fun w => { w with
      info := 0
      pc := entry
      prev := entry
      loops := []
      fault := none
      halted := false
      faulting := false
      sb := []
      recs := []
      jobOn := true })
    s.place k 0

/-- The table that a command register of the switch works on (19 R630): stream filters 0, gates 1, meters 2, secure channels 3,
secure associations 4. -/
def swCmd (r : RegDef) : Option Nat :=
  if r.is R.SW_SF_CMD then some 0 else if r.is R.SW_SG_CMD then some 1 else if r.is R.SW_FM_CMD then some 2
  else if r.is R.SW_SEC_SC_CMD then some 3 else if r.is R.SW_SEC_SA_CMD then some 4 else none

/-- The command register of such a table. -/
def swCmdReg (t : Fin 5) : RegDef :=
  if t.val = 0 then R.SW_SF_CMD else if t.val = 1 then R.SW_SG_CMD else if t.val = 2 then R.SW_FM_CMD
  else if t.val = 3 then R.SW_SEC_SC_CMD else R.SW_SEC_SA_CMD

/-- What the registers of the time block do (11 R351, R354, R357). -/
def State.actTime (s : State) (r : RegDef) (i v : Nat) : State :=
  if r.is R.MTU_ADJ then s.mtuAdj v
  else if r.is R.MTU_SET then s.mtuSet v
  else if r.is R.ITU_RATE then s.ituRate v
  else if r.is R.TP_START then s.pulseArm (fin8 i)
  else s

/-- What the registers of the switch do (13 R447; 19 R630). -/
def State.actSwitch (s : State) (r : RegDef) (i v : Nat) : State :=
  if r.is R.SW_P_GCL_CHANGE then (if bit v 0 then s.gclChange (fin 12 (by decide) i) else s)
  else if !bit v 31 then s
  else if r.is R.SW_FDB_CMD then s.fdbCommand (bits v 29 28) (bits v 12 0)
  else if r.is R.SW_VLAN_CMD then s.vlanCommand (bits v 29 28) (bits v 11 0)
  else match swCmd r with
    | some t => s.tableCommand t (bits v 29 28) (bits v 12 0)
    | none => s

/-- What the Cabin Bus controllers' registers do (13 R428, R434, R435; 19 R617). -/
def State.actCabin (s : State) (m : Master) (r : RegDef) (i v : Nat) : State :=
  let n := fin 12 (by decide) i
  if r.is R.CAN_CTRL then (if bit v 29 then s.canRestart n else s)
  else if r.is R.CAN_RX_TAIL then s.canTail n (bits v 11 0)
  else if r.is R.CAN_TX_REQ then s.canRequest n v
  else if r.is R.CAN_TX_ABORT then s.canAbort n v
  else if r.is R.LIN_START then (if bit v 0 then s.linStart (fin 4 (by decide) i) else s)
  else if r.is R.TMR_CTRL || r.is R.TMR_CMP then s.timerRearm (fin8 i)
  else if r.is R.ISL_WDOG_KICK then s.wdogKick (some m) v
  else if r.is R.ARB_RAISE then s.arbRaise v
  else s

/-- What the registers of SEC, PMC, storage, start-up, the memory system and the function pages do. -/
def State.actSystem (s : State) (m : Master) (r : RegDef) (i v : Nat) : State :=
  if r.is R.SEC_MBOX_REQ then s.mboxReq m (fin8 i) (bits v 47 0)
  else if r.is R.PMC_REQ then (match s.bankOf m (i == 1) with | some b => s.pmcSubmit b v none | none => s)
  else if r.is R.PMC_CFG then (if s.flag F.PMC_CFG_AVS_EN then s else s.put0 F.PMC_VCORE_TARGET 750)
  else if r.is R.MEM_INJ then (if bit v 31 then s.armInjection (bits v 30 29) (bits v 4 0) else s)
  else if r.is R.MEM_ERR_ADDR then (if s.flag F.MEM_ERR_ADDR_VALID then s else s.put0 F.MEM_ERR_INFO_COUNT 0)
  else if r.is R.XSPI_CMD then (if bit v 31 then s.xspiGo m (bits v 29 28) v else s)
  else if r.is R.EMMC_CMD then (if bit v 31 then s.emmcGo m v else s)
  else if r.is R.BOOT_RCV then (if bit v 31 then s.rcvGo else s)
  else if r.is R.HIF_ATTACH then (if bit v 63 then s.detach (fin 33 (by decide) i) else s.attach (fin 33 (by decide) i) (bits v 47 0))
  else if r.is R.HIF_DOORBELL then s.doorbell (fin 33 (by decide) i) (bits v 31 30) (bits v 11 0)
  else if r.is R.IE_JOB then (if bit v 63 then s.ieJob m (bits v 47 0) else s)
  else if r.is R.SCH_CAB_CT then s.modCab (cabId i) (fun b => { b with tableNew := true })
  else s

/-- The action of a write, after its fields. -/
def State.actHook (s : State) (m : Master) (r : RegDef) (i v : Nat) : State :=
  match r.blk with
  | .time => s.actTime r i v
  | .sw => s.actSwitch r i v
  | .can => s.actCabin m r i v
  | .lin => s.actCabin m r i v
  | .tmr => s.actCabin m r i v
  | .islc => s.actCabin m r i v
  | .arb => s.actCabin m r i v
  | _ => s.actSystem m r i v

/-- Whether the action of a write stands for its fields as well. -/
def actionOnly (r : RegDef) (v : Nat) : Bool :=
  r.is R.CAN_TX_REQ || r.is R.CAN_RX_TAIL || r.is R.ITU_RATE || ((r.is R.XSPI_CMD || r.is R.EMMC_CMD) && bit v 31)

/-- A write of a whole register, as its writer rule lets a master make it (00 R5-R13; 19 R614, R623). -/
def State.writeReg (s : State) (m : Master) (r : RegDef) (i j v : Nat) : State :=
  if s.ignoresAll r i v then s
  else if r.is R.IE_JOB && (s.eng (engId 16)).st != .stopped then s.teErr (engId 16) F.TE_ERR_CFG_WHILE_RUN
  else
    let hook := hookBit r
    let stops := (match startBit r with | some b => !bit v b | none => false)
    let halted := s.blockStopped r i j || stops
    let fs := r.fields.filter (fun f => s.mayWrite m r i f && some f.hi != hook && !actionOnly r v
      && !(r.is R.TE_CTRL && f.hi == 1 && i == 16) && !(r.is R.SEC_CFG && f.hi == 31 && !bit v 31)
      && !(r.is R.SEC_WM && f.hi == 31 && !bit v 31))
    let s := fs.foldl (fun (s : State) f => s.writeField r i j halted v f) s
    let s := if r.is R.TE_CTRL && bit v 2 then s.lmInit m (engId i) else s
    let s := match hook with
      | some b => s.startHook m r i (bit v b)
      | none => s
    let s := s.actHook m r i v
    if r.is R.PMC_SEC_INUSE then s.setReg r 0 0 (s.regVal r 0 0 ||| 0x10000000F) else s

/-- The low word that a write of the high word alone takes (00 R5). -/
def State.lowNow (s : State) (r : RegDef) (i j : Nat) : Nat :=
  r.fields.foldl (fun n f => if f.lo < 32 ∧ (f.acc = .rw ∨ f.acc = .rws) then n ||| (s.rd ⟨r, f.hi, f.lo⟩ i j <<< f.lo) else n) 0
    % 2 ^ 32

/-- The copy whose pending low word and latched high word a master's access uses. -/
def State.pairOf (s : State) (m : Master) (r : RegDef) (i j : Nat) : Nat :=
  if r.is R.PMC_REQ then (match s.bankOf m (i == 1) with | some b => pmcBank.addr b.val 0 | none => r.addr i j) else r.addr i j

/-- A write of one word of a register (00 R5). -/
def State.writeWord (s : State) (m : Master) (a w : Nat) : State :=
  match findReg a with
  | none => s
  | some (r, i, j, high) =>
    if !s.mayWriteAny m r i then (if r.blk = .xspi then s.put0 F.XSPI_STAT_REJ_MASTER 1 else s)
    else if !r.wide then s.writeReg m r i j (w % 2 ^ 32)
    else
      let key := s.pairOf m r i j
      if !high then { s with regs := { s.regs with lo := insertN key (w % 2 ^ 32) s.regs.lo } }
      else
        let low := lookupN (s.lowNow r i j) key s.regs.lo
        let s : State := { s with regs := { s.regs with lo := s.regs.lo.filter (fun c => c.1 != key) } }
        s.writeReg m r i j (w % 2 ^ 32 * 2 ^ 32 + low)

/-! ### Reads (00 R5, R6, R9, R13) -/

/-- Whether any bit of a register is 1 where its domain is on (19 R620). -/
def State.anyBit (s : State) (ds : List Nat) (v : Nat) : Nat := b2n (v != 0 && ds.any (fun d => s.pd d))

/-- DEV_ERR_SUM and, with `cfg`, DEV_CFGRUN (19 R620). -/
def State.errSum (s : State) (cfg : Bool) : Nat :=
  let g := fun (d : List Nat) (r : RegDef) (i : Nat) (f : Fld) => s.anyBit d (if cfg then s.rd f i else s.regVal r i 0)
  let te := (List.range 16).foldl (fun n k => n + g [4 + k] R.TE_ERR k F.TE_ERR_CFG_WHILE_RUN * 2 ^ k) 0
  let hif := (List.range 32).any (fun f =>
    s.flag F.HIF_STATUS_CFG_WHILE_RUN f || (!cfg && s.flag F.HIF_STATUS_DB_ERR f)) && s.pd 41
  te + g [28, 29] R.CMU_ERR 0 F.CMU_ERR_CFG_WHILE_RUN * 2 ^ 16 + g [20, 21, 22, 23] R.SN_ERR 0 F.SN_ERR_CFG_WHILE_RUN * 2 ^ 17
    + g [31] R.SCH_ERR 0 F.SCH_ERR_CFG_WHILE_RUN * 2 ^ 18 + g [61] R.MEM_ERR 0 F.MEM_ERR_CFG_WHILE_RUN * 2 ^ 19
    + g [32] R.SEC_ERR 0 F.SEC_ERR_CFG_WHILE_RUN * 2 ^ 20
    + g [49, 50, 51, 52, 53, 54, 55] R.VIO_ERR 0 F.VIO_ERR_CFG_WHILE_RUN * 2 ^ 21 + g [30] R.GA_ERR 0 F.GA_ERR_CFG_WHILE_RUN * 2 ^ 22
    + (if cfg then 0 else s.anyBit [0] (s.regVal R.PMC_MON 0 0)) * 2 ^ 23 + g [3] R.BB_ERR 0 F.BB_ERR_CFG_WHILE_RUN * 2 ^ 24
    + g [3] R.ARB_ERR 0 F.ARB_ERR_CFG_WHILE_RUN * 2 ^ 25 + g [56] R.TE_ERR 16 F.TE_ERR_CFG_WHILE_RUN * 2 ^ 26
    + (if cfg then 0 else s.anyBit [61] (s.rd F.QOS_MISS_MISS)) * 2 ^ 27 + b2n hif * 2 ^ 28

/-- The levels of the error interrupts that blocks raise while any bit of their error registers is 1 (00 R11; 02 R59; 10 R335; 11
R348, R379; 19 R621, R622). -/
def State.errLevel (s : State) (b : Blk) (i : Nat) : Bool :=
  match b with
  | .te => s.regVal R.TE_ERR i 0 != 0
  | .cmu => s.regVal R.CMU_ERR 0 0 != 0
  | .sn => s.regVal R.SN_ERR 0 0 != 0
  | .sch => s.regVal R.SCH_ERR 0 0 != 0
  | .vid => s.regVal R.VIO_ERR 0 0 != 0
  | .ga => s.regVal R.GA_ERR 0 0 != 0
  | .mem => s.regVal R.MEM_ERR 0 0 != 0
  | .arb => s.regVal R.ARB_ERR 0 0 != 0
  | .bb => s.regVal R.BB_ERR 0 0 != 0
  | .sec => s.regVal R.SEC_ERR 0 0 != 0
  | .hif => s.flag F.HIF_STATUS_CFG_WHILE_RUN i || s.flag F.HIF_STATUS_DB_ERR i
  | _ => false

/-- TE_STATUS.STATE's encoding (02 R58). -/
def EngState.code : EngState → Nat
  | .stopped => 0 | .init => 1 | .running => 2 | .draining => 3 | .patrol => 4 | .fenced => 5

/-- The encoding of 07 R200. -/
def ShareState.code : ShareState → Nat
  | .disabled => 0 | .open_ => 1 | .sealing => 2 | .sealed => 3 | .faulted => 4

/-- HIF_STATUS.STATE's encoding (15 R515). -/
def FnState.code : FnState → Nat
  | .detached => 0 | .open_ => 1 | .refused => 2 | .lost => 3 | .resetting => 4 | .quiesced => 5

/-- Engine registers that follow the engine (02 R58; 04 R111; 19 R618). -/
def State.readEng (s : State) (r : RegDef) (i j : Nat) : Nat :=
  let k := engId i
  let e := s.eng k
  if r.is R.TE_STATUS then
    let used := e.drawers.toList.foldl (fun n (w : Drawer) => n + w.sb.length) 0
    e.st.code + (match e.active with | some d => d.val * 256 + 2048 | none => 0) + used * 65536
  else if r.is R.TE_DRW_FLT then fltOf (s.drw k (fin8 j)).fault
  else if r.is R.TE_CTRL && i == 16 then s.regVal r i j ||| 2
  else s.regVal r i j

/-- Registers of the function pages that follow the function (15 R515). -/
def State.readFn (s : State) (r : RegDef) (i : Nat) : Nat :=
  let x := vget s.fns (fin 33 (by decide) i)
  if r.is R.HIF_STATUS then
    putBits (putBits (putBits (s.regVal r i 0) 31 29 x.st.code) 28 26 x.reason) 15 0 x.evLost
  else if r.is R.HIF_WIN then
    match x.win with
    | some w => if i = 0 then 0 else 2 ^ 63 + s.winLog2 * 2 ^ 48 + w
    | none => 0
  else s.regVal r i 0

/-- ARB_ENG: two bits for each engine, 0 VERIFIED, 1 UNVERIFIED, 2 FENCED, 3 OFF (10 R317, ARB_ENG). -/
def State.readArbEng (s : State) : Nat :=
  (List.range 16).foldl (fun n k => n + (match (s.eng (engId k)).ver with
    | .verified => 0 | .unverified => 1 | .fenced => 2 | .off => 3) * 2 ^ (2 * k)) 0

/-- Device-global registers (19 R619, R620). -/
def State.readDev (s : State) (r : RegDef) : Nat :=
  if r.is R.DEV_STATUS then
    s.pstate * 2 ^ 29 + b2n s.host.lostAt.isSome * 2 ^ 28 + b2n s.faultNow * 2 ^ 27 + s.rd F.ISL_PAIR_STAT_MODE * 2 ^ 26
      + b2n (s.rd F.ARB_STATUS_STATE == 0) * 2 ^ 25 + b2n (s.rd F.BOOT_STATUS_SLOT == 2) * 2 ^ 24
  else if r.is R.DEV_ERR_SUM then s.errSum false
  else if r.is R.DEV_CFGRUN then s.errSum true
  else s.regVal r 0 0

/-- The word of the egress timestamp FIFO at its read port (19 R630; notes/assumptions/48.md). -/
def State.ptpWord (s : State) (i : Nat) : Nat :=
  match s.sw.ptp with
  | [] => 0
  | e :: _ => if i = 0 then e.1 * 65536 + e.2.1 else if i = 1 then 0 else if i = 2 then e.2.2 % 2 ^ 32 else e.2.2 / 2 ^ 32 % 2 ^ 32

/-- The bits of a register whose fields read 0 (00 R6: WO). -/
def RegDef.woMask (r : RegDef) : Nat :=
  r.fields.foldl (fun n f => if f.acc = .wo then n ||| ((2 ^ (f.hi + 1 - f.lo) - 1) <<< f.lo) else n) 0

/-- What a read of a register returns to a master now. -/
def State.readReg (s : State) (m : Master) (r : RegDef) (i j : Nat) : Nat :=
  let own := s.regVal r i j
  let v := match r.blk with
    | .te => s.readEng r i j
    | .cmu =>
      let h := vget s.shares (fin8 i)
      if r.is R.CMU_SHARE_STAT then h.st.code * 2 ^ 29 + h.entries.length
      else if r.is R.CMU_SHARE_RLOG_CNT then h.rlogCnt else own
    | .sn =>
      let l := (vget s.sn.queues (queueId i)).slots
      if r.is R.SN_Q_STAT then (l.filter (fun q => q.filled)).length * 65536 + (l.filter (fun q => !q.filled)).length else own
    | .time =>
      if r.is R.MTU_NOW then s.stamp
      else if r.is R.ITU_COUNT then s.itu
      else if r.is R.ITU_TIME then s.ituTime
      else if r.is R.CAP_TS then s.capValue (fin 16 (by decide) i) else own
    | .hif => s.readFn r i
    | .glob => s.readDev r
    | .pmc =>
      if r.is R.PMC_RESP then
        (match s.bankOf m (i == 1) with | some b => b2n (s.bankBusy b) * 2 ^ 31 + vget s.pmc.status b | none => 0)
      else own
    | .arb => if r.is R.ARB_STATUS then putBits own 16 16 (b2n s.faultNow) else if r.is R.ARB_ENG then s.readArbEng else own
    | .gpio => if r.is R.GPIO_IN then
        (own &&& ((2 ^ 32 - 1) ^^^ s.regVal R.GPIO_DIR 0 0)) ||| (s.regVal R.GPIO_OUT 0 0 &&& s.regVal R.GPIO_DIR 0 0) else own
    | .dbg => if r.is R.DBG_CTRL then putBits own 29 29 (s.rd F.SEC_CFG_SEC_DEBUG) else own
    | .sw => if r.is R.SW_PTP_TS then s.ptpWord i else own
    | _ => own
  v &&& ((2 ^ 64 - 1) ^^^ r.woMask)

/-- A read of a word as 32 bits, with what the read does: the high word latched at the low word's read (00 R5; how long the latch
lasts and whose it is: notes/assumptions/134.md), the MTU's
fraction and seconds latched with MTU_NOW (11 R351), the measured core voltage free (17 PMC_VCORE; notes/assumptions/2.md), a capture or an egress timestamp removed at the read of its last word. -/
def State.readWord (s : State) (m : Master) (a : Nat) : State × Nat :=
  match findReg a with
  | none =>
    let k := (a - 0x40108000) / 0x10000
    let o := (a - 0x40108000) % 0x10000
    if 0x40108000 ≤ a ∧ k < 16 ∧ 0x1000 ≤ o ∧ o < 0x2000 then (s, s.mem.readNat (psbBase (engId k) + (o - 0x1000)) 4) else (s, 0)
  | some (r, i, j, high) =>
    let v := s.readReg m r i j
    let key := r.addr i j
    if r.is R.PMC_VCORE then
      let (c, s) := s.nextFree
      (s, putBits v 27 16 (Config.freeWord c a).toNat % 2 ^ 32)
    else if !r.wide then
      (if r.is R.SW_PTP_TS && i == 3 then s.modSw (fun w => { w with ptp := w.ptp.drop 1 }) else s, v % 2 ^ 32)
    else if !high then
      let s := if r.is R.MTU_NOW then
          (s.put0 F.MTU_NOW_SUB_SUBNS (s.mtu / 2 ^ 16 % 2 ^ 16)).put0 F.MTU_NOW_SEC_SEC s.mtuSec else s
      ({ s with regs := { s.regs with hi := insertN key (v / 2 ^ 32) s.regs.hi } }, v % 2 ^ 32)
    else
      let n := lookupN (v / 2 ^ 32) key s.regs.hi
      let s : State := if r.is R.CAP_TS then s.captureRead (fin 16 (by decide) i) else s
      ({ s with regs := { s.regs with hi := s.regs.hi.filter (fun c => c.1 != key) } }, n)

/-! ### Accesses (19 R610-R615) -/

/-- Whether an access has a width and an alignment that R611 carries out. -/
def regShape (a n : Nat) : Bool := (n == 4 || n == 8 || n == 16) && a % n == 0

/-- Why a register access is refused (19 R610, R611, R613). -/
def State.regRefusal (s : State) (m : Master) (a n : Nat) : Option AccErr :=
  if m.cabin && !inCabin a && !s.pd 61 then some .view
  else if !regShape a n then some .range
  else match regDomain a with
    | none => some .range
    | some ds => if ds.any (fun d => s.pd d) then none else some (if inCabin a then .monitor else .power)

/-- Consecutive words written, lowest address first (19 R611). -/
def State.writeWords (s : State) (m : Master) (a : Nat) (l : List Byte) : State :=
  (List.range (l.length / 4)).foldl (fun (s : State) i => s.writeWord m (a + 4 * i) (ofBytes ((l.drop (4 * i)).take 4))) s

/-- Consecutive words read, lowest address first (19 R611). -/
def State.readWords (s : State) (m : Master) (a : Nat) : Nat → State × List Byte
  | 0 => (s, [])
  | n + 1 =>
    let (s, v) := s.readWord m a
    let (s, l) := State.readWords s m (a + 4) n
    (s, leBytes v 4 ++ l)

/-- A write access of a master in the register space or the Cabin Bus window. -/
def State.regWrite (s : State) (m : Master) (a : Nat) (l : List Byte) : State :=
  match s.regRefusal m a l.length with
  | some e => (s.logRefusal e a m).answer stFABRIC_ERR []
  | none => (s.writeWords m a l).answer stOK []

/-- A read access of a master in the register space or the Cabin Bus window. -/
def State.regRead (s : State) (m : Master) (a n : Nat) : State :=
  match s.regRefusal m a n with
  | some e => (s.logRefusal e a m).answer stFABRIC_ERR []
  | none =>
    let (s, l) := s.readWords m a (n / 4)
    s.answer stOK l

/-- Whether a master's own accesses reach an address: main-side masters reach the Cabin Bus through the bridge only (19 R616). -/
def regReach (m : Master) (a : Nat) : Bool :=
  (inCabin a && m.cabin) || (!inCabin a && decide (0x40000000 ≤ a) && decide (a < 0x60000000))

/-- REGISTER_WRITE: a write of a master to registers it reaches. -/
def State.registerWrite (s : State) (m : Master) (a : Nat) (l : List Byte) : State := if regReach m a then s.regWrite m a l else s

/-- LOW_WORD_READ: a read of one word of a register (00 R5). -/
def State.registerRead (s : State) (m : Master) (a : Nat) : State := if regReach m a then s.regRead m a 4 else s

/-- A write of one register by a master, of its copy (i, j), with the value `v`, as one or two word accesses (00 R5). -/
def State.regSet (s : State) (m : Master) (r : RegDef) (i j v : Nat) : State :=
  s.registerWrite m (r.addr i j) (leBytes v (if r.wide then 8 else 4))

/-- COUNTER_OVERFLOW (18 R599, R606): a counter that runs and stands at its last value wraps: counter `n` of engine `k`, or with
`shared` counter `n` of unit `k`. -/
def State.counterOverflow (s : State) (shared : Bool) (k : Nat) (n : Fin 8) : State :=
  if shared then
    if k < 4 ∧ n.val < 4 ∧ bit (s.rd F.PERF_CTL_EN k) n.val ∧ !s.flag F.PERF_FREEZE_FREEZE ∧ !s.flag F.PERF_CTL_FREEZE k
        ∧ s.rd F.PERF_CNT_COUNT k n.val = 2 ^ 48 - 1 then s.unitOverflow k n.val else s
  else if k < 16 ∧ bit (s.rd F.TE_PERF_CTL_EN k) n.val ∧ !s.perfFrozen (engId k)
      ∧ s.rd F.TE_PERF_CNT_COUNT k n.val = 2 ^ 48 - 1 then s.perfOverflow (engId k) n.val
  else s

end Sys2Proof.Machine
end

