-- ==== Sys2Proof/Machine/CmdBoot.lean ====
section
/-! DEFINITION. Start-up, flash and eMMC (16, 19). One meaning for each command. -/

namespace Sys2Proof.Machine

/-- POWER_GOOD_RISE: POWER_GOOD rises: SEC starts (16 R550, R551). -/
def execPowerGoodRise (s : State) : Host.Outcome State Fault Refusal :=
  .next (s.powerGood)

/-- PLL_F_LOCK: PLL_F locks (17 R567). -/
def execPllFLock (s : State) : Host.Outcome State Fault Refusal :=
  .next (s.pllFLock)

/-- ISLAND_RELEASE: SEC writes the island images and releases the cores; `hyper` tells that HyperRAM answers (16 R550, R554). -/
def execIslandRelease (hyper : Bool) (s : State) : Host.Outcome State Fault Refusal :=
  .next (s.gate (s.mainClk) (s.islandRelease hyper))

/-- LPDDR5X_TRAINING_DONE: LPDDR5X training ends (16 R552; 17 R573). -/
def execLpddr5xTrainingDone (ok : Bool) (s : State) : Host.Outcome State Fault Refusal :=
  .next (s.gate (s.mainClk) (s.trainingDone ok))

/-- MANIFEST_LAUNCH: the entries of the Boot Manifest launch; `emmc` tells that the card answers (16 R553). -/
def execManifestLaunch (emmc : Bool) (s : State) : Host.Outcome State Fault Refusal :=
  .next (s.gate (s.mainClk) (s.manifestLaunch emmc))

/-- RECOVERY_WRITE: SEC checks the host's slot and writes it (16 R562). -/
def execRecoveryWrite (flashOk : Bool) (s : State) : Host.Outcome State Fault Refusal :=
  .next (s.gate (s.mainClk) (s.recoveryWrite flashOk))

/-- XSPI_READ: a master writes XSPI_CMD with GO and this KIND (16 R559; 19 R624, R625). -/
def execXspiRead (m : Master) (cmd : Nat) (s : State) : Host.Outcome State Fault Refusal :=
  .next (s.gate (s.clkOf m) (s.regSet m R.XSPI_CMD 0 0 (2 ^ 31 + 0 * 2 ^ 28 + cmd % 2 ^ 28)))

/-- XSPI_WRITE: a master writes XSPI_CMD with GO and this KIND (16 R559; 19 R624, R625). -/
def execXspiWrite (m : Master) (cmd : Nat) (s : State) : Host.Outcome State Fault Refusal :=
  .next (s.gate (s.clkOf m) (s.regSet m R.XSPI_CMD 0 0 (2 ^ 31 + 1 * 2 ^ 28 + cmd % 2 ^ 28)))

/-- XSPI_PROGRAM: a master writes XSPI_CMD with GO and this KIND (16 R559; 19 R624, R625). -/
def execXspiProgram (m : Master) (cmd : Nat) (s : State) : Host.Outcome State Fault Refusal :=
  .next (s.gate (s.clkOf m) (s.regSet m R.XSPI_CMD 0 0 (2 ^ 31 + 2 * 2 ^ 28 + cmd % 2 ^ 28)))

/-- XSPI_ERASE: a master writes XSPI_CMD with GO and this KIND (16 R559; 19 R624, R625). -/
def execXspiErase (m : Master) (cmd : Nat) (s : State) : Host.Outcome State Fault Refusal :=
  .next (s.gate (s.clkOf m) (s.regSet m R.XSPI_CMD 0 0 (2 ^ 31 + 3 * 2 ^ 28 + cmd % 2 ^ 28)))

/-- XSPI_DONE: the xSPI command completes (19 R624). -/
def execXspiDone (s : State) : Host.Outcome State Fault Refusal :=
  .next (s.gate (s.mainClk) (s.xspiDone))

/-- EMMC_COMMAND: a master writes EMMC_CMD with GO (19 R626). -/
def execEmmcCommand (m : Master) (cmd : Nat) (s : State) : Host.Outcome State Fault Refusal :=
  .next (s.gate (s.clkOf m) (s.regSet m R.EMMC_CMD 0 0 (2 ^ 31 + cmd % 2 ^ 31)))

/-- EMMC_DONE: the eMMC command completes (19 R626). -/
def execEmmcDone (timeout : Bool) (cmdCrc : Bool) (dataCrc : Bool) (s : State) : Host.Outcome State Fault Refusal :=
  .next (s.gate (s.mainClk) (s.emmcDone timeout cmdCrc dataCrc))

end Sys2Proof.Machine
end

