-- ==== Sys2Proof/Machine/Inbound.lean ====
section
/-! DEFINITION. PCI Express requests: inbound to the functions' BARs (15 R507-R509, R514, R515; 18 R608; 19 R631), outbound to
host memory (15 R506, R513). -/

namespace Sys2Proof.Machine

/-- A request that no mapped part of a BAR takes: Unsupported Request, reported (15 R508). -/
def State.unsupported (s : State) (f : Fin 32) : State := (s.tell (.irq "PCIE_UR" f.val)).answer stFABRIC_ERR []

/-- A request that the fabric refuses: Completer Abort, reported (15 R508). -/
def State.completerAbort (s : State) (f : Fin 32) : State := (s.tell (.irq "PCIE_CA" f.val)).answer stFABRIC_ERR []

/-- A request carried out in the fabric: an error response becomes a Completer Abort. -/
def State.aborts (s : State) (f : Fin 32) : State := if s.resp.status = stOK then s else s.completerAbort f

/-- The function of an inbound request. -/
def fnOf (f : Fin 32) : Fin 33 := ⟨f.val, by omega⟩

/-- Whether a function takes requests: the link is up, the host interface is open and powered, the function exists
(15 R507; 16 R556); the PF takes requests in the recovery slot too (16 R562). -/
def State.fnLive (s : State) (f : Fin 32) : Bool :=
  s.linkUp && s.pd 41 && ((s.boot.open_ && s.fnExists f.val) || (s.stage == 8 && f.val == 0))

/-- What a part of BAR0 holds (15 R514, R515). -/
inductive Bar0 where
  | page (f : Nat) (off : Nat)
  | msix (off : Nat)
  | pba (off : Nat)
  | fabric (a : Nat)
  | perf (k : Nat) (off : Nat)
  | zero
  | unmapped
  deriving DecidableEq, Repr

/-- The part of a function's BAR0 at an offset. -/
def bar0 (f : Fin 32) (o : Nat) : Bar0 :=
  if f.val = 0 then
    if o < 0x20000 then .page (o / 4096) (o % 4096)
    else if o < 0x20100 then .msix (o - 0x20000)
    else if 0x21000 ≤ o ∧ o < 0x21008 then .pba (o - 0x21000)
    else if 0x1000000 ≤ o ∧ o < 0x4000000 then .fabric (0x40000000 + (o - 0x1000000))
    else .unmapped
  else if 0x40000 ≤ o then .unmapped
  else if o < 0x1000 then .page f.val o
  else if 0x2000 ≤ o ∧ o < 0x2100 then .msix (o - 0x2000)
  else if 0x3000 ≤ o ∧ o < 0x3008 then .pba (o - 0x3000)
  else if 0x10000 ≤ o ∧ o < 0x20000 then .perf ((o - 0x10000) / 4096) (o % 4096)
  else .zero

/-- The part of BAR0 that an offset reaches: in the recovery slot only the fabric register range is mapped, and function pages
read 0 (16 R562). -/
def State.bar0At (s : State) (f : Fin 32) (o : Nat) : Bar0 :=
  if s.stage ≠ 8 then bar0 f o
  else match bar0 f o with
    | .page _ _ => .zero
    | .fabric a => .fabric a
    | _ => .unmapped

/-- Whether a VF sees an engine's performance page (18 R608). -/
def State.perfSeen (s : State) (f : Fin 32) (k : Nat) : Bool :=
  bit (s.regVal R.PERF_USER_EN 0 0) f.val && s.pd (4 + k) && s.pd 61 &&
    (match s.holder k with | some c => !(s.cab c).flash && (s.cab c).fn == f.val | none => false)

/-- Byte `o` of the pending bit array of a function. -/
def State.pbaByte (s : State) (f : Fin 33) (o : Nat) : Byte :=
  BitVec.ofNat 8 (((vget s.fns f).vectors.filter (fun v => v / 8 == o)).foldl (fun n v => n + 2 ^ (v % 8)) 0)

/-- A read of BAR0. -/
def State.bar0Read (s : State) (f : Fin 32) (o n : Nat) : State :=
  match s.bar0At f o with
  | .page g off =>
    if !regShape off n then s.completerAbort f
    else
      let (s, l) := s.readWords (.pcie f) (R.HIF_VERSION.addr g 0 + off) (n / 4)
      s.answer stOK l
  | .msix off => s.answer stOK ((List.range n).map (fun i => s.msixByte (fnOf f) (off + i)))
  | .pba off => s.answer stOK ((List.range n).map (fun i => s.pbaByte (fnOf f) (off + i)))
  | .fabric a => (s.regRead (.pcie f) a n).aborts f
  | .perf k off =>
    if !regShape off n then s.completerAbort f
    else if s.perfSeen f k then
      let (s, l) := s.readWords (.pcie f) (0x40108000 + 0x10000 * k + off) (n / 4)
      s.answer stOK l
    else s.answer stOK (List.replicate n 0)
  | .zero => s.answer stOK (List.replicate n 0)
  | .unmapped => s.unsupported f

/-- A write of BAR0: the PF writes its own page only (15 R514). -/
def State.bar0Write (s : State) (f : Fin 32) (o : Nat) (l : List Byte) : State :=
  match s.bar0At f o with
  | .page g off =>
    if !regShape off l.length then s.completerAbort f
    else if g ≠ f.val then s.answer stOK []
    else (s.writeWords (.pcie f) (R.HIF_VERSION.addr g 0 + off) l).answer stOK []
  | .msix off =>
    let keep := fun (p : Nat × Byte) => (msixBase (fnOf f) + off + p.1, p.2 ^^^ (if (off + p.1) % 16 = 12 then 1 else 0))
    let s : State := { s with mem := (runOf 0 l).foldl (fun (m : Mem) p => m.write (keep p).1 (keep p).2) s.mem }
    (s.msixSend (fnOf f)).answer stOK []
  | .pba _ => s.answer stOK []
  | .fabric a => (s.regWrite (.pcie f) a l).aborts f
  | .perf _ _ => s.answer stOK []
  | .zero => s.answer stOK []
  | .unmapped => s.unsupported f

/-- The device address that an offset of BAR2 or BAR4 maps (15 R509). -/
def State.barAddr (s : State) (f : Fin 32) (bar o n : Nat) : Option Nat :=
  if f.val = 0 then
    if bar = 2 ∧ 0x100000000 + o + n ≤ s.lpddrEnd then some (0x100000000 + o)
    else if bar = 4 ∧ o + n ≤ 0x2000000 then some (0x80000000 + o) else none
  else if bar = 2 ∧ o + n ≤ 2 ^ s.winLog2 then (vget s.fns (fnOf f)).win.map (fun w => w + o) else none

/-- INBOUND_REQUEST: a request of the host to function `f`. -/
def State.inbound (s : State) (f : Fin 32) (q : Inbound) : State :=
  let shut := (vget s.fns (fnOf f)).st == .resetting
  if !s.fnLive f then (if s.linkUp then s.unsupported f else s)
  else match q with
    | .read bar o n =>
      if shut then s.unsupported f
      else if bar = 0 then s.bar0Read f o n
      else match s.barAddr f bar o n with
        | some a => (s.memRead (.pcie f) a n).aborts f
        | none => s.unsupported f
    | .write bar o l =>
      if shut then s.unsupported f
      else if bar = 0 then s.bar0Write f o l
      else match s.barAddr f bar o l.length with
        | some a => (s.memWrite (.pcie f) a l).aborts f
        | none => s.unsupported f
    | .busMaster on => s.modFn (fnOf f) (fun x => { x with bme := on })
    | .numVfs n => if f.val = 0 ∧ n ≤ 31 then { s with host := { s.host with numVfs := n } } else s
    | .vfEnable => if f.val = 0 ∧ s.stage ≠ 8 then { s with host := { s.host with vfEnable := true } } else s

/-- A write of a function's own page at a register's offset, as the function's driver makes it; on the island page by an island
core whose accesses leave the island (13 R425). -/
def State.pageWrite (s : State) (f : Fin 33) (core : Fin 2) (r : RegDef) (v : Nat) : State :=
  let l := leBytes v (if r.wide then 8 else 4)
  if h : f.val < 32 then s.inbound ⟨f.val, h⟩ (.write 0 (r.base - R.HIF_VERSION.base) l)
  else s.gate (s.clkOf (.isl core)) (s.registerWrite (.isl core) (0x40052000 + (r.base - R.HIF_VERSION.base)) l)

/-- OUTBOUND_REQUEST: a request of a master to the outbound window (15 R513, R536). -/
def State.outboundRequest (s : State) (m : Master) (write : Bool) (a n : Nat) (l : List Byte) : State :=
  if s.target m a (if write then l.length else n) = some .outbound then (if write then s.memWrite m a l else s.memRead m a n) else s

/-- OUTBOUND_TIMEOUT: a read that the host does not complete in 10 ms (15 R506): an error response, reported. -/
def State.outboundTimeout (s : State) (m : Master) (a n : Nat) : State :=
  if s.target m a n = some .outbound ∧ (s.refusalOf m false a n).isNone then
    (s.tell (.irq "PCIE_TIMEOUT" (s.requester m).val)).answer stFABRIC_ERR []
  else s

end Sys2Proof.Machine
end

