-- ==== Sys2Proof/Machine/Island.lean ====
section
/-! DEFINITION. The compare unit of the core pair (13 R421-R426), the Body Bridge in both directions (13 R437-R445) and the
Cabin Bus monitor (13 R419). -/

namespace Sys2Proof.Machine

/-! ### Accesses of the island's masters -/

/-- A store of a master where its address leads: registers or memory. -/
def State.storeAt (s : State) (m : Master) (a : Nat) (l : List Byte) : State :=
  if inCabin a || (decide (0x40000000 ≤ a) && decide (a < 0x60000000)) then s.regWrite m a l else s.memWrite m a l

/-- A load of a master. -/
def State.loadAt (s : State) (m : Master) (a n : Nat) : State :=
  if inCabin a || (decide (0x40000000 ≤ a) && decide (a < 0x60000000)) then s.regRead m a n else s.memRead m a n

/-- Whether the Cabin Bus serves a master: no other holds it locked (13 R442). -/
def State.busServes (s : State) (m : Master) : Bool := match s.bridge.lock with | none => true | some l => l.1 == m

/-! ### The pair -/

/-- Whether the cores run as a pair. -/
def State.paired (s : State) : Bool := s.coresRun && !s.flag F.ISL_PAIR_STAT_MODE && s.pd 1

/-- The compare buffer replaced, CMP_FILL with it. -/
def State.setCmp (s : State) (l : List PairEntry) : State :=
  (s.modIsl (fun x => { x with cmp := l })).put0 F.ISL_PAIR_STAT_CMP_FILL l.length

/-- The input log replaced, LOG_FILL with it. -/
def State.setLog (s : State) (l : List LogEntry) : State :=
  (s.modIsl (fun x => { x with log := l })).put0 F.ISL_PAIR_STAT_LOG_FILL l.length

/-- A mismatch (13 R425; 10 R330): causes 0 store data, 1 load address, 2 timeout, 3 signature. -/
def State.mismatch (s : State) (cause : Nat) : State :=
  (((s.modIsl (fun x => { x with halted := true })).put0 F.ISL_PAIR_STAT_MISMATCH 1).put0 F.ISL_PAIR_STAT_CAUSE cause).assertFault

/-- The world of a core set for the time of an access. -/
def State.asWorld (s : State) (w : Bool) (f : State → State) : State :=
  let keep := s.isl.world
  (f (s.modIsl (fun x => { x with world := vmod x.world 0 (fun _ => w) }))).modIsl (fun x => { x with world := keep })

/-- PAIR_STORE_COMPARE: a store of ISL-A is held; that of ISL-B is compared with the oldest entry, and on agreement the store is
performed once. -/
def State.pairStore (s : State) (core : Fin 2) (a : Nat) (l : List Byte) : State :=
  let e : PairEntry := .store a l.length (ofBytes l) (vget s.isl.world core)
  if !s.paired then s
  else if core.val = 0 then (if s.pairFull then s else s.setCmp (s.isl.cmp ++ [e]))
  else match s.isl.cmp with
    | [] => s
    | q :: rest =>
      if q = e then
        if inCabin a && !s.busServes (.isl 0) then s
        else (s.setCmp rest).asWorld (vget s.isl.world core) (fun s => s.storeAt (.isl 0) a l)
      else s.mismatch 0

/-- Whether a buffered store touches `n` bytes at `a`. -/
def PairEntry.touches (e : PairEntry) (a n : Nat) : Bool :=
  match e with
  | .store b k _ _ => decide (a < b + k) && decide (b < a + n)
  | .sync _ => false

/-- What ISL-A reads in the private region: memory under the stores it has made (13 R422). -/
def State.forwarded (s : State) (a : Nat) (l : List Byte) : List Byte :=
  s.isl.cmp.foldl (fun l e => match e with
    | .store b k d _ => (List.range l.length).map (fun i =>
        if b ≤ a + i ∧ a + i < b + k then byteOf d (a + i - b) else nth 0 l i)
    | .sync _ => l) l

/-- PAIR_LOAD_COMPARE: a load of ISL-A is made and logged; ISL-B takes the logged value. Of the private region, each core makes
its own load. ISL-A stalls while a buffer is full (R423). -/
def State.pairLoad (s : State) (core : Fin 2) (a n : Nat) : State :=
  if !s.paired ∨ (core.val = 0 ∧ s.pairFull) then s
  else if s.inPrivate a n then
    let s := s.memRead (.isl core) a n
    if core.val = 0 ∧ s.resp.status = stOK then s.answer stOK (s.forwarded a s.resp.data) else s
  else if core.val = 0 then
    if s.isl.cmp.any (fun e => e.touches a n) ∨ (inCabin a && !s.busServes (.isl 0)) then s
    else
      let s := s.loadAt (.isl 0) a n
      s.setLog (s.isl.log ++ [.load a n (ofBytes s.resp.data)])
  else match s.isl.log with
    | .load b k v :: rest => if b = a ∧ k = n then (s.setLog rest).answer stOK (leBytes v n) else s.mismatch 1
    | _ => s

/-- ISL_SYNC: the signature of ISL-A is held, that of ISL-B compared; in Split mode a write has no effect (13 R426). -/
def State.pairSync (s : State) (core : Fin 2) (crc : Word) : State :=
  if !s.paired then s
  else if core.val = 0 then (if s.pairFull then s else s.setCmp (s.isl.cmp ++ [.sync crc.toNat]))
  else match s.isl.cmp with
    | [] => s
    | q :: rest => if q = .sync crc.toNat then s.setCmp rest else s.mismatch 3

/-- PAIR_COMPARE_TIMEOUT: an entry has waited 8,192 cycles (13 R425). -/
def State.pairTimeout (s : State) : State := if s.paired && !s.isl.cmp.isEmpty then s.mismatch 2 else s

/-! ### Main fabric to Cabin Bus (13 R437-R442) -/

/-- The bit of MASTERS that names a master. -/
def bbBit (m : Master) : Option Nat :=
  match m with
  | .sec => some 0
  | .sch => some 1
  | .cc _ => some 2
  | .pcie f => if f.val = 0 then some 3 else none
  | .port n => if n.val = 39 then some 4 else none
  | _ => none

/-- The range that an access uses: the lowest enabled one that contains its address. -/
def State.bbRange (s : State) (a : Nat) : Option Nat :=
  (List.range 8).find? (fun n =>
    let b := s.rd F.BB_RANGE_BASE n * 4096
    s.flag F.BB_RANGE_EN n && decide (b ≤ a - 0x20000000) && decide (a - 0x20000000 < b + s.rd F.BB_RANGE_SIZE n * 4096))

/-- POSTED and COMPAT_ERR for a master's access; none where the bridge refuses it. -/
def State.bbRoute (s : State) (m : Master) (a : Nat) : Option (Bool × Bool) :=
  match s.bbRange a, bbBit m with
  | some n, some b => if bit (s.rd F.BB_RANGE_MASTERS n) b then some (s.flag F.BB_RANGE_POSTED n, s.flag F.BB_RANGE_COMPAT_ERR n) else none
  | none, some b => if b = 0 then some (false, false) else none
  | _, none => none

/-- Whether the bridge carries an access of `n` bytes (13 R440). -/
def bbShape (a n : Nat) : Bool := (n == 1 || n == 2 || n == 4 || n == 8 || n == 16) && a % n == 0

/-- The parts of an access on the 32-bit bus: address and length (13 R440). -/
def bbParts (a n : Nat) : List (Nat × Nat) := if n ≤ 4 then [(a, n)] else (List.range (n / 4)).map (fun i => (a + 4 * i, 4))

/-- BB_ERR and BB_ERR_LOG at an error (13 R439, R442): kinds 0 posted, 1 non-posted, 3 lock broken; `timeout` where a monitor
ended the access. -/
def State.bbErr (s : State) (kind a : Nat) (m : Master) (timeout : Bool) : State :=
  let s := if kind = 0 then s.put0 F.BB_ERR_POSTED_ERR 1 else if kind = 1 then s.put0 F.BB_ERR_NP_ERR 1 else s.put0 F.BB_ERR_LOCK_BROKEN 1
  let s := if timeout then s.put0 F.BB_ERR_TIMEOUT 1 else s
  if s.flag F.BB_ERR_LOG_VALID then s
  else (((s.put0 F.BB_ERR_LOG_VALID 1).put0 F.BB_ERR_LOG_MASTER m.num).put0 F.BB_ERR_LOG_KIND (if timeout then 2 else kind)).put0
    F.BB_ERR_LOG_OFFSET (a - 0x20000000)

/-- Whether a part's refusal is a monitor's. -/
def State.byMonitor (s : State) (m : Master) (a n : Nat) : Bool := s.regRefusal m a n == some .monitor

/-- The parts of a write performed in order, up to the first that meets an error: its address and whether a monitor ended it. -/
def State.bbWrite (s : State) (m : Master) (l : List Byte) (a : Nat) : List (Nat × Nat) → State × Option (Nat × Bool)
  | [] => (s, none)
  | p :: rest =>
    let mon := s.byMonitor m p.1 p.2
    let s := s.regWrite m p.1 ((l.drop (p.1 - a)).take p.2)
    if s.resp.status ≠ stOK then (s, some (p.1, mon)) else s.bbWrite m l a rest

/-- The parts of a read, up to the first that meets an error; the parts from there on read as ones. -/
def State.bbRead (s : State) (m : Master) : List (Nat × Nat) → State × List Byte × Option (Nat × Bool)
  | [] => (s, [], none)
  | p :: rest =>
    let mon := s.byMonitor m p.1 p.2
    let s := s.regRead m p.1 p.2
    if s.resp.status ≠ stOK then
      (s, List.replicate ((p :: rest).foldl (fun n q => n + q.2) 0) 0xFF, some (p.1, mon))
    else
      let d := s.resp.data
      let (s, l, e) := s.bbRead m rest
      (s, d ++ l, e)

/-- An access that the bridge refuses: an error response, logged (13 R437; 12 R381). -/
def State.bbRefuse (s : State) (m : Master) (a : Nat) : State := (s.memLog 1 a m.num).answer stFABRIC_ERR []

/-- A posted write of a main-side master accepted into the queue of 32. -/
def State.bbAccept (s : State) (m : Master) (a : Nat) (l : List Byte) : State :=
  if m.cabin || !inCabin a then s
  else match s.bbRoute m a with
    | none => s.bbRefuse m a
    | some (posted, _) =>
      if !posted ∨ 32 ≤ s.bridge.posted.length then s
      else if !bbShape a l.length then s.answer stFABRIC_ERR []
      else ({ s with bridge := { s.bridge with posted := s.bridge.posted ++ [(m, a, l)] } } : State).answer stOK []

/-- The oldest posted write performed on the Cabin Bus. -/
def State.bbPerform (s : State) : State :=
  match s.bridge.posted with
  | [] => s
  | (m, a, l) :: rest =>
    if !s.busServes m then s
    else
      let s : State := { s with bridge := { s.bridge with posted := rest } }
      let (s, e) := s.bbWrite m l a (bbParts a l.length)
      match e with
      | some (at_, mon) => s.bbErr 0 at_ m mon
      | none => s

/-- BB_POSTED_WRITE: accepted, or with `perform` the oldest one performed. -/
def State.bbPosted (s : State) (perform : Bool) (m : Master) (a : Nat) (l : List Byte) : State :=
  if perform then s.bbPerform else s.bbAccept m a l

/-- The lock of the Cabin Bus after an access (13 R442). -/
def State.lockAfter (s : State) (m : Master) (lk : BusLock) : State :=
  match lk with
  | .first x => { s with bridge := { s.bridge with lock := some (m, x) } }
  | .last _ => { s with bridge := { s.bridge with lock := none } }
  | _ => s

/-- Whether an access of a sequence comes after its lock was broken. -/
def State.lockGone (s : State) (lk : BusLock) : Bool :=
  match lk with
  | .next => s.bridge.lock.isNone
  | .last _ => s.bridge.lock.isNone
  | _ => false

/-- What the accesses of a broken sequence get: an error response, or exclusive failure of an exclusive write (13 R442). -/
def State.lockFailed (s : State) (m : Master) (lk : BusLock) : State :=
  if lk = .last true then (s.tell (.irq "EXCLUSIVE_FAIL" m.num)).answer stOK [] else s.answer stFABRIC_ERR []

/-- BB_NONPOSTED_ACCESS: a read of `n` bytes, or a write of `l`, of a main-side master; it waits for the master's earlier posted
writes (13 R438-R440) and for a lock of another (R442). -/
def State.bbAccess (s : State) (m : Master) (write : Bool) (a n : Nat) (l : List Byte) (lk : BusLock) : State :=
  let len := if write then l.length else n
  if m.cabin || !inCabin a then s
  else match s.bbRoute m a with
    | none => s.bbRefuse m a
    | some (posted, compat) =>
      if write && posted && lk == .free then s
      else if s.bridge.posted.any (fun p => p.1 == m) || !s.busServes m then s
      else if s.lockGone lk then s.lockFailed m lk
      else if !bbShape a len then s.answer stFABRIC_ERR []
      else if write then
        let (s, e) := s.bbWrite m l a (bbParts a len)
        let s := s.lockAfter m lk
        match e with
        | some (at_, mon) => (s.bbErr 1 at_ m mon).answer (if compat then stFABRIC_ERR else stOK) []
        | none => s.answer stOK []
      else
        let (s, d, e) := s.bbRead m (bbParts a len)
        let s := s.lockAfter m lk
        match e with
        | some (at_, mon) => (s.bbErr 1 at_ m mon).answer (if compat then stFABRIC_ERR else stOK) (if compat then [] else d)
        | none => s.answer stOK d

/-- BB_LOCK_BREAK: the lock has stood for 64 cycles; the access at `a` that waits gets its answer (13 R442). -/
def State.bbLockBreak (s : State) (a : Nat) : State :=
  match s.bridge.lock with
  | none => s
  | some (m, x) =>
    let s : State := { s with bridge := { s.bridge with lock := none } }
    (s.bbErr 3 a m false).lockFailed m (.last x)

/-! ### Cabin Bus to main fabric, and the monitor -/

/-- Whether an address lies beyond the island. -/
def beyondIsland (a : Nat) : Bool := !inCabin a && !(decide (0x10000000 ≤ a) && decide (a < 0x10400000)) && !(decide (0x60000000 ≤ a) && decide (a < 0x70000000))

/-- BB_OUTBOUND_ACCESS: an access of an island master to the main fabric (13 R443). -/
def State.bbOutbound (s : State) (m : Master) (write : Bool) (a n : Nat) (l : List Byte) : State :=
  if !m.cabin || !beyondIsland a then s
  else if !s.pd 61 then s.answer stFABRIC_ERR []
  else if write then s.storeAt m a l
  else s.loadAt m a n

/-- CABIN_BUS_TIMEOUT: the monitor ends an access of a master at `a` (13 R419, R439). -/
def State.cabinTimeout (s : State) (m : Master) (write : Bool) (a : Nat) : State :=
  if !inCabin a ∨ !s.pd 3 then s
  else if m.cabin then (s.tell (.irq "CABIN_MONITOR" a)).answer stFABRIC_ERR []
  else match s.bbRoute m a with
    | none => s
    | some (posted, compat) =>
      let s := s.tell (.irq "CABIN_MONITOR" a)
      if write && posted then
        match s.bridge.posted with
        | [] => s
        | (q, b, _) :: rest =>
          if q = m ∧ b = a then ({ s with bridge := { s.bridge with posted := rest } } : State).bbErr 0 a m true else s
      else (s.bbErr 1 a m true).answer (if compat then stFABRIC_ERR else stOK) (if compat || write then [] else List.replicate 4 0xFF)

end Sys2Proof.Machine
end

