-- ==== Sys2Proof/Machine/CmdCabin.lean ====
section
/-! DEFINITION. The Cabin Bus's controllers and the Body Bridge (13, 19). One meaning for each command. -/

namespace Sys2Proof.Machine

/-- CAN_FRAME_RECEIVE: controller `n` receives a frame of identifier word `w` (13 R434). -/
def execCanFrameReceive (n : Fin 12) (w : Nat) (data : List Byte) (s : State) : Host.Outcome State Fault Refusal :=
  .next (s.gate (s.islClk) (s.canReceive n w data))

/-- CAN_TX_REQ: a master makes transmit buffers of CANn ready (13 R434; 19 R617). -/
def execCanTxReq (m : Master) (n : Fin 12) (v : Nat) (s : State) : Host.Outcome State Fault Refusal :=
  .next (s.gate (s.clkOf m) (s.regSet m R.CAN_TX_REQ n.val 0 (v)))

/-- CAN_FRAME_SENT: the frame of controller `n` that wins arbitration has been sent (13 R434). -/
def execCanFrameSent (n : Fin 12) (s : State) : Host.Outcome State Fault Refusal :=
  .next (s.gate (s.islClk) (s.canSent n))

/-- CAN_TX_ABORT: a master withdraws transmit buffers of CANn (19 R617). -/
def execCanTxAbort (m : Master) (n : Fin 12) (v : Nat) (s : State) : Host.Outcome State Fault Refusal :=
  .next (s.gate (s.clkOf m) (s.regSet m R.CAN_TX_ABORT n.val 0 (v)))

/-- CAN_RESTART: a master writes CAN_CTRL.RESTART (13 R434; 19 R617). -/
def execCanRestart (m : Master) (n : Fin 12) (s : State) : Host.Outcome State Fault Refusal :=
  .next (s.gate (s.clkOf m) (s.regSet m R.CAN_CTRL n.val 0 (s.regVal R.CAN_CTRL n.val 0 ||| 2 ^ 29)))

/-- CAN_BUS_OFF: controller `n` goes bus-off (13 R434). -/
def execCanBusOff (n : Fin 12) (s : State) : Host.Outcome State Fault Refusal :=
  .next (s.gate (s.islClk) (s.canBusOff n))

/-- CAN_BUS_OFF_RECOVERY: controller `n` recovers (13 R434). -/
def execCanBusOffRecovery (n : Fin 12) (s : State) : Host.Outcome State Fault Refusal :=
  .next (s.gate (s.islClk) (s.canAutoRecover n))

/-- LIN_START: a master starts a LIN frame (13 R435; 19 R617). -/
def execLinStart (m : Master) (n : Fin 4) (s : State) : Host.Outcome State Fault Refusal :=
  .next (s.gate (s.clkOf m) (s.regSet m R.LIN_START n.val 0 (1)))

/-- LIN_DONE: a LIN frame ends (13 R435). -/
def execLinDone (n : Fin 4) (breakOk : Bool) (syncOk : Bool) (pid : Nat) (data : List Byte) (chk : Nat) (s : State) : Host.Outcome State Fault Refusal :=
  .next (s.gate (s.islClk) (s.linDone n breakOk syncOk pid data chk))

/-- LIN_RESPONSE_TIMEOUT: a LIN response does not arrive in time (13 R435). -/
def execLinResponseTimeout (n : Fin 4) (s : State) : Host.Outcome State Fault Refusal :=
  .next (s.gate (s.islClk) (s.linTimeout n))

/-- GPIO_EDGE: the debounced level of an input changes (13 R436). -/
def execGpioEdge (n : Fin 32) (rising : Bool) (s : State) : Host.Outcome State Fault Refusal :=
  .next (s.gate (s.islClk) (s.gpioEdge n rising))

/-- ISLAND_TIMER_EXPIRE: timer `n` reaches its compare value (13 R436). -/
def execIslandTimerExpire (n : Fin 8) (s : State) : Host.Outcome State Fault Refusal :=
  .next (s.gate (s.islClk) (s.timerExpire n))

/-- CABIN_BUS_TIMEOUT: the monitor ends an access of a master at `a` (13 R419, R439). -/
def execCabinBusTimeout (m : Master) (write : Bool) (a : Nat) (s : State) : Host.Outcome State Fault Refusal :=
  .next (s.gate (s.islClk) (s.cabinTimeout m write a))

/-- BB_POSTED_WRITE: a posted write is accepted, or with `perform` the oldest one performed (13 R437-R440). -/
def execBbPostedWrite (perform : Bool) (m : Master) (a : Nat) (data : List Byte) (s : State) : Host.Outcome State Fault Refusal :=
  .next (s.gate (if perform then s.islClk else s.clkOf m) (s.bbPosted perform m a data))

/-- BB_NONPOSTED_ACCESS: a non-posted access through the bridge (13 R437-R442). -/
def execBbNonpostedAccess (m : Master) (write : Bool) (a : Nat) (n : Nat) (data : List Byte) (lk : BusLock) (s : State) : Host.Outcome State Fault Refusal :=
  .next (s.gate (s.clkOf m) (s.bbAccess m write a n data lk))

/-- BB_LOCK_BREAK: the bridge breaks its lock before the access at `a` (13 R442). -/
def execBbLockBreak (a : Nat) (s : State) : Host.Outcome State Fault Refusal :=
  .next (s.gate (s.islClk) (s.bbLockBreak a))

/-- BB_OUTBOUND_ACCESS: an island master's access to the main fabric (13 R443). -/
def execBbOutboundAccess (m : Master) (write : Bool) (a : Nat) (n : Nat) (data : List Byte) (s : State) : Host.Outcome State Fault Refusal :=
  .next (s.gate (s.clkOf m) (s.bbOutbound m write a n data))

end Sys2Proof.Machine
end

