-- ==== Sys2Proof/Machine/VectorUnit.lean ====
section
/-! DEFINITION. The Vector Unit (05 R151-R155), the Requantiser (03 R75-R84; 05 R156, R157) and TCOPY.
A unit of work of VOP and VLUT is the elements of one segment of 256 operand bytes in element order (04 R106), of VRED one such
segment of one reduction, of REQ one row of the destination, of TCOPY one 64-byte line of it. -/

namespace Sys2Proof.Machine

/-- Rows of a descriptor: one per (i1, i2, i3). -/
def Desc.rows (t : Desc) : Nat := t.d1 * t.d2 * t.d3

/-- Row n as (i1, i2, i3). -/
def Desc.row (t : Desc) (n : Nat) : Nat × Nat × Nat := (n % t.d1, n / t.d1 % t.d2, n / (t.d1 * t.d2))

/-- Elements of a segment of the Vector Unit: 256 bytes of an operand of `e` bytes an element (04 R106). -/
def segElems (e : Nat) : Nat := 256 / e

/-- The elements of segment `n` of `total` elements in element order. -/
def segment (e total n : Nat) : List Nat :=
  ((List.range (segElems e)).map (fun x => n * segElems e + x)).filter (fun x => decide (x < total))

/-- The tile, row and column of accumulator element (r, c) of a tensor tiled over an accumulator range with
`cols` columns (05 R140). -/
def accAt (first cols r c : Nat) : Nat × Nat × Nat := (first + r / 32 * cdiv cols 32 + c / 32, r % 32, c % 32)

/-- Integer operations of VOP on exact operands (05 R151, R152); `w` is the source width of SHR. -/
def vopInt (op w : Nat) (a b : Int) : Int :=
  let u := fun (z : Int) => toU 32 z
  let back := fun (n : Nat) => sext 32 n
  match op with
  | 0 => a + b
  | 1 => a - b
  | 2 => a * b
  | 3 => max a b
  | 4 => min a b
  | 5 => if a < 0 then -a else a
  | 6 => -a
  | 7 => back (Nat.land (u a) (u b))
  | 8 => back (Nat.lor (u a) (u b))
  | 9 => back (Nat.xor (u a) (u b))
  | 10 => a * ((2 ^ (toU 5 b) : Nat) : Int)
  | 11 => fdiv a (2 ^ (toU 5 b))
  | 12 => ((toU w a >>> toU 5 b : Nat) : Int)
  | _ => a

/-- Floating-point operations of VOP: FP32 bits rounded once (05 R152; 03 R72 steps 3 and 4, R73). -/
def vopFp (op : Nat) (a b : FV) : Nat :=
  match op with
  | 0 => (fvSum [a, b]).toF32
  | 1 => (fvSum [a, b.negate]).toF32
  | 2 => (a.mul b).toF32
  | 3 => if a == .nan || b == .nan then nan32 else (if a.ltz b then b else a).toF32
  | 4 => if a == .nan || b == .nan then nan32 else (if b.ltz a then b else a).toF32
  | 5 => (match a with | .nan => FV.nan | .inf _ => FV.inf false | .fin _ m => FV.fin false m).toF32
  | _ => a.negate.toF32

/-- A format conversion of raw bits (03 R74): every pair of Vector Unit formats, through FP32 or I32. -/
def convert (src dst v : Nat) : Nat :=
  if fmtInt src then
    if fmtInt dst then intTo dst (intOf src v) else f32To dst (intToF32 (intOf src v))
  else
    let f := if src = 7 then v else (fvOf src v).toF32
    f32To dst f

/-- The source format of a VOP operand once an accumulator's kind is known (05 R151). -/
def accFmt (t : Kind) : Nat := if t = .fp then 7 else 6

/-- The start checks of VOP and VRED on an accumulator source (05 R151, R152): no set is EMPTY; but for CVT, which converts
each set by its own kind, the kinds agree (sources that mix classes are refused; notes/assumptions/123.md); and the type fits the
other source and an integer-only operation. -/
def vecStart (s : State) (k : EngineId) (d : Fin 8) (i : Ins) : UnitRes :=
  let w := s.drw k d
  match i.srca with
  | .acc a n =>
    let t := w.tag a
    let same := (List.range n).all (fun j => w.tag (a + j) == t)
    let af := accFmt t
    let op := bits i.mod 5 0
    let tB := isReg .T i.srcb
    let bI := fmtInt (w.desc i.srcb).fmt
    let cvt := i.opc == 0x30 && op == 13
    let okV := cvt || ((!tB || fmtInt af == bI) && (!(decide (7 ≤ op) && decide (op ≤ 12)) || fmtInt af))
    let empty := (List.range n).any (fun j => w.tag (a + j) == .empty)
    if empty ∨ (!cvt ∧ !same) ∨ (i.opc = 0x30 ∧ !okV) then (s, some stILLEGAL_OPERAND) else (s, none)
  | _ => (s, none)

/-- The bytes an element of the Vector Unit's segments takes: of the source of VOP, VLUT and VRED, 4 for an accumulator. -/
def vecSize (w : Drawer) (i : Ins) : Nat := if isAcc i.srca then 4 else esize (w.desc i.srca).fmt

/-- Segments of a VOP or VLUT. -/
def vecTotal (w : Drawer) (i : Ins) : Nat := cdiv (w.desc i.dst).count (segElems (vecSize w i))

/-- One segment of a VOP (05 R151, R152). -/
def vopUnit (s : State) (k : EngineId) (d : Fin 8) (i : Ins) (n : Nat) : UnitRes :=
  let w := s.drw k d
  let t := w.desc i.dst
  let a := w.desc i.srca
  let b := w.desc i.srcb
  let op := bits i.mod 5 0
  let accA := isAcc i.srca
  let tB := isReg .T i.srcb
  let xs := segment (vecSize w i) t.count n
  let place := fun x => accAt i.srca.first t.d0 (x / t.d0) (x % t.d0)
  let aBad := accA && xs.any (fun x => let p := place x; s.accBad k d p.1 p.2.1 p.2.2)
  let aOffs := if accA then [] else xs.map a.offN
  let bOffs := if tB then xs.map b.offN else []
  if aBad then (s.scrambleDesc k d t, some stACC_DETECT)
  else if s.lmBad k d aOffs (esize a.fmt) || s.lmBad k d bOffs (esize b.fmt) then (s.scrambleDesc k d t, some stLM_DETECT)
  else
    let val := fun x =>
      let af := if accA then accFmt (w.tag (place x).1) else a.fmt
      let av := if accA then (let p := place x; s.acc k d p.1 p.2.1 p.2.2) else s.elemN k d a x
      if op = 13 then convert af t.fmt av
      else if fmtInt af then
        let bv : Int := match i.srcb with
          | .reg .T _ => intOf b.fmt (s.elemN k d b x)
          | .reg _ r => sext 32 (w.rdS r)
          | .imm z => z
          | _ => 0
        intOut t.fmt (vopInt op (8 * esize af) (intOf af av) bv)
      else
        let bv : FV := match i.srcb with
          | .reg .T _ => fvOf b.fmt (s.elemN k d b x)
          | .reg _ r => fvF32 (w.rdS r)
          | .imm z => fvF32 (intToF32 z)
          | _ => .fin false 0
        f32To t.fmt (vopFp op (fvOf af av) bv)
    let (s1, bad) := s.lmStore k d (xs.flatMap (fun x => elemBytes (t.offN x) t.fmt (val x)))
    (s1, if bad then noteLM else none)

/-- The shape a VRED source has: a descriptor's counts; for an accumulator range, which 05 R153 gives none, whole tiles along the
reduced dimension beside the destination's other count, or for an S destination one row, one column or one element
(notes/assumptions/123.md). -/
def vredDims (i : Ins) (a t : Desc) : Nat × Nat × Nat × Nat :=
  if isAcc i.srca then
    let dim := bits i.mod 4 3
    let n := i.srca.nsets
    if isReg .T i.dst then
      match dim with
      | 0 => (32 * (n / cdiv t.d1 32), t.d1, 1, 1)
      | 1 => (t.d0, 32 * (n / cdiv t.d0 32), 1, 1)
      | _ => (t.d0, t.d1, 1, 1)
    else match dim with
      | 0 => (32 * n, 1, 1, 1)
      | 1 => (1, 32 * n, 1, 1)
      | _ => (1, 1, 1, 1)
  else (a.d0, a.d1, a.d2, a.d3)

/-- The result of a reduction over raw bits of one source format (05 R153); `fv` is the free value an
unordered ARGMAX or ARGMIN leaves (notes/assumptions/14.md). An I32 result in a DST of another format: notes/assumptions/124.md. -/
def vredVal (op fmt dfmt : Nat) (fv : Nat) (l : List Nat) : Nat :=
  let first := fun (le : Nat → Nat → Bool) =>
    -- the index of the first element that no other beats
    (l.foldl (fun (acc : Nat × Nat × Nat) v => let (j, bi, bv) := acc
      if j = 0 then (1, 0, v) else if le v bv then (j + 1, bi, bv) else (j + 1, j, v)) (0, 0, 0)).2.1
  if fmtInt fmt then
    let zs := l.map (fun v => intOf fmt v)
    match op with
    | 0 => intOut dfmt (sext 32 (toU 32 (zs.foldl (fun a b => a + b) 0)))
    | 1 => intOut dfmt (zs.foldl (fun a b => max a b) (zs.headD 0))
    | 2 => intOut dfmt (zs.foldl (fun a b => min a b) (zs.headD 0))
    | 3 => intOut dfmt (first (fun a b => decide (intOf fmt a ≤ intOf fmt b)))
    | _ => intOut dfmt (first (fun a b => decide (intOf fmt b ≤ intOf fmt a)))
  else
    let nan := l.any (fun v => fvOf fmt v == .nan)
    match op with
    | 0 => f32To dfmt (match l with
        | [] => 0
        | v :: r => r.foldl (fun a b => (fvSum [fvF32 a, fvOf fmt b]).toF32) (fvOf fmt v).toF32)
    | 1 => f32To dfmt (if nan then nan32 else
        ((l.map (fun v => fvOf fmt v)).foldl (fun a b => if a.ltz b then b else a) (fvOf fmt (l.headD 0))).toF32)
    | 2 => f32To dfmt (if nan then nan32 else
        ((l.map (fun v => fvOf fmt v)).foldl (fun a b => if b.ltz a then b else a) (fvOf fmt (l.headD 0))).toF32)
    | 3 => intOut dfmt (if nan then fv else first (fun a b => !(fvOf fmt b).lt (fvOf fmt a)))
    | _ => intOut dfmt (if nan then fv else first (fun a b => !(fvOf fmt a).lt (fvOf fmt b)))

/-- The length of each reduction of a VRED. -/
def vredLen (w : Drawer) (i : Ins) : Nat :=
  let (d0, d1, d2, d3) := vredDims i (w.desc i.srca) (w.desc i.dst)
  match bits i.mod 4 3 with | 0 => d0 | 1 => d1 | 2 => d2 | _ => d3

/-- The number of results of a VRED. -/
def vredResults (w : Drawer) (i : Ins) : Nat := if isReg .T i.dst then (w.desc i.dst).count else 1

/-- Segments of each reduction. -/
def vredSegs (w : Drawer) (i : Ins) : Nat := cdiv (vredLen w i) (segElems (vecSize w i))

/-- The number of units of a VRED. -/
def vredTotal (w : Drawer) (i : Ins) : Nat := vredResults w i * vredSegs w i

/-- The destination of a VRED left undefined (02 R46): its descriptor's elements, or its S register. -/
def vredUndefined (s : State) (k : EngineId) (d : Fin 8) (i : Ins) : State :=
  if isReg .T i.dst then s.scrambleDesc k d ((s.drw k d).desc i.dst)
  else s.nextFree.2.modDrw k d (fun w => w.wrS i.dst.num (Config.freeWord s.freeCtr i.dst.num).toNat)

/-- One segment of one reduction of a VRED (05 R153): its elements join those gathered before, and the last segment gives the
result. The format of a result in an S register, which R153 does not give: I32 for integer sources and for ARGMAX and ARGMIN, FP32 for
floating-point ones (notes/assumptions/124.md). -/
def vredUnit (s : State) (k : EngineId) (d : Fin 8) (e : Nat) (i : Ins) (u : Nat) : UnitRes :=
  let w := s.drw k d
  let t := w.desc i.dst
  let a := w.desc i.srca
  let accA := isAcc i.srca
  let dim := bits i.mod 4 3
  let d0 := (vredDims i a t).1
  let n := u / vredSegs w i
  let seg := u % vredSegs w i
  let tT := isReg .T i.dst
  let (j0, j1, j2, j3) := if tT then t.split n else (0, 0, 0, 0)
  let len := vredLen w i
  let at_ := fun x => (if dim = 0 then x else j0, if dim = 1 then x else j1, if dim = 2 then x else j2, if dim = 3 then x else j3)
  let af := if accA then accFmt (w.tag i.srca.first) else a.fmt
  let xs := segment (vecSize w i) len seg
  let accP := fun x => let (c, r, _, _) := at_ x; accAt i.srca.first d0 r c
  let aBad := accA && xs.any (fun x => let p := accP x; s.accBad k d p.1 p.2.1 p.2.2)
  let offs := if accA then [] else xs.map (fun x => let (p, q, r, u) := at_ x; a.off p q r u)
  if aBad then (vredUndefined s k d i, some stACC_DETECT)
  else if s.lmBad k d offs (esize a.fmt) then (vredUndefined s k d i, some stLM_DETECT)
  else
    let vals := xs.map (fun x =>
      if accA then (let p := accP x; s.acc k d p.1 p.2.1 p.2.2) else (let (p, q, r, u) := at_ x; s.elem k d a p q r u))
    let all := (if seg = 0 then [] else match w.sb[e]? with | some q => q.acc | none => []) ++ vals
    if seg + 1 < vredSegs w i then (s.modEnt k d e (fun q => { q with acc := all }), none)
    else
      let (c, s) := s.nextFree
      let op := bits i.mod 2 0
      let dfmt := if tT then t.fmt else if 3 ≤ op then 6 else if fmtInt af then 6 else 7
      let v := vredVal op af dfmt ((Config.freeWord c n).toNat % (len + 1)) all
      if tT then
        let (s1, bad) := s.lmStore k d (elemBytes (t.off j0 j1 j2 j3) t.fmt v)
        (s1, if bad then noteLM else none)
      else (s.modDrw k d (fun w => w.wrS i.dst.num v), none)

/-- One segment of a VLUT (05 R154). -/
def vlutUnit (s : State) (k : EngineId) (d : Fin 8) (i : Ins) (n : Nat) : UnitRes :=
  let w := s.drw k d
  let t := w.desc i.dst
  let a := w.desc i.srca
  let b := w.desc i.srcb
  let xs := segment (vecSize w i) t.count n
  let idx := fun x => (sext 8 (s.elemN k d a x) + 128).toNat
  if s.lmBad k d (xs.map a.offN) 1 || s.lmBad k d (xs.map (fun x => b.off (idx x) 0 0 0)) (esize b.fmt) then
    (s.scrambleDesc k d t, some stLM_DETECT)
  else
    let (s1, bad) := s.lmStore k d (xs.flatMap (fun x => elemBytes (t.offN x) t.fmt (s.elem k d b (idx x) 0 0 0)))
    (s1, if bad then noteLM else none)

/-- round_shift (03 R78). -/
def roundShift (p : Int) (sh mode : Nat) : Int :=
  let m := 2 ^ sh
  match mode with
  | 1 =>
    let q := fdiv p m
    let r := (p - q * (m : Int)).toNat
    if 2 * r > m ∨ (2 * r = m ∧ q % 2 ≠ 0) then q + 1 else q
  | 2 => fdiv p m
  | _ => if sh = 0 then p else
      let q := ((2 * p.natAbs + m) / (2 * m) : Nat)
      if p < 0 then -(q : Int) else q

/-- One channel entry of a Requantiser table (03 R75). -/
structure ReqEntry where
  mult : Int
  shift : Nat
  round : Nat
  bias : Int
  zp : Int
  lo : Int
  hi : Int
  deriving DecidableEq, Repr

/-- The entry of channel c at window offset q + 16 + 12 c. -/
def State.reqEntry (s : State) (k : EngineId) (d : Fin 8) (q c : Nat) : ReqEntry :=
  let o := q + 16 + 12 * c
  let b := fun x n => s.lmNat k d (o + x) n
  { mult := sext 16 (b 0 2), shift := bits (b 2 1) 5 0, round := bits (b 3 1) 1 0, bias := sext 32 (b 4 4),
    zp := sext 8 (b 8 1), lo := sext 8 (b 9 1), hi := sext 8 (b 10 1) }

/-- The I8 result of one accumulator value, and whether it clipped (03 R77-R79). -/
def requant (e : ReqEntry) (gse : Nat) (acc : Int) : Int × Bool :=
  let p := (acc + e.bias) * e.mult
  let y := roundShift p (e.shift + gse) e.round + e.zp
  let out := min (max y e.lo) e.hi
  (out, out != y)

/-- The channel of column c under base b (03 R76). -/
def reqChan (channels b c : Nat) : Nat := if channels = 1 then 0 else b + c

/-- The start of a REQ (03 R81): tags, header, CHANNELS, window of the entries, entries. -/
def reqStart (s : State) (k : EngineId) (d : Fin 8) (i : Ins) : UnitRes :=
  let w := s.drw k d
  let t := w.desc i.dst
  let q := w.rdQ i.srcb.num
  let b := bits i.imm 11 0
  let ch := s.lmNat k d (q + 4) 2
  let lo := q + 16 + 12 * reqChan ch b 0
  let n := if ch = 1 then 12 else 12 * t.d0
  if i.srca.sets.any (fun a => w.tag a != .int) then (s, some stILLEGAL_OPERAND)
  else if s.lmBad k d [q] 16 then (s, some stLM_DETECT)
  else if ch = 0 ∨ 4096 < ch ∨ (1 < ch ∧ ch ≤ b + t.d0 - 1) then (s, some stILLEGAL_OPERAND)
  else if s.winBytes k d < lo + n then (s, some stLM_BOUNDS)
  else if s.lmBad k d [lo] n then (s, some stLM_DETECT)
  else (s, none)

/-- One row of a REQ: the row converted and written (03 R77). What clips is recorded at completion. -/
def reqUnit (s : State) (k : EngineId) (d : Fin 8) (e : Nat) (i : Ins) (n : Nat) : UnitRes :=
  let w := s.drw k d
  let t := w.desc i.dst
  let q := w.rdQ i.srcb.num
  let b := bits i.imm 11 0
  let ch := s.lmNat k d (q + 4) 2
  let gse := bits (s.lmNat k d q 1) 3 0
  let xs := List.range t.d0
  let pos := fun c => accAt i.srca.first t.d0 n c
  if xs.any (fun c => let p := pos c; s.accBad k d p.1 p.2.1 p.2.2) then (s.scrambleDesc k d t, some stACC_DETECT)
  else
    let res := xs.map (fun c =>
      let p := pos c
      requant (s.reqEntry k d q (reqChan ch b c)) gse (sext 32 (s.acc k d p.1 p.2.1 p.2.2)))
    let (s1, bad) := s.lmStore k d (xs.flatMap (fun c => elemBytes (t.off c n 0 0) 0 (toU 8 (nth (0, false) res c).1)))
    if bad then (s1.scrambleDesc k d t, some stLM_DETECT)
    else
      let clipped := xs.filter (fun c => (nth (0, false) res c).2)
      (s1.modEnt k d e (fun u => { u with acc := (clipped.map (fun c => reqChan ch b c)) ++ u.acc }), none)

/-- The end of a REQ that completes OK (03 R82, R83): CLIPPED bits, CLIP_STEP, and the step's close. A granule of the table whose code
fails stays as it is, and the REQ completes with LM_DETECT (02 R46). -/
def reqEnd (s : State) (k : EngineId) (d : Fin 8) (e : Nat) (i : Ins) : UnitRes :=
  let w := s.drw k d
  match w.sb[e]? with
  | none => (s, none)
  | some ent =>
    let q := w.rdQ i.srcb.num
    let clip := ent.acc
    let (s1, bad1) := clip.foldl (fun (t : State × Bool) c =>
      let o := q + 16 + 12 * c + 3
      let (s, b) := t.1.lmStore k d [(o, byteOf (Nat.lor (t.1.lmNat k d o 1) 128) 0)]
      (s, t.2 || b)) (s, false)
    let fl := s1.lmNat k d (q + 2) 1
    let fl1 := if clip = [] then fl else Nat.lor fl 2
    let gse := s1.lmNat k d q 1
    let gmax := bits (s1.lmNat k d (q + 1) 1) 3 0
    let (fl2, gse2) :=
      if bit i.mod 0 then
        let hit := bit fl1 0 && bit fl1 1
        let raise := hit && decide (bits gse 3 0 < gmax)
        let f := if hit && !raise then Nat.lor fl1 4 else fl1
        (putBits f 1 1 0, if raise then putBits gse 3 0 (bits gse 3 0 + 1) else gse)
      else (fl1, gse)
    let ws := (if fl2 = fl then [] else [(q + 2, byteOf fl2 0)]) ++ (if gse2 = gse then [] else [(q, byteOf gse2 0)])
    let (s2, bad2) := s1.lmStore k d ws
    if bad1 || bad2 then (s2.scrambleDesc k d (w.desc i.dst), some stLM_DETECT) else (s2, none)

/-- The elements of a TCOPY by lines of the destination: the offset in DST and in SRCA of each (of its bytes for B4). -/
def copyPieces (w : Drawer) (i : Ins) : List (List (Nat × Nat)) :=
  let t := w.desc i.dst
  let a := w.desc i.srca
  byLine (((List.range t.count).filter (fun x => t.fmt != 1 || x % 2 == 0)).map (fun x => (t.offN x, a.offN x)))

/-- One line of a TCOPY (05 R136). -/
def tcopyUnit (s : State) (k : EngineId) (d : Fin 8) (i : Ins) (n : Nat) : UnitRes :=
  let w := s.drw k d
  let t := w.desc i.dst
  let es := esize t.fmt
  let p := nth [] (copyPieces w i) n
  if s.lmBad k d (p.map (fun q => q.2)) es then (s.scrambleDesc k d t, some stLM_DETECT)
  else
    let (s1, bad) := s.lmStore k d (p.flatMap (fun q => runOf q.1 (leBytes (s.lmNat k d q.2 es) es)))
    (s1, if bad then noteLM else none)

end Sys2Proof.Machine
end

