-- ==== Sys2Proof/Machine/Compute.lean ====
section
/-! DEFINITION. The instructions of the Tensor Array, the Vector Unit, the Requantiser and TCOPY as units of work (05 R136-R157;
06 R173-R182), and the completion of a placed instruction (02 R54; 04 R98, R110, R111). -/

namespace Sys2Proof.Machine

/-- TCOPY: one line of the destination a unit (04 R106; 05 R136). -/
def tcopyOps (k : EngineId) : UnitOps :=
  { start := noCheck, total := fun s d i => (copyPieces (s.drw k d) i).length, ready := always,
    unit := fun s d i n => tcopyUnit s k d i n, fin := noCheck }

/-- The codebook that a started Array instruction carries. -/
def bookOf (s : State) (k : EngineId) (d : Fin 8) (e : Nat) : List Nat :=
  match (s.drw k d).sb[e]? with
  | some t => t.acc
  | none => []

/-- MMA, CONV and DWCONV: one step a unit (02 R34; 05 R139-R148; 06 R177-R179); an output of no size is EMPTY (05 R148). -/
def arrayOps (k : EngineId) (e : Nat) : UnitOps :=
  { start := fun s d i =>
      if i.opc != 0x20 && (decide ((windowOf i ((s.drw k d).desc i.srca) ((s.drw k d).desc i.srcb)).out.1 ≤ 0)
          || decide ((windowOf i ((s.drw k d).desc i.srca) ((s.drw k d).desc i.srcb)).out.2 ≤ 0)) then (s, some stEMPTY)
      else arrStart s k d e i
    total := fun s d i => (arrShape (s.drw k d) i (bookOf s k d e)).steps
    ready := always
    unit := fun s d i n => arrUnit s k d e i n
    fin := fun s d i => arrBoundary s k d e i }

/-- POOL: one tile a unit (05 R149; 06 R181). -/
def poolOps (k : EngineId) : UnitOps :=
  { start := fun s d i =>
      let v := windowOf i ((s.drw k d).desc i.srca) ((s.drw k d).desc i.srcb)
      if v.out.1 ≤ 0 ∨ v.out.2 ≤ 0 then (s, some stEMPTY) else (s, none)
    total := fun s d i => poolTotal (s.drw k d) i
    ready := always
    unit := fun s d i n => poolUnit s k d i n
    fin := noCheck }

/-- A sub-pass boundary of a running MMA or CONV (02 R39, R41, R44): the comparison is made; a failure ends the
instruction. A boundary may fall at any step (notes/assumptions/25.md). -/
def State.subPass (s : State) (k : EngineId) (e : Nat) : State :=
  match s.entry k e with
  | none => s
  | some (d, t, i) =>
    if t.st ≠ .running ∨ (i.opc ≠ 0x20 ∧ i.opc ≠ 0x21 ∧ i.opc ≠ 0x22) then s
    else match arrBoundary s k d e i with
      | (s, some st) => s.setDone k d e st
      | (s, none) => s

/-- VOP: one segment a unit (04 R106; 05 R151). -/
def vopOps (k : EngineId) : UnitOps :=
  { start := fun s d i => vecStart s k d i, total := fun s d i => vecTotal (s.drw k d) i, ready := always,
    unit := fun s d i n => vopUnit s k d i n, fin := noCheck }

/-- VRED: one segment of one reduction a unit (04 R106; 05 R153). -/
def vredOps (k : EngineId) (e : Nat) : UnitOps :=
  { start := fun s d i => vecStart s k d i, total := fun s d i => vredTotal (s.drw k d) i, ready := always,
    unit := fun s d i n => vredUnit s k d e i n, fin := noCheck }

/-- VLUT: one segment a unit (04 R106; 05 R154). -/
def vlutOps (k : EngineId) : UnitOps :=
  { start := noCheck, total := fun s d i => vecTotal (s.drw k d) i, ready := always,
    unit := fun s d i n => vlutUnit s k d i n, fin := noCheck }

/-- REQ: one row a unit (03 R77-R83). -/
def reqOps (k : EngineId) (e : Nat) : UnitOps :=
  { start := fun s d i => reqStart s k d i, total := fun s d i => ((s.drw k d).desc i.dst).rows, ready := always,
    unit := fun s d i n => reqUnit s k d e i n, fin := fun s d i => reqEnd s k d e i }

/-- What LAST releases at an OK or informational completion (04 R98). -/
def Drawer.release (w : Drawer) (s : State) (k : EngineId) (d : Fin 8) (i : Ins) : Drawer :=
  if !i.last then w
  else match i.srca with
    | .acc _ _ => i.srca.sets.foldl (fun w a => w.setTag a .empty) w
    | .reg .T _ => w.releasePages (w.desc i.srca).range (footOf s k d i).wr
    | _ => w

/-- Scoreboard entry `e` of engine `k`, its results and status there, completes and frees its entry (02 R54): the LAST
release and the INFO bit, or the drawer's fault (04 R98, R110, R111; 18 R603). The Island Engine reports its faults when
its job ends (13 R432). -/
def State.complete (s : State) (k : EngineId) (e : Nat) : State :=
  match s.entry k e with
  | none => s
  | some (d, t, i) =>
    if t.st ≠ .done then s
    else
      let s := s.sample k d t t.status false
      let s := if t.status = stLM_BOUNDS then s.teErr k F.TE_ERR_LM_BOUNDS else s
      let s := if isInfo t.status ∧ t.status ≠ stOK then s.countEvent k 0x17 else s
      let s := s.modDrw k d (fun w =>
        let w1 : Drawer := { w with sb := w.sb.take e ++ w.sb.drop (e + 1) }
        if isInfo t.status then
          let w2 := w1.release s k d i
          { w2 with info := w2.info ||| infoBit t.status }
        else if isProgErr t.status || isDetect t.status then w1.recordFault t.word t.seq t.status
        else w1)
      if (isProgErr t.status || isDetect t.status) && (s.eng k).st == .running then s.beginDrain k .fault else s

end Sys2Proof.Machine
end

