-- ==== Sys2Proof/Machine/CmdEngine.lean ====
section
/-! DEFINITION. The commands of the engines, the network and the clusters (02 to 08). One meaning for each command. -/

namespace Sys2Proof.Machine

/-- INSTRUCTION_ISSUE: the issue unit of engine `k` takes its next instruction (02 R53-R55; 04 R99, R104, R117). -/
def execInstructionIssue (k : EngineId) (s : State) : Host.Outcome State Fault Refusal :=
  .next (s.gate (s.aclkOn k) (s.issue k none))

/-- INSTRUCTION_COMPLETE: entry `e` of engine `k` completes (02 R54; 04 R98, R110, R111). -/
def execInstructionComplete (k : EngineId) (e : Nat) (s : State) : Host.Outcome State Fault Refusal :=
  .next (s.gate (s.aclkOn k) (s.complete k e))

/-- NOP: engine `k` issues it: no effect (05 R126). -/
def execNop (k : EngineId) (s : State) : Host.Outcome State Fault Refusal :=
  .next (s.gate (s.aclkOn k) (s.issue k (some 0x00)))

/-- HALT: engine `k` issues it: waits for what came before and ends the job on its rank (05 R127; 09 R268). -/
def execHalt (k : EngineId) (s : State) : Host.Outcome State Fault Refusal :=
  .next (s.gate (s.aclkOn k) (s.issue k (some 0x01)))

/-- YIELD: engine `k` issues it: waits for what came before (05 R128). -/
def execYield (k : EngineId) (s : State) : Host.Outcome State Fault Refusal :=
  .next (s.gate (s.aclkOn k) (s.issue k (some 0x02)))

/-- BR: engine `k` issues it: issue goes on at the target (05 R126). -/
def execBr (k : EngineId) (s : State) : Host.Outcome State Fault Refusal :=
  .next (s.gate (s.aclkOn k) (s.issue k (some 0x03)))

/-- BRC: engine `k` issues it: a conditional branch (05 R129). -/
def execBrc (k : EngineId) (s : State) : Host.Outcome State Fault Refusal :=
  .next (s.gate (s.aclkOn k) (s.issue k (some 0x04)))

/-- LOOP: engine `k` issues it: a loop opens or is skipped (05 R131). -/
def execLoop (k : EngineId) (s : State) : Host.Outcome State Fault Refusal :=
  .next (s.gate (s.aclkOn k) (s.issue k (some 0x05)))

/-- ENDL: engine `k` issues it: a loop ends or goes round (05 R131). -/
def execEndl (k : EngineId) (s : State) : Host.Outcome State Fault Refusal :=
  .next (s.gate (s.aclkOn k) (s.issue k (some 0x06)))

/-- SMOV: engine `k` issues it: a move (05 R133). -/
def execSmov (k : EngineId) (s : State) : Host.Outcome State Fault Refusal :=
  .next (s.gate (s.aclkOn k) (s.issue k (some 0x08)))

/-- SADD: engine `k` issues it: scalar arithmetic (05 R134). -/
def execSadd (k : EngineId) (s : State) : Host.Outcome State Fault Refusal :=
  .next (s.gate (s.aclkOn k) (s.issue k (some 0x09)))

/-- TDSET: engine `k` issues it: a descriptor is written (05 R135). -/
def execTdset (k : EngineId) (s : State) : Host.Outcome State Fault Refusal :=
  .next (s.gate (s.aclkOn k) (s.issue k (some 0x0a)))

/-- TLOAD: entry `e` of engine `k` starts where it may, and does up to `n` units: fabric to Local Memory (05 R136). -/
def execTload (k : EngineId) (e : Nat) (n : Nat) (s : State) : Host.Outcome State Fault Refusal :=
  .next (s.gate (s.aclkOn k) (s.runUnit k e n 0x10 (tloadOps k)))

/-- TSTORE: entry `e` of engine `k` starts where it may, and does up to `n` units: Local Memory to fabric (05 R136). -/
def execTstore (k : EngineId) (e : Nat) (n : Nat) (s : State) : Host.Outcome State Fault Refusal :=
  .next (s.gate (s.aclkOn k) (s.runUnit k e n 0x11 (tstoreOps k)))

/-- TCOPY: entry `e` of engine `k` starts where it may, and does up to `n` units: Local Memory to Local Memory (05 R137). -/
def execTcopy (k : EngineId) (e : Nat) (n : Nat) (s : State) : Host.Outcome State Fault Refusal :=
  .next (s.gate (s.aclkOn k) (s.runUnit k e n 0x12 (tcopyOps k)))

/-- MMA: entry `e` of engine `k` starts where it may, and does up to `n` units: matrix product (02 R34; 05 R139-R148). -/
def execMma (k : EngineId) (e : Nat) (n : Nat) (s : State) : Host.Outcome State Fault Refusal :=
  .next (s.gate (s.aclkOn k) (s.runUnit k e n 0x20 (arrayOps k e)))

/-- CONV: entry `e` of engine `k` starts where it may, and does up to `n` units: convolution (06 R177). -/
def execConv (k : EngineId) (e : Nat) (n : Nat) (s : State) : Host.Outcome State Fault Refusal :=
  .next (s.gate (s.aclkOn k) (s.runUnit k e n 0x21 (arrayOps k e)))

/-- DWCONV: entry `e` of engine `k` starts where it may, and does up to `n` units: depth-wise convolution (06 R179). -/
def execDwconv (k : EngineId) (e : Nat) (n : Nat) (s : State) : Host.Outcome State Fault Refusal :=
  .next (s.gate (s.aclkOn k) (s.runUnit k e n 0x22 (arrayOps k e)))

/-- POOL: entry `e` of engine `k` starts where it may, and does up to `n` units: pooling (05 R149; 06 R181). -/
def execPool (k : EngineId) (e : Nat) (n : Nat) (s : State) : Host.Outcome State Fault Refusal :=
  .next (s.gate (s.aclkOn k) (s.runUnit k e n 0x23 (poolOps k)))

/-- ARRAY_SUB_PASS_BOUNDARY: the comparison of the check sums of entry `e` (02 R39, R41, R44). -/
def execArraySubPassBoundary (k : EngineId) (e : Nat) (s : State) : Host.Outcome State Fault Refusal :=
  .next (s.gate (s.aclkOn k) (s.subPass k e))

/-- VOP: entry `e` of engine `k` starts where it may, and does up to `n` units: elementwise operation (05 R151). -/
def execVop (k : EngineId) (e : Nat) (n : Nat) (s : State) : Host.Outcome State Fault Refusal :=
  .next (s.gate (s.aclkOn k) (s.runUnit k e n 0x30 (vopOps k)))

/-- VRED: entry `e` of engine `k` starts where it may, and does up to `n` units: reduction (05 R153). -/
def execVred (k : EngineId) (e : Nat) (n : Nat) (s : State) : Host.Outcome State Fault Refusal :=
  .next (s.gate (s.aclkOn k) (s.runUnit k e n 0x31 (vredOps k e)))

/-- VLUT: entry `e` of engine `k` starts where it may, and does up to `n` units: table lookup (05 R154). -/
def execVlut (k : EngineId) (e : Nat) (n : Nat) (s : State) : Host.Outcome State Fault Refusal :=
  .next (s.gate (s.aclkOn k) (s.runUnit k e n 0x32 (vlutOps k)))

/-- REQ: entry `e` of engine `k` starts where it may, and does up to `n` units: requantisation (03 R77-R83). -/
def execReq (k : EngineId) (e : Nat) (n : Nat) (s : State) : Host.Outcome State Fault Refusal :=
  .next (s.gate (s.aclkOn k) (s.runUnit k e n 0x40 (reqOps k e)))

/-- GATHER: entry `e` of engine `k` starts where it may, and its units work in the order of `sched` (05 R158-R160; 07 R221-R223). -/
def execGather (k : EngineId) (e : Nat) (sched : List (Fin 4)) (s : State) : Host.Outcome State Fault Refusal :=
  .next (s.gate (s.aclkOn k) (s.runGs k e 0x50 sched))

/-- SCATTER: entry `e` of engine `k` starts where it may, and its units work in the order of `sched` (05 R161, R162; 07 R221-R223). -/
def execScatter (k : EngineId) (e : Nat) (sched : List (Fin 4)) (s : State) : Host.Outcome State Fault Refusal :=
  .next (s.gate (s.aclkOn k) (s.runGs k e 0x51 sched))

/-- MINS: entry `e` of engine `k` starts where it may, and does up to `n` units: insertion of pairs (07 R202-R206). -/
def execMins (k : EngineId) (e : Nat) (n : Nat) (s : State) : Host.Outcome State Fault Refusal :=
  .next (s.gate (s.aclkOn k) (s.runUnit k e n 0x60 (minsOps k e)))

/-- MSEAL_SEAL: the CMU accepts the seal of entry `e` (07 R207, R213, R214). -/
def execMsealSeal (k : EngineId) (e : Nat) (s : State) : Host.Outcome State Fault Refusal :=
  .next (s.gate (s.aclkOn k) (s.mseal k e false))

/-- MSEAL_CLEAR: the CMU empties the share (07 R208). -/
def execMsealClear (k : EngineId) (e : Nat) (s : State) : Host.Outcome State Fault Refusal :=
  .next (s.gate (s.aclkOn k) (s.mseal k e true))

/-- MLOOK: entry `e` of engine `k` starts where it may, and does up to `n` units: lookups (07 R209). -/
def execMlook (k : EngineId) (e : Nat) (n : Nat) (s : State) : Host.Outcome State Fault Refusal :=
  .next (s.gate (s.aclkOn k) (s.runUnit k e n 0x62 (mlookOps k)))

/-- MKMAP: entry `e` of engine `k` starts where it may, and does up to `n` units: kernel map (07 R210). -/
def execMkmap (k : EngineId) (e : Nat) (n : Nat) (s : State) : Host.Outcome State Fault Refusal :=
  .next (s.gate (s.aclkOn k) (s.runUnit k e n 0x63 (mkmapOps k)))

/-- MNBR: entry `e` of engine `k` starts where it may, and does up to `n` units: neighbour lists (07 R219, R220). -/
def execMnbr (k : EngineId) (e : Nat) (n : Nat) (s : State) : Host.Outcome State Fault Refusal :=
  .next (s.gate (s.aclkOn k) (s.runUnit k e n 0x64 (mnbrOps k)))

/-- MAP_BATCH: the CMU serves the next batch of entry `e` (07 R212). -/
def execMapBatch (k : EngineId) (e : Nat) (s : State) : Host.Outcome State Fault Refusal :=
  .next (s.gate (s.aclkOn k) (s.mapBatch k e))

/-- SEAL_END: the seal of share `n` ends (07 R207, R213, R216). -/
def execSealEnd (n : Fin 8) (s : State) : Host.Outcome State Fault Refusal :=
  .next (s.gate (s.mainClk) (s.sealEnd n))

/-- SEND: entry `e` of engine `k` starts where it may, and does up to `n` units: flits sent for credits (08 R235). -/
def execSend (k : EngineId) (e : Nat) (n : Nat) (s : State) : Host.Outcome State Fault Refusal :=
  .next (s.gate (s.aclkOn k) (s.runUnit k e n 0x70 (sendOps k)))

/-- RECV: entry `e` of engine `k` starts where it may, and does up to `n` units: flits taken, credits returned (08 R235). -/
def execRecv (k : EngineId) (e : Nat) (n : Nat) (s : State) : Host.Outcome State Fault Refusal :=
  .next (s.gate (s.aclkOn k) (s.runUnit k e n 0x71 (recvOps k)))

/-- FLIT_ARRIVE: flit `j` under way reaches its engine (08 R229, R234, R237). -/
def execFlitArrive (j : Nat) (s : State) : Host.Outcome State Fault Refusal :=
  .next (s.gate (s.mainClk) (s.flitArrive j).schSettle)

/-- CREDIT_RETURN: credit `j` under way reaches its endpoint (08 R229, R235). -/
def execCreditReturn (j : Nat) (s : State) : Host.Outcome State Fault Refusal :=
  .next (s.gate (s.mainClk) (s.creditReturn j))

/-- QUEUE_CREDIT_GRANT: queue `q` grants (08 R241-R243). -/
def execQueueCreditGrant (q : Fin 32) (s : State) : Host.Outcome State Fault Refusal :=
  .next (s.gate (s.mainClk) (s.queueGrant q).schSettle)

/-- QUEUE_DELIVER: queue `q` delivers its oldest flit (08 R244). -/
def execQueueDeliver (q : Fin 32) (s : State) : Host.Outcome State Fault Refusal :=
  .next (s.gate (s.mainClk) (s.queueDeliver q).schSettle)

/-- STREAM_STALL: a SEND or RECV of engine `k` has waited (08 R248). -/
def execStreamStall (k : EngineId) (e : Nat) (s : State) : Host.Outcome State Fault Refusal :=
  .next (s.gate (s.aclkOn k) (s.streamStall k e))

/-- SWAIT: entry `e` waits for a semaphore and takes it (05 R166, R167). -/
def execSwait (k : EngineId) (e : Nat) (s : State) : Host.Outcome State Fault Refusal :=
  .next (s.gate (s.aclkOn k) (s.swait k e))

/-- SSIG: entry `e` adds to a semaphore (05 R166, R167). -/
def execSsig (k : EngineId) (e : Nat) (s : State) : Host.Outcome State Fault Refusal :=
  .next (s.gate (s.aclkOn k) (s.ssig k e).schSettle)

/-- BARR: entry `e` reaches its barrier (05 R168). -/
def execBarr (k : EngineId) (e : Nat) (s : State) : Host.Outcome State Fault Refusal :=
  .next (s.gate (s.aclkOn k) (s.barr k e))

/-- CHKPT: entry `e` writes a checkpoint (05 R169, R170; 10 R302, R303). -/
def execChkpt (k : EngineId) (e : Nat) (s : State) : Host.Outcome State Fault Refusal :=
  .next (s.gate (s.aclkOn k) (s.chkpt k e))

/-- POST: the cluster's PPU accepts the request of entry `e` (05 R171; 06 R183). -/
def execPost (k : EngineId) (e : Nat) (s : State) : Host.Outcome State Fault Refusal :=
  .next (s.gate (s.aclkOn k) (s.post k e))

/-- PPU_SERVE: PPU `c` works up to its commit phase (06 R184-R191, R193). -/
def execPpuServe (c : Fin 4) (s : State) : Host.Outcome State Fault Refusal :=
  .next (s.gate (s.mainClk) (s.ppuServe c).schSettle)

/-- PPU_COMMIT: PPU `c` commits (06 R192, R195). -/
def execPpuCommit (c : Fin 4) (s : State) : Host.Outcome State Fault Refusal :=
  .next (s.gate (s.mainClk) (s.ppuCommit c).schSettle)

end Sys2Proof.Machine
end

