-- ==== Sys2Proof/Machine/CmdHost.lean ====
section
/-! DEFINITION. The host interface and virtualisation (15, 09). One meaning for each command. -/

namespace Sys2Proof.Machine

/-- INBOUND_REQUEST: a request of the host to function `f` (15 R507-R515; 18 R608; 19 R631). -/
def execInboundRequest (f : Fin 32) (q : Inbound) (s : State) : Host.Outcome State Fault Refusal :=
  .next (s.gate (s.mainClk) (s.inbound f q))

/-- OUTBOUND_REQUEST: a request to host memory (15 R513, R536). -/
def execOutboundRequest (m : Master) (write : Bool) (a : Nat) (n : Nat) (data : List Byte) (s : State) : Host.Outcome State Fault Refusal :=
  .next (s.gate (s.clkOf m) (s.outboundRequest m write a n data))

/-- OUTBOUND_TIMEOUT: a read of host memory times out (15 R506). -/
def execOutboundTimeout (m : Master) (a : Nat) (n : Nat) (s : State) : Host.Outcome State Fault Refusal :=
  .next (s.gate (s.clkOf m) (s.outboundTimeout m a n))

/-- HIF_ATTACH: function `f` attaches with the record at `a` (15 R516-R518). -/
def execHifAttach (f : Fin 33) (core : Fin 2) (a : Nat) (s : State) : Host.Outcome State Fault Refusal :=
  .next (s.gate (s.mainClk) (s.pageWrite f core R.HIF_ATTACH (a % 2 ^ 48)))

/-- HIF_DETACH: function `f` detaches (15 R518). -/
def execHifDetach (f : Fin 33) (core : Fin 2) (s : State) : Host.Outcome State Fault Refusal :=
  .next (s.gate (s.mainClk) (s.pageWrite f core R.HIF_ATTACH (2 ^ 63)))

/-- SUBMISSION_TAIL: the submission tail of function `f` moves (15 R521, R523). -/
def execSubmissionTail (f : Fin 33) (core : Fin 2) (idx : Nat) (s : State) : Host.Outcome State Fault Refusal :=
  .next (s.gate (s.mainClk) (s.pageWrite f core R.HIF_DOORBELL (idx % 4096)))

/-- COMPLETION_HEAD: the completion head of function `f` moves (15 R522, R523). -/
def execCompletionHead (f : Fin 33) (core : Fin 2) (idx : Nat) (s : State) : Host.Outcome State Fault Refusal :=
  .next (s.gate (s.mainClk) (s.pageWrite f core R.HIF_DOORBELL (2 ^ 30 + idx % 4096)))

/-- EVENT_HEAD: the event head of function `f` moves (15 R522, R523). -/
def execEventHead (f : Fin 33) (core : Fin 2) (idx : Nat) (s : State) : Host.Outcome State Fault Refusal :=
  .next (s.gate (s.mainClk) (s.pageWrite f core R.HIF_DOORBELL (2 ^ 31 + idx % 4096)))

/-- HEARTBEAT: a heartbeat doorbell of function `f` (15 R531). -/
def execHeartbeat (f : Fin 33) (core : Fin 2) (s : State) : Host.Outcome State Fault Refusal :=
  .next (s.gate (s.mainClk) (s.pageWrite f core R.HIF_DOORBELL (3 * 2 ^ 30)))

/-- CMD_NOP: the command at the head of function `f`'s submission ring: no effect. -/
def execCmdNop (f : Fin 33) (s : State) : Host.Outcome State Fault Refusal :=
  .next (s.command f 0x00 0 cmdNop)

/-- CABINET_CREATE: the command at the head of function `f`'s submission ring: a host cabinet is created (15 R527). -/
def execCabinetCreate (f : Fin 33) (s : State) : Host.Outcome State Fault Refusal :=
  .next (s.command f 0x01 1 (cmdCabinetCreate f))

/-- CABINET_DESTROY: the command at the head of function `f`'s submission ring: a cabinet is destroyed (15 R525). -/
def execCabinetDestroy (f : Fin 33) (s : State) : Host.Outcome State Fault Refusal :=
  .next (s.command f 0x02 1 (cmdCabinetDestroy f))

/-- CONTEXT_CREATE: the command at the head of function `f`'s submission ring: a context is created (09 R262, R263). -/
def execContextCreate (f : Fin 33) (s : State) : Host.Outcome State Fault Refusal :=
  .next (s.command f 0x03 2 (cmdContextCreate f))

/-- CONTEXT_DESTROY: the command at the head of function `f`'s submission ring: a context is destroyed (15 R525). -/
def execContextDestroy (f : Fin 33) (s : State) : Host.Outcome State Fault Refusal :=
  .next (s.command f 0x04 2 (cmdContextDestroy f))

/-- JOB_SUBMIT: the command at the head of function `f`'s submission ring: a job is queued (09 R265-R267). -/
def execJobSubmit (f : Fin 33) (s : State) : Host.Outcome State Fault Refusal :=
  .next (s.command f 0x05 2 (cmdJobSubmit f))

/-- ABORT: the command at the head of function `f`'s submission ring: a context or a cabinet is aborted (09 R280-R283). -/
def execAbort (f : Fin 33) (s : State) : Host.Outcome State Fault Refusal :=
  .next (s.command f 0x06 2 (cmdAbort f))

/-- SET_VF_WINDOW: the command at the head of function `f`'s submission ring: a VF gets its window (15 R510). -/
def execSetVfWindow (f : Fin 33) (s : State) : Host.Outcome State Fault Refusal :=
  .next (s.command f 0x10 2 (vfCommand f cmdSetWindow))

/-- LOG_DIRTY_START: the command at the head of function `f`'s submission ring: dirty logging starts (15 R536). -/
def execLogDirtyStart (f : Fin 33) (s : State) : Host.Outcome State Fault Refusal :=
  .next (s.command f 0x11 4 (vfCommand f cmdDirtyStart))

/-- LOG_DIRTY_SYNC: the command at the head of function `f`'s submission ring: the bitmaps swap (15 R537). -/
def execLogDirtySync (f : Fin 33) (s : State) : Host.Outcome State Fault Refusal :=
  .next (s.command f 0x12 1 (vfCommand f cmdDirtySync))

/-- LOG_DIRTY_STOP: the command at the head of function `f`'s submission ring: dirty logging stops (15 R536). -/
def execLogDirtyStop (f : Fin 33) (s : State) : Host.Outcome State Fault Refusal :=
  .next (s.command f 0x13 1 (vfCommand f cmdDirtyStop))

/-- VF_QUIESCE: the command at the head of function `f`'s submission ring: a VF is quiesced (15 R538). -/
def execVfQuiesce (f : Fin 33) (s : State) : Host.Outcome State Fault Refusal :=
  .next (s.command f 0x14 1 (vfCommand f cmdQuiesce))

/-- VF_UNQUIESCE: the command at the head of function `f`'s submission ring: a VF goes on (15 R538). -/
def execVfUnquiesce (f : Fin 33) (s : State) : Host.Outcome State Fault Refusal :=
  .next (s.command f 0x15 1 (vfCommand f cmdUnquiesce))

/-- SAVE_VF_STATE: the command at the head of function `f`'s submission ring: a VF is saved (15 R539). -/
def execSaveVfState (f : Fin 33) (s : State) : Host.Outcome State Fault Refusal :=
  .next (s.command f 0x16 3 (vfCommand f cmdSaveVf))

/-- RESTORE_VF_STATE: the command at the head of function `f`'s submission ring: a VF is restored from what the host buffer holds (15 R540). -/
def execRestoreVfState (f : Fin 33) (image : VfImage) (s : State) : Host.Outcome State Fault Refusal :=
  .next (s.command f 0x17 4 (vfCommand f (cmdRestoreVf image)))

/-- SEC_SERVICE: the command at the head of function `f`'s submission ring: a request for SEC (15 R524; 14 R483). -/
def execSecService (f : Fin 33) (s : State) : Host.Outcome State Fault Refusal :=
  .next (s.command f 0x20 1 (cmdSecService f))

/-- POWER_REQUEST: the command at the head of function `f`'s submission ring: a request for PMC (15 R524; 17 R571). -/
def execPowerRequest (f : Fin 33) (s : State) : Host.Outcome State Fault Refusal :=
  .next (s.command f 0x21 1 (cmdPower f))

/-- CABINET_STOP: the command at the head of function `f`'s submission ring: a flash-launched cabinet stops (09 R288). -/
def execCabinetStop (f : Fin 33) (s : State) : Host.Outcome State Fault Refusal :=
  .next (s.command f 0x30 1 (islandCommand f cmdCabStop))

/-- CABINET_START: the command at the head of function `f`'s submission ring: it goes on (09 R288). -/
def execCabinetStart (f : Fin 33) (s : State) : Host.Outcome State Fault Refusal :=
  .next (s.command f 0x31 1 (islandCommand f cmdCabStart))

/-- CABINET_RESTART: the command at the head of function `f`'s submission ring: it is created anew (09 R288). -/
def execCabinetRestart (f : Fin 33) (s : State) : Host.Outcome State Fault Refusal :=
  .next (s.command f 0x32 1 (islandCommand f cmdCabRestart))

/-- HEARTBEAT_TIMEOUT: 300 ms without a heartbeat (15 R531). -/
def execHeartbeatTimeout (s : State) : Host.Outcome State Fault Refusal :=
  .next (s.gate (s.mainClk) (s.heartbeatTimeout))

/-- PCIE_LINK_DOWN: the link goes down (15 R531). -/
def execPcieLinkDown (s : State) : Host.Outcome State Fault Refusal :=
  .next (s.pcieDown)

/-- HOST_STATE_DISCARD: 10 s after HOST_LOST (15 R532). -/
def execHostStateDiscard (s : State) : Host.Outcome State Fault Refusal :=
  .next (s.gate (s.mainClk) (s.hostDiscard))

/-- VF_FLR: a function-level reset of a VF (15 R534, R541). -/
def execVfFlr (f : Fin 33) (s : State) : Host.Outcome State Fault Refusal :=
  .next (s.vfReset f)

/-- PF_FLR: a function-level reset of the PF (15 R535). -/
def execPfFlr (s : State) : Host.Outcome State Fault Refusal :=
  .next (s.pfFlr)

/-- VF_ENABLE_CLEAR: VF Enable is cleared (15 R507). -/
def execVfEnableClear (s : State) : Host.Outcome State Fault Refusal :=
  .next (s.vfClear)

end Sys2Proof.Machine
end

