-- ==== Sys2Proof/Machine/CmdMemory.lean ====
section
/-! DEFINITION. Memory accesses, budgets, shares and queues (07, 08, 12). One meaning for each command. -/

namespace Sys2Proof.Machine

/-- LPDDR5X_READ: a read of `n` bytes at `a` by a master whose port and link bring `load` (12 R386, R388, R390, R405, R406, R410). -/
def execLpddr5xRead (m : Master) (a : Nat) (n : Nat) (load : PortLoad) (s : State) : Host.Outcome State Fault Refusal :=
  .next (s.gate (s.mainClk) (s.lpddrRead m a n load.fill load.link))

/-- LPDDR5X_WRITE: a write of bytes at `a` (12 R387, R388, R390, R405, R406, R410). -/
def execLpddr5xWrite (m : Master) (a : Nat) (data : List Byte) (load : PortLoad) (s : State) : Host.Outcome State Fault Refusal :=
  .next (s.gate (s.mainClk) (s.lpddrWrite m a data load.fill load.link))

/-- UNMAPPED_ACCESS: an access refused for its address or its master (12 R381, R391). -/
def execUnmappedAccess (m : Master) (write : Bool) (a : Nat) (n : Nat) (s : State) : Host.Outcome State Fault Refusal :=
  .next (s.gate (s.clkOf m) (s.refusedAccess .range m write a n))

/-- POWERED_OFF_ACCESS: an access to a memory without power (12 R382, R391). -/
def execPoweredOffAccess (m : Master) (write : Bool) (a : Nat) (n : Nat) (s : State) : Host.Outcome State Fault Refusal :=
  .next (s.gate (s.clkOf m) (s.refusedAccess .power m write a n))

/-- SBUF_READ: a read of the Stream Buffer (12 R397-R399; 10 R297). -/
def execSbufRead (m : Master) (a : Nat) (n : Nat) (s : State) : Host.Outcome State Fault Refusal :=
  .next (s.gate (s.mainClk) (s.sbufRead m a n))

/-- SBUF_WRITE: a write of the Stream Buffer (12 R397-R399, R651). -/
def execSbufWrite (m : Master) (a : Nat) (data : List Byte) (s : State) : Host.Outcome State Fault Refusal :=
  .next (s.gate (s.mainClk) (s.sbufWrite m a data))

/-- ISLAND_SRAM_WRITE: a write of island SRAM (12 R651; 13 R421). -/
def execIslandSramWrite (m : Master) (a : Nat) (data : List Byte) (s : State) : Host.Outcome State Fault Refusal :=
  .next (s.gate (s.islClk) (s.sramWrite m a data))

/-- HYPERRAM_READ: a read of HyperRAM, repeated once on a detection (10 R298; 12 R394, R395). -/
def execHyperramRead (m : Master) (a : Nat) (n : Nat) (transient : Bool) (s : State) : Host.Outcome State Fault Refusal :=
  .next (s.gate (s.islClk) (s.hyperRead m a n transient))

/-- HYPERRAM_WRITE: a write of HyperRAM (12 R394, R395). -/
def execHyperramWrite (m : Master) (a : Nat) (data : HyperData) (s : State) : Host.Outcome State Fault Refusal :=
  .next (s.gate (s.islClk) (s.hyperWrite m a data.bytes data.transient))

/-- BUDGET_WINDOW_START: a budget window begins (12 R404, R405, R407, R409). -/
def execBudgetWindowStart (waiting : BitVec 40) (s : State) : Host.Outcome State Fault Refusal :=
  .next (s.gate (s.mainClk) (s.windowStart waiting))

/-- SBUF_SLICE_INIT: slice `j` is initialised (12 R398). -/
def execSbufSliceInit (j : Fin 4) (s : State) : Host.Outcome State Fault Refusal :=
  .next (s.gate (s.mainClk) (s.sliceInit j))

/-- SBUF_SHARE_ENABLE: a master writes SBUF_SHAREc with EN = 1 and its other fields from `v` (12 R399, R400, R415). -/
def execSbufShareEnable (m : Master) (c : CabId) (v : Nat) (s : State) : Host.Outcome State Fault Refusal :=
  .next (s.gate (s.clkOf m) (s.regSet m R.SBUF_SHARE c.val 0 (v ||| 2 ^ 63)))

/-- MEM_INJ_ARM: a master writes MEM_INJ with ARM = 1 and target and channel from `v` (12 R415; 10 R328). -/
def execMemInjArm (m : Master) (v : Nat) (s : State) : Host.Outcome State Fault Refusal :=
  .next (s.gate (s.clkOf m) (s.regSet m R.MEM_INJ 0 0 (v ||| 2 ^ 31)))

/-- CMU_SHARE_ENABLE: a master writes CMU_SHAREn_CFG with EN = 1 and its other fields from `v` (07 R198). -/
def execCmuShareEnable (m : Master) (n : Fin 8) (v : Nat) (s : State) : Host.Outcome State Fault Refusal :=
  .next (s.gate (s.clkOf m) (s.regSet m R.CMU_SHARE_CFG n.val 0 (v ||| 2 ^ 31)))

/-- CMU_SHARE_DISABLE: a master writes CMU_SHAREn_CFG with EN = 0 (07 R201). -/
def execCmuShareDisable (m : Master) (n : Fin 8) (s : State) : Host.Outcome State Fault Refusal :=
  .next (s.gate (s.clkOf m) (s.regSet m R.CMU_SHARE_CFG n.val 0 (putBits (s.regVal R.CMU_SHARE_CFG n.val 0) 31 31 0)))

/-- QUEUE_ENABLE: a master writes SN_Qq_CFG with EN = 1 and its other fields from `v` (08 R245, R258). -/
def execQueueEnable (m : Master) (q : Fin 32) (v : Nat) (s : State) : Host.Outcome State Fault Refusal :=
  .next (s.gate (s.clkOf m) (s.regSet m R.SN_Q_CFG q.val 0 (v ||| 2 ^ 31)))

/-- QUEUE_DISABLE: a master writes SN_Qq_CFG with EN = 0 (08 R245). -/
def execQueueDisable (m : Master) (q : Fin 32) (s : State) : Host.Outcome State Fault Refusal :=
  .next (s.gate (s.clkOf m) (s.regSet m R.SN_Q_CFG q.val 0 (putBits (s.regVal R.SN_Q_CFG q.val 0) 31 31 0)))

end Sys2Proof.Machine
end

