-- ==== Sys2Proof/Machine/CmdNetwork.lean ====
section
/-! DEFINITION. The TSN switch, the island Ethernet MAC and the Trestle link (13, 19). One meaning for each command. -/

namespace Sys2Proof.Machine

/-- SWITCH_FRAME_RECEIVE: a frame on port `p` is forwarded, or discarded and counted (13 R446-R448). -/
def execSwitchFrameReceive (p : Fin 12) (data : List Byte) (blocked : Bool) (full : BitVec 12) (s : State) : Host.Outcome State Fault Refusal :=
  .next (s.gate (s.mainClk) (s.switchFrame p data blocked full))

/-- GCL_CHANGE: a master arms the switch of port `p` to its administrative gate list (13 R447; 19 R630). -/
def execGclChange (m : Master) (p : Fin 12) (s : State) : Host.Outcome State Fault Refusal :=
  .next (s.gate (s.clkOf m) (s.regSet m R.SW_P_GCL_CHANGE p.val 0 (1)))

/-- GCL_SWITCH: the administrative gate list of port `p` becomes operational (13 R447; 19 R630). -/
def execGclSwitch (p : Fin 12) (s : State) : Host.Outcome State Fault Refusal :=
  .next (s.gate (s.mainClk) (s.gclSwitch p))

/-- FDB_READ: a command of the forwarding table on entry `idx` (19 R630). -/
def execFdbRead (m : Master) (idx : Nat) (s : State) : Host.Outcome State Fault Refusal :=
  .next (s.gate (s.clkOf m) (s.regSet m R.SW_FDB_CMD 0 0 (2 ^ 31 + 0 * 2 ^ 28 + idx % 8192)))

/-- FDB_WRITE: a command of the forwarding table on entry `idx` (19 R630). -/
def execFdbWrite (m : Master) (idx : Nat) (s : State) : Host.Outcome State Fault Refusal :=
  .next (s.gate (s.clkOf m) (s.regSet m R.SW_FDB_CMD 0 0 (2 ^ 31 + 1 * 2 ^ 28 + idx % 8192)))

/-- FDB_DELETE: a command of the forwarding table on entry `idx` (19 R630). -/
def execFdbDelete (m : Master) (idx : Nat) (s : State) : Host.Outcome State Fault Refusal :=
  .next (s.gate (s.clkOf m) (s.regSet m R.SW_FDB_CMD 0 0 (2 ^ 31 + 2 * 2 ^ 28 + idx % 8192)))

/-- FDB_FLUSH: a command of the forwarding table on entry `idx` (19 R630). -/
def execFdbFlush (m : Master) (idx : Nat) (s : State) : Host.Outcome State Fault Refusal :=
  .next (s.gate (s.clkOf m) (s.regSet m R.SW_FDB_CMD 0 0 (2 ^ 31 + 3 * 2 ^ 28 + idx % 8192)))

/-- VLAN_READ: a command of the VLAN table on `vid` (19 R630). -/
def execVlanRead (m : Master) (vid : Nat) (s : State) : Host.Outcome State Fault Refusal :=
  .next (s.gate (s.clkOf m) (s.regSet m R.SW_VLAN_CMD 0 0 (2 ^ 31 + 0 * 2 ^ 28 + vid % 4096)))

/-- VLAN_WRITE: a command of the VLAN table on `vid` (19 R630). -/
def execVlanWrite (m : Master) (vid : Nat) (s : State) : Host.Outcome State Fault Refusal :=
  .next (s.gate (s.clkOf m) (s.regSet m R.SW_VLAN_CMD 0 0 (2 ^ 31 + 1 * 2 ^ 28 + vid % 4096)))

/-- VLAN_DELETE: a command of the VLAN table on `vid` (19 R630). -/
def execVlanDelete (m : Master) (vid : Nat) (s : State) : Host.Outcome State Fault Refusal :=
  .next (s.gate (s.clkOf m) (s.regSet m R.SW_VLAN_CMD 0 0 (2 ^ 31 + 2 * 2 ^ 28 + vid % 4096)))

/-- VLAN_FLUSH: a command of the VLAN table on `vid` (19 R630). -/
def execVlanFlush (m : Master) (vid : Nat) (s : State) : Host.Outcome State Fault Refusal :=
  .next (s.gate (s.clkOf m) (s.regSet m R.SW_VLAN_CMD 0 0 (2 ^ 31 + 3 * 2 ^ 28 + vid % 4096)))

/-- SWITCH_TABLE_COMMAND: a command of table `t` on entry `idx` (19 R630). -/
def execSwitchTableCommand (m : Master) (t : Fin 5) (op : Fin 4) (idx : Nat) (s : State) : Host.Outcome State Fault Refusal :=
  .next (s.gate (s.clkOf m) (s.regSet m (swCmdReg t) 0 0 (2 ^ 31 + op.val * 2 ^ 28 + idx % 8192)))

/-- ETH_FRAME_RECEIVE: the island MAC takes the next frame from the switch (19 R628). -/
def execEthFrameReceive (s : State) : Host.Outcome State Fault Refusal :=
  .next (s.gate (s.islClk) (s.ethReceive))

/-- ETH_FRAME_SEND: the island MAC sends the next frame of its ring (19 R628). -/
def execEthFrameSend (blocked : Bool) (full : BitVec 12) (s : State) : Host.Outcome State Fault Refusal :=
  .next (s.gate (s.islClk) (s.ethSend blocked full))

/-- TRESTLE_HEARTBEAT_SEND: a heartbeat is sent (13 R450). -/
def execTrestleHeartbeatSend (s : State) : Host.Outcome State Fault Refusal :=
  .next (s.gate (s.mainClk) (s.heartbeatSend))

/-- TRESTLE_FRAME_RECEIVE: a frame is delivered, or asked for again (13 R450, R454, R455). -/
def execTrestleFrameReceive (seq : Nat) (f : TrsFrame) (crcOk : Bool) (s : State) : Host.Outcome State Fault Refusal :=
  .next (s.gate (s.mainClk) (s.frameIn seq f crcOk))

/-- TRESTLE_LINK_DOWN: the link goes down (13 R450, R455, R457). -/
def execTrestleLinkDown (s : State) : Host.Outcome State Fault Refusal :=
  .next (s.linkDown)

/-- TRESTLE_LINK_UP: the link comes up to a partner of a role (13 R451). -/
def execTrestleLinkUp (peer : Fin 3) (s : State) : Host.Outcome State Fault Refusal :=
  .next (s.linkComesUp peer)

/-- ROLE_DECISION_TIMEOUT: a device without a link decides its role (13 R451). -/
def execRoleDecisionTimeout (s : State) : Host.Outcome State Fault Refusal :=
  .next (s.gate (s.islClk) (s.roleTimeout))

/-- MIRROR_IMAGE_SEND: the mirror image is sent (13 R453). -/
def execMirrorImageSend (s : State) : Host.Outcome State Fault Refusal :=
  .next (s.gate (s.mainClk) (s.mirrorSend))

/-- MIRROR_IMAGE_COMPLETE: an image has arrived whole (13 R454). -/
def execMirrorImageComplete (crcOk : Bool) (s : State) : Host.Outcome State Fault Refusal :=
  .next (s.gate (s.mainClk) (s.mirrorComplete crcOk))

/-- PARTNER_ALIVE_EDGE: an edge on PARTNER_ALIVE (13 R451, R455). -/
def execPartnerAliveEdge (s : State) : Host.Outcome State Fault Refusal :=
  .next (s.gate (s.islClk) (s.aliveEdge))

/-- PARTNER_SILENT: 2 ms without an edge (13 R455). -/
def execPartnerSilent (s : State) : Host.Outcome State Fault Refusal :=
  .next (s.gate (s.islClk) (s.partnerSilent))

end Sys2Proof.Machine
end

