-- ==== Sys2Proof/Machine/CmdPower.lean ====
section
/-! DEFINITION. Power, clocks, thermal and resets (17). One meaning for each command. -/

namespace Sys2Proof.Machine

/-- DOMAIN_ON: PMC serves a DOMAIN_ON (17 R569-R573). -/
def execDomainOn (s : State) : Host.Outcome State Fault Refusal :=
  .next (s.domainOn)

/-- DOMAIN_OFF: PMC serves a DOMAIN_OFF (17 R569-R573). -/
def execDomainOff (s : State) : Host.Outcome State Fault Refusal :=
  .next (s.domainOff)

/-- STATE: PMC serves a STATE request (17 R574, R575). -/
def execState (s : State) : Host.Outcome State Fault Refusal :=
  .next (s.ladder)

/-- DEVICE_RESET: PMC serves a DEVICE_RESET (17 R590). -/
def execDeviceReset (s : State) : Host.Outcome State Fault Refusal :=
  .next (s.resetRequest)

/-- AUTO_IDLE_ENTRY: the device goes to IDLE by itself (17 R576). -/
def execAutoIdleEntry (s : State) : Host.Outcome State Fault Refusal :=
  .next (s.autoIdle)

/-- CAN_WAKE: a CAN receive pin wakes the device (17 R578, R581). -/
def execCanWake (n : Fin 12) (s : State) : Host.Outcome State Fault Refusal :=
  .next (s.canWake n)

/-- WAKE_N_WAKE: WAKE_N wakes the device (17 R578, R581). -/
def execWakeNWake (s : State) : Host.Outcome State Fault Refusal :=
  .next (s.pinWake)

/-- ITU_WAKE: ITU_COUNT reaches PMC_WAKE_ITU (17 R581). -/
def execItuWake (s : State) : Host.Outcome State Fault Refusal :=
  .next (s.ituWake)

/-- WARN_CROSSING: rail `r` falls below WARN (17 R588). -/
def execWarnCrossing (r : Fin 8) (s : State) : Host.Outcome State Fault Refusal :=
  .next (s.warn r)

/-- BROWN_CROSSING: rail `r` falls below BROWN (17 R588). -/
def execBrownCrossing (r : Fin 8) (s : State) : Host.Outcome State Fault Refusal :=
  .next (s.brownOut r)

/-- BROWN_RECOVERY: rail `r` is above WARN again (17 R588). -/
def execBrownRecovery (r : Fin 8) (s : State) : Host.Outcome State Fault Refusal :=
  .next (s.brownEnd r)

/-- LONG_DIP: rail `r` stays below (17 R588). -/
def execLongDip (r : Fin 8) (s : State) : Host.Outcome State Fault Refusal :=
  .next (s.longDip r)

/-- UV_OV: rail `r` crosses UV or OV (17 R588). -/
def execUvOv (r : Fin 8) (high : Bool) (s : State) : Host.Outcome State Fault Refusal :=
  .next (s.railFail r high)

/-- THERMAL_WARN: Tj reaches WARN (17 R589). -/
def execThermalWarn (tj : Int) (s : State) : Host.Outcome State Fault Refusal :=
  .next (s.thermWarn tj)

/-- THERMAL_HOLD: Tj reaches 135 °C (17 R589). -/
def execThermalHold (tj : Int) (s : State) : Host.Outcome State Fault Refusal :=
  .next (s.thermHold tj)

/-- THERMAL_RELEASE: Tj is back at 120 °C (17 R589). -/
def execThermalRelease (tj : Int) (s : State) : Host.Outcome State Fault Refusal :=
  .next (s.thermRelease tj)

/-- PLL_LOCK_LOSS: a PLL loses lock (17 R583). -/
def execPllLockLoss (p : Fin 3) (s : State) : Host.Outcome State Fault Refusal :=
  .next (s.pllLost p)

/-- PLL_RELOCK: a PLL relocks, or fails to (17 R583). -/
def execPllRelock (p : Fin 3) (ok : Bool) (s : State) : Host.Outcome State Fault Refusal :=
  .next (s.pllRelock p ok)

/-- REFERENCE_LOSS: the reference clock is lost (17 R583). -/
def execReferenceLoss (s : State) : Host.Outcome State Fault Refusal :=
  .next (s.refLost)

/-- XTAL32_FAIL: the 32.768 kHz crystal is lost (17 R583). -/
def execXtal32Fail (s : State) : Host.Outcome State Fault Refusal :=
  .next (s.xtalFail)

/-- AVS_STEP: PMC adapts VDD_CORE (17 R586). -/
def execAvsStep (target : Nat) (ack : Bool) (s : State) : Host.Outcome State Fault Refusal :=
  .next (s.avsStep target ack)

/-- RESET_N: RESET_N is low (17 R590). -/
def execResetN (s : State) : Host.Outcome State Fault Refusal :=
  .next (s.resetPin)

/-- POWER_GOOD_FALL: POWER_GOOD falls (17 R590). -/
def execPowerGoodFall (s : State) : Host.Outcome State Fault Refusal :=
  .next (s.goodFall)

/-- POWER_ON_RESET: VDD_AO rises (17 R590). -/
def execPowerOnReset (s : State) : Host.Outcome State Fault Refusal :=
  .next (s.powerOnReset)

end Sys2Proof.Machine
end

