-- ==== Sys2Proof/Machine/CmdRegs.lean ====
section
/-! DEFINITION. Counters and register accesses (00, 18, 19), and what remains. One meaning for each command. -/

namespace Sys2Proof.Machine

/-- COUNTER_OVERFLOW: counter `n` of engine, or unit, `k` wraps (18 R599, R602, R604, R606). -/
def execCounterOverflow (shared : Bool) (k : Nat) (n : Fin 8) (s : State) : Host.Outcome State Fault Refusal :=
  .next (s.gate (s.mainClk) (s.counterOverflow shared k n))

/-- PERF_FREEZE: a master writes PERF_FREEZE (18 R606). -/
def execPerfFreeze (m : Master) (on : Bool) (s : State) : Host.Outcome State Fault Refusal :=
  .next (s.gate (s.clkOf m) (s.regSet m R.PERF_FREEZE 0 0 (b2n on)))

/-- IE_JOB: a master writes IE_JOB with START (13 R432; 19 R618). -/
def execIeJob (m : Master) (a : Nat) (s : State) : Host.Outcome State Fault Refusal :=
  .next (s.gate (s.clkOf m) (s.regSet m R.IE_JOB 0 0 (2 ^ 63 + a % 2 ^ 48)))

/-- LOW_WORD_READ: a master reads one word of a register; a low word latches its high word (00 R5; 19 R611-R613). -/
def execLowWordRead (m : Master) (a : Nat) (s : State) : Host.Outcome State Fault Refusal :=
  .next (s.gate (s.clkOf m) (s.registerRead m a))

/-- REGISTER_WRITE: a master writes registers (00 R5-R13; 19 R609-R623). -/
def execRegisterWrite (m : Master) (a : Nat) (data : List Byte) (s : State) : Host.Outcome State Fault Refusal :=
  .next (s.gate (s.clkOf m) (s.registerWrite m a data))

/-- MIRROR_FRAME_END: output `o` has sent the last line and holds no buffer (11 R346). -/
def execMirrorFrameEnd (o : Fin 2) (s : State) : Host.Outcome State Fault Refusal :=
  .next (s.gate (s.mainClk) (s.mirrorEnd o))

/-- FLIT_REACHES_QUEUE: flit `j` on its way to a queue reaches it (08 R229, R237, R240). -/
def execFlitReachesQueue (j : Nat) (s : State) : Host.Outcome State Fault Refusal :=
  .next (s.gate (s.mainClk) (s.flitToQueue j).schSettle)

/-- PAIR_LOAD_COMPARE: a load of ISL-A is logged, or ISL-B takes the logged value (13 R422, R423, R425). -/
def execPairLoadCompare (core : Fin 2) (a : Nat) (n : Nat) (s : State) : Host.Outcome State Fault Refusal :=
  .next (s.gate (s.islClk) (s.pairLoad core a n))

/-- LIN_WAKE_UP: controller `n` detects a wake-up (13 R435). -/
def execLinWakeUp (n : Fin 4) (s : State) : Host.Outcome State Fault Refusal :=
  .next (s.gate (s.islClk) (s.linWake n))

/-- PERST_N_DEASSERT: PERST_N rises (17 R594). -/
def execPerstNDeassert (s : State) : Host.Outcome State Fault Refusal :=
  .next (s.perstHigh)

end Sys2Proof.Machine
end

