-- ==== Sys2Proof/Machine/CmdSafety.lean ====
section
/-! DEFINITION. The Arbiter Unit and the Safety Island (10, 13, 14). One meaning for each command. -/

namespace Sys2Proof.Machine

/-- CONTROL_BOUNDARY: the cycle closes and the source of the next is chosen (10 R320-R325, R330; 13 R454; 16 R551). -/
def execControlBoundary (s : State) : Host.Outcome State Fault Refusal :=
  .next ((s.gate (s.islClk) (s.controlBoundary)).bootStage)

/-- ARB_CFG_EN: a master writes ARB_CFG with EN = 1 and its other fields from `v` (10 R319). -/
def execArbCfgEn (m : Master) (v : Nat) (s : State) : Host.Outcome State Fault Refusal :=
  .next (s.gate (s.clkOf m) (s.regSet m R.ARB_CFG 0 0 (v ||| 2 ^ 31)))

/-- FS_READY: a master writes ARB_RAISE.FS_READY (10 R324). -/
def execFsReady (m : Master) (s : State) : Host.Outcome State Fault Refusal :=
  .next (s.gate (s.clkOf m) (s.regSet m R.ARB_RAISE 0 0 (2 ^ 17)))

/-- MAIN_READY: a master writes ARB_RAISE.MAIN_READY (10 R320). -/
def execMainReady (m : Master) (s : State) : Host.Outcome State Fault Refusal :=
  .next (s.gate (s.clkOf m) (s.regSet m R.ARB_RAISE 0 0 (2 ^ 16)))

/-- CHECKER: a master writes ARB_RAISE.CHECKER (10 R318). -/
def execChecker (m : Master) (s : State) : Host.Outcome State Fault Refusal :=
  .next (s.gate (s.clkOf m) (s.regSet m R.ARB_RAISE 0 0 (1)))

/-- SOFTWARE: a master writes ARB_RAISE.SOFTWARE (10 R320). -/
def execSoftware (m : Master) (s : State) : Host.Outcome State Fault Refusal :=
  .next (s.gate (s.clkOf m) (s.regSet m R.ARB_RAISE 0 0 (2 ^ 6)))

/-- ARBITER_LOCKSTEP_MISMATCH: the two copies of the Arbiter Unit disagree (10 R330). -/
def execArbiterLockstepMismatch (s : State) : Host.Outcome State Fault Refusal :=
  .next (s.gate (s.islClk) (s.assertFault))

/-- ALIVE_TOGGLE: ALIVE toggles (10 R331). -/
def execAliveToggle (s : State) : Host.Outcome State Fault Refusal :=
  .next (s.gate (s.islClk) (s.aliveToggle))

/-- ERROR_INJECTION: start-up error injection with outcome `o` (10 R328, R329). -/
def execErrorInjection (o : Injection) (s : State) : Host.Outcome State Fault Refusal :=
  .next ((s.gate (s.islClk) (s.errorInjection o)).bootStage)

/-- ISL_WDOG_KICK: a kick by a master or by PMC (13 R427-R430). Whether the kick is early follows from State; what the sender holds
it to be, the row's third operand, has no effect (notes/assumptions/107.md). -/
def execIslWdogKick (m : Option Master) (v : Nat) (_early : Bool) (s : State) : Host.Outcome State Fault Refusal :=
  .next (s.gate (s.islClk && !m.any s.pairHalted) (s.wdogKick m v))

/-- ISL_WDOG_EXPIRE: the period of watchdog `n` passes without a kick (13 R428, R430). -/
def execIslWdogExpire (n : Fin 7) (s : State) : Host.Outcome State Fault Refusal :=
  .next (s.gate (s.islClk) (s.wdogExpire n))

/-- PAIR_STORE_COMPARE: a store of ISL-A is held, or that of ISL-B compared and performed once (13 R422-R425). -/
def execPairStoreCompare (core : Fin 2) (a : Nat) (data : List Byte) (s : State) : Host.Outcome State Fault Refusal :=
  .next (s.gate (s.islClk) (s.pairStore core a data))

/-- ISL_SYNC: the signature of ISL-A is held, or that of ISL-B compared (13 R422, R425, R426). -/
def execIslSync (core : Fin 2) (crc : Word) (s : State) : Host.Outcome State Fault Refusal :=
  .next (s.gate (s.islClk) (s.pairSync core crc))

/-- PAIR_COMPARE_TIMEOUT: an entry has waited too long (13 R425). -/
def execPairCompareTimeout (s : State) : Host.Outcome State Fault Refusal :=
  .next (s.gate (s.islClk) (s.pairTimeout))

/-- WORLD_CSR_WRITE: core `core` writes its world CSR (14 R460). -/
def execWorldCsrWrite (core : Fin 2) (v : Nat) (s : State) : Host.Outcome State Fault Refusal :=
  .next (s.gate (s.islClk) (s.worldWrite core v))

/-- LOCKER_CODE_FETCH: core `core` fetches the instruction at `a` (14 R471). -/
def execLockerCodeFetch (core : Fin 2) (a : Nat) (s : State) : Host.Outcome State Fault Refusal :=
  .next (s.gate (s.islClk) (s.codeFetch core a))

/-- SECURE_INTERRUPT: a Secure interrupt source interrupts a core (14 R471, R477; 13 R422). -/
def execSecureInterrupt (core : Fin 2) (source : Fin 64) (count : Nat) (s : State) : Host.Outcome State Fault Refusal :=
  .next (s.gate (s.islClk) (s.secureInterrupt core source count))

end Sys2Proof.Machine
end

