-- ==== Sys2Proof/Machine/CmdSched.lean ====
section
/-! DEFINITION. Patrols, drains, jobs, contexts and recovery (09, 10). One meaning for each command. -/

namespace Sys2Proof.Machine

/-- PATROL: the golden input runs on engine `k` (05 R172; 10 R315, R316). -/
def execPatrol (k : EngineId) (s : State) : Host.Outcome State Fault Refusal :=
  .next (s.gate (s.aclkOn k) (s.patrol k))

/-- PATROL_COMPLETE: the patrol of engine `k` returns the signature `sig` (10 R314, R315, R317). -/
def execPatrolComplete (k : EngineId) (sig : Word) (s : State) : Host.Outcome State Fault Refusal :=
  .next (s.gate (s.aclkOn k) (s.patrolComplete k sig).schSettle)

/-- PATROL_DUE: a patrol of engine `k` falls due, or is deferred (10 R315, R316). -/
def execPatrolDue (k : EngineId) (s : State) : Host.Outcome State Fault Refusal :=
  .next (s.gate (s.mainClk) (s.patrolDue k))

/-- PATROL_REPEAT: the patrol is repeated after a mismatch (10 R317). -/
def execPatrolRepeat (k : EngineId) (s : State) : Host.Outcome State Fault Refusal :=
  .next (s.gate (s.mainClk) (s.patrolRepeat k))

/-- PATROL_OVERDUE: 80 ms after the due time no patrol has matched (10 R317). -/
def execPatrolOverdue (k : EngineId) (s : State) : Host.Outcome State Fault Refusal :=
  .next (s.gate (s.mainClk) (s.patrolOverdue k))

/-- DRAIN: a drain begins where SCH or a Core has decided on it (04 R105, R113). -/
def execDrain (k : EngineId) (why : DrainWhy) (s : State) : Host.Outcome State Fault Refusal :=
  .next ((s.gate (s.aclkOn k) (s.drain k why)).wakeReady)

/-- DRAIN_END: the drain of engine `k` ends (04 R105, R111; 08 R251). -/
def execDrainEnd (k : EngineId) (s : State) : Host.Outcome State Fault Refusal :=
  .next (s.gate (s.aclkOn k) (s.drainEnd k).schSettle)

/-- DRAWER_RESUME: the drained drawer goes on in place (04 R108). -/
def execDrawerResume (k : EngineId) (s : State) : Host.Outcome State Fault Refusal :=
  .next (s.gate (s.aclkOn k) (s.resumeDrawer k))

/-- LM_INIT: TE_CTRL.LM_INIT written 1 by a master (02 R47, R57). -/
def execLmInit (m : Master) (k : EngineId) (s : State) : Host.Outcome State Fault Refusal :=
  .next (s.gate (s.clkOf m) (s.lmInit m k))

/-- LM_INIT_DONE: the zeroing ends (02 R47). -/
def execLmInitDone (k : EngineId) (s : State) : Host.Outcome State Fault Refusal :=
  .next (s.gate (s.aclkOn k) (s.lmInitDone k))

/-- ENGINE_STOP: TE_CTRL.RUN written 0 by a master (02 R57). -/
def execEngineStop (m : Master) (k : EngineId) (s : State) : Host.Outcome State Fault Refusal :=
  .next (s.gate (s.clkOf m) (s.engineStop m k))

/-- PROGRAM_LOAD: the Core loads a program into a stopped drawer (04 R116; 09 R274). -/
def execProgramLoad (k : EngineId) (d : Fin 8) (s : State) : Host.Outcome State Fault Refusal :=
  .next (s.gate (s.mainClk) (s.programLoad k d))

/-- JOB_START: the next job of the active context starts (09 R268; 10 R301). -/
def execJobStart (c : CabId) (s : State) : Host.Outcome State Fault Refusal :=
  .next (s.gate (s.mainClk) (s.jobStart c))

/-- CONTEXT_WAITING: the active context has only waited (09 R264, R265, R278). -/
def execContextWaiting (c : CabId) (s : State) : Host.Outcome State Fault Refusal :=
  .next (s.gate (s.mainClk) (s.contextWaiting c))

/-- SLICE_END: a slice ends (09 R273). -/
def execSliceEnd (c : CabId) (s : State) : Host.Outcome State Fault Refusal :=
  .next (s.gate (s.mainClk) (s.sliceEnds c))

/-- CONTEXT_SWITCH: the next step of a switch (09 R272-R276). -/
def execContextSwitch (c : CabId) (s : State) : Host.Outcome State Fault Refusal :=
  .next ((s.gate (s.mainClk) (s.contextSwitch c)).wakeReady)

/-- CT_ENTRY_FIRE: entry `j` of the cyclic table fires (09 R269, R271, R288). -/
def execCtEntryFire (c : CabId) (j : Nat) (s : State) : Host.Outcome State Fault Refusal :=
  .next ((s.gate (s.mainClk) (s.ctFire c j)).wakeReady.wakeCab c)

/-- DEADLINE_MISS: a job of context `x` has not ended by its deadline (09 R284). -/
def execDeadlineMiss (c : CabId) (x : CtxId) (s : State) : Host.Outcome State Fault Refusal :=
  .next (s.gate (s.mainClk) (s.deadlineMiss c x))

/-- ABORT_FABRIC_ABANDON: fabric accesses of aborted drawers are abandoned (09 R281). -/
def execAbortFabricAbandon (c : CabId) (s : State) : Host.Outcome State Fault Refusal :=
  .next (s.gate (s.mainClk) (s.abandon c).schSettle)

/-- RECOVERY: the context goes back to its last common checkpoint (10 R303-R305, R309). -/
def execRecovery (c : CabId) (s : State) : Host.Outcome State Fault Refusal :=
  .next (s.gate (s.mainClk) (s.recover c).schSettle)

/-- FENCE: engine `k` is fenced and leaves its cabinet (10 R310, R311). -/
def execFence (k : EngineId) (s : State) : Host.Outcome State Fault Refusal :=
  .next (s.gate (s.mainClk) (s.fenceStep k).schSettle)

/-- CABINET_REMAP: the cabinet is remapped from its N-1 record, or is DEGRADED (10 R312, R313). -/
def execCabinetRemap (c : CabId) (s : State) : Host.Outcome State Fault Refusal :=
  .next (s.gate (s.mainClk) (s.remap c).schSettle)

end Sys2Proof.Machine
end

