-- ==== Sys2Proof/Machine/CmdSecurity.lean ====
section
/-! DEFINITION. The services of SEC (14). One meaning for each command. -/

namespace Sys2Proof.Machine

/-- SEC_MBOX_REQ: a master enqueues the record at `a` in mailbox `n` (14 R483). -/
def execSecMboxReq (m : Master) (n : Fin 8) (a : Nat) (s : State) : Host.Outcome State Fault Refusal :=
  .next (s.gate (s.clkOf m) (s.mboxReq m n a))

/-- HASH: the oldest request of mailbox `n` is served: SHA-512 of a range (14 R485). -/
def execHash (n : Fin 4) (s : State) : Host.Outcome State Fault Refusal :=
  .next (s.gate (s.mainClk) (s.serve n 1 (svcHash n)))

/-- VERIFY: the oldest request of mailbox `n` is served: a signature is verified (14 R485). -/
def execVerify (n : Fin 4) (s : State) : Host.Outcome State Fault Refusal :=
  .next (s.gate (s.mainClk) (s.serve n 2 (svcVerify n)))

/-- WRAP: the oldest request of mailbox `n` is served: a key is wrapped (14 R485). -/
def execWrap (n : Fin 4) (s : State) : Host.Outcome State Fault Refusal :=
  .next (s.gate (s.mainClk) (s.serve n 3 (svcWrap false n)))

/-- UNWRAP: the oldest request of mailbox `n` is served: a key is unwrapped (14 R485). -/
def execUnwrap (n : Fin 4) (s : State) : Host.Outcome State Fault Refusal :=
  .next (s.gate (s.mainClk) (s.serve n 4 (svcWrap true n)))

/-- QUOTE: the oldest request of mailbox `n` is served: a quote is written (14 R485). -/
def execQuote (n : Fin 4) (s : State) : Host.Outcome State Fault Refusal :=
  .next (s.gate (s.mainClk) (s.serve n 5 (svcQuote n)))

/-- LOCKER_SEAL: the oldest request of mailbox `n` is served: a Locker is created (14 R485). -/
def execLockerSeal (n : Fin 4) (s : State) : Host.Outcome State Fault Refusal :=
  .next (s.gate (s.mainClk) (s.serve n 6 (svcSeal n)))

/-- LOCKER_FREE: the oldest request of mailbox `n` is served: a Locker is released (14 R485). -/
def execLockerFree (n : Fin 4) (s : State) : Host.Outcome State Fault Refusal :=
  .next (s.gate (s.mainClk) (s.serve n 7 (svcFree n)))

/-- BIND_CABINET: the oldest request of mailbox `n` is served: SEC_CABc is written (14 R485). -/
def execBindCabinet (n : Fin 4) (s : State) : Host.Outcome State Fault Refusal :=
  .next (s.gate (s.mainClk) (s.serve n 8 (svcBind n)))

/-- COUNTER_READ: the oldest request of mailbox `n` is served: the rollback counters are read (14 R485). -/
def execCounterRead (n : Fin 4) (s : State) : Host.Outcome State Fault Refusal :=
  .next (s.gate (s.mainClk) (s.serve n 9 (svcCounterRead n)))

/-- COUNTER_COMMIT: the oldest request of mailbox `n` is served: a rollback counter is raised (14 R485). -/
def execCounterCommit (n : Fin 4) (s : State) : Host.Outcome State Fault Refusal :=
  .next (s.gate (s.mainClk) (s.serve n 10 (svcCommit n)))

/-- LOG_READ: the oldest request of mailbox `n` is served: the measurement log is read (14 R485). -/
def execLogRead (n : Fin 4) (s : State) : Host.Outcome State Fault Refusal :=
  .next (s.gate (s.mainClk) (s.serve n 11 (svcLogRead n)))

/-- SERVICE_HANG: the oldest request of mailbox `n` hangs (14 R486). -/
def execServiceHang (n : Fin 4) (s : State) : Host.Outcome State Fault Refusal :=
  .next (s.gate (s.mainClk) (s.serviceHang n))

/-- SERVICE_RESTART_DONE: a restarted service is back (14 R486). -/
def execServiceRestartDone (code : Fin 12) (s : State) : Host.Outcome State Fault Refusal :=
  .next (s.gate (s.mainClk) (s.serviceBack code.val))

/-- SEC_CORE_WATCHDOG: the SEC core restarts (14 R487, R489). -/
def execSecCoreWatchdog (busy : BitVec 4) (recent : Bool) (s : State) : Host.Outcome State Fault Refusal :=
  .next (s.gate (s.mainClk) (s.secWatchdog busy recent))

/-- SEC_WARM_RESTART_DONE: the warm restart ends (14 R487). -/
def execSecWarmRestartDone (s : State) : Host.Outcome State Fault Refusal :=
  .next (s.gate (s.mainClk) (s.secBack))

end Sys2Proof.Machine
end

