-- ==== Sys2Proof/Machine/CmdSensor.lean ====
section
/-! DEFINITION. Sensors, displays, time and fusion (11). One meaning for each command. -/

namespace Sys2Proof.Machine

/-- CSI_FRAME_START: a frame start packet on receiver `r` (11 R339, R341, R342). -/
def execCsiFrameStart (r : Fin 4) (vc : Nat) (hdrOk : Bool) (s : State) : Host.Outcome State Fault Refusal :=
  .next (s.gate (s.mainClk) (s.frameStart r vc hdrOk))

/-- CSI_LONG_PACKET: a long packet on receiver `r` (11 R339-R341). -/
def execCsiLongPacket (r : Fin 4) (vc : Nat) (dt : Nat) (data : List Byte) (hdrOk : Bool) (crcOk : Bool) (s : State) : Host.Outcome State Fault Refusal :=
  .next (s.gate (s.mainClk) (s.longPacket r vc dt data hdrOk crcOk))

/-- CSI_FRAME_END: a frame end packet on receiver `r` (11 R342). -/
def execCsiFrameEnd (r : Fin 4) (vc : Nat) (hdrOk : Bool) (s : State) : Host.Outcome State Fault Refusal :=
  .next (s.gate (s.mainClk) (s.frameEnd r vc hdrOk))

/-- SLOT_ENABLE: a master writes CSI_Sn_CFG with EN = 1 and its other fields from `v` (11 R340). -/
def execSlotEnable (m : Master) (n : Fin 16) (v : Nat) (s : State) : Host.Outcome State Fault Refusal :=
  .next (s.gate (s.clkOf m) (s.regSet m R.CSI_S_CFG n.val 0 (v ||| 2 ^ 31)))

/-- MIRROR_FRAME_START: output `o` shows a new good source frame (11 R345-R349). -/
def execMirrorFrameStart (o : Fin 2) (s : State) : Host.Outcome State Fault Refusal :=
  .next (s.gate (s.mainClk) (s.mirrorStart o))

/-- MIRROR_REPEAT: output `o` repeats the last good frame (11 R346, R347). -/
def execMirrorRepeat (o : Fin 2) (s : State) : Host.Outcome State Fault Refusal :=
  .next (s.gate (s.mainClk) (s.mirrorRepeat o))

/-- MIRROR_ENABLE: a master writes MIR_On_CFG with EN = 1 and its other fields from `v` (11 R344). -/
def execMirrorEnable (m : Master) (o : Fin 2) (v : Nat) (s : State) : Host.Outcome State Fault Refusal :=
  .next (s.gate (s.clkOf m) (s.regSet m R.MIR_O_CFG o.val 0 (v ||| 2 ^ 31)))

/-- MTU_ADJ: a master writes MTU_ADJ (11 R351). -/
def execMtuAdj (m : Master) (v : Nat) (s : State) : Host.Outcome State Fault Refusal :=
  .next (s.gate (s.clkOf m) (s.regSet m R.MTU_ADJ 0 0 (v)))

/-- MTU_SET: a master writes MTU_SET (11 R351). -/
def execMtuSet (m : Master) (t : Nat) (s : State) : Host.Outcome State Fault Refusal :=
  .next (s.gate (s.clkOf m) (s.regSet m R.MTU_SET 0 0 (t)))

/-- ITU_RATE_WRITE: a master writes ITU_RATE (11 R354). -/
def execItuRateWrite (m : Master) (v : Nat) (s : State) : Host.Outcome State Fault Refusal :=
  .next (s.gate (s.clkOf m) (s.regSet m R.ITU_RATE 0 0 (v)))

/-- TIMED_PULSE_FIRE: timed pulse `n` fires where it is due (11 R356, R357; 09 R269). -/
def execTimedPulseFire (n : Fin 8) (s : State) : Host.Outcome State Fault Refusal :=
  .next (s.gate (s.fclk) (s.pulseFire n))

/-- TIMED_PULSE_WIDTH_END: the pin of pulse `n` returns (11 R356). -/
def execTimedPulseWidthEnd (n : Fin 8) (s : State) : Host.Outcome State Fault Refusal :=
  .next (s.gate (s.fclk) (s.pulseEnd n))

/-- TIMED_PULSE_ARM: a master writes TPn_START (11 R357). -/
def execTimedPulseArm (m : Master) (n : Fin 8) (t : Nat) (s : State) : Host.Outcome State Fault Refusal :=
  .next (s.gate (s.clkOf m) (s.regSet m R.TP_START n.val 0 (t)))

/-- CAPTURE_EDGE: an edge on TCIn (11 R358). -/
def execCaptureEdge (n : Fin 16) (rising : Bool) (s : State) : Host.Outcome State Fault Refusal :=
  .next (s.gate (s.fclk) (s.captureEdge n rising))

/-- CAPTURE_READ: the high word of CAPn_TS is read (11 R358). -/
def execCaptureRead (n : Fin 16) (s : State) : Host.Outcome State Fault Refusal :=
  .next (s.gate (s.mainClk) (s.captureRead n))

/-- SAMPLE_POLL: the next slot of each sensor is checked (11 R363, R364). -/
def execSamplePoll (s : State) : Host.Outcome State Fault Refusal :=
  .next (s.gate (s.mainClk) (s.samplePoll))

/-- FUSION_CLOSE: the next fusion cycle closes (11 R361, R364, R368). -/
def execFusionClose (s : State) : Host.Outcome State Fault Refusal :=
  .next (s.gate (s.mainClk) (s.fusionClose))

/-- GRID_RELEASE: the oldest closed cycle is released (11 R370, R376). -/
def execGridRelease (s : State) : Host.Outcome State Fault Refusal :=
  .next (s.gate (s.mainClk) (s.gridRelease))

/-- GA_ENABLE: a master writes GA_CFG with EN = 1 and its other fields from `v` (11 R379). -/
def execGaEnable (m : Master) (v : Nat) (s : State) : Host.Outcome State Fault Refusal :=
  .next (s.gate (s.clkOf m) (s.regSet m R.GA_CFG 0 0 (v ||| 2 ^ 31)))

end Sys2Proof.Machine
end

