-- ==== Sys2Proof/Machine/Dispatch.lean ====
section
/-! DEFINITION. One arm per command: the direct call of its meaning. -/

namespace Sys2Proof.Machine

def exec (i : Instr) (s : State) : Host.Outcome State Fault Refusal :=
  match i with
  | .instructionIssue k => Sys2Proof.Machine.execInstructionIssue k s
  | .instructionComplete k e => Sys2Proof.Machine.execInstructionComplete k e s
  | .nop k => Sys2Proof.Machine.execNop k s
  | .halt k => Sys2Proof.Machine.execHalt k s
  | .yield k => Sys2Proof.Machine.execYield k s
  | .br k => Sys2Proof.Machine.execBr k s
  | .brc k => Sys2Proof.Machine.execBrc k s
  | .loop k => Sys2Proof.Machine.execLoop k s
  | .endl k => Sys2Proof.Machine.execEndl k s
  | .smov k => Sys2Proof.Machine.execSmov k s
  | .sadd k => Sys2Proof.Machine.execSadd k s
  | .tdset k => Sys2Proof.Machine.execTdset k s
  | .tload k e n => Sys2Proof.Machine.execTload k e n s
  | .tstore k e n => Sys2Proof.Machine.execTstore k e n s
  | .tcopy k e n => Sys2Proof.Machine.execTcopy k e n s
  | .mma k e n => Sys2Proof.Machine.execMma k e n s
  | .conv k e n => Sys2Proof.Machine.execConv k e n s
  | .dwconv k e n => Sys2Proof.Machine.execDwconv k e n s
  | .pool k e n => Sys2Proof.Machine.execPool k e n s
  | .arraySubPassBoundary k e => Sys2Proof.Machine.execArraySubPassBoundary k e s
  | .vop k e n => Sys2Proof.Machine.execVop k e n s
  | .vred k e n => Sys2Proof.Machine.execVred k e n s
  | .vlut k e n => Sys2Proof.Machine.execVlut k e n s
  | .req k e n => Sys2Proof.Machine.execReq k e n s
  | .gather k e sched => Sys2Proof.Machine.execGather k e sched s
  | .scatter k e sched => Sys2Proof.Machine.execScatter k e sched s
  | .mins k e n => Sys2Proof.Machine.execMins k e n s
  | .msealSeal k e => Sys2Proof.Machine.execMsealSeal k e s
  | .msealClear k e => Sys2Proof.Machine.execMsealClear k e s
  | .mlook k e n => Sys2Proof.Machine.execMlook k e n s
  | .mkmap k e n => Sys2Proof.Machine.execMkmap k e n s
  | .mnbr k e n => Sys2Proof.Machine.execMnbr k e n s
  | .mapBatch k e => Sys2Proof.Machine.execMapBatch k e s
  | .sealEnd n => Sys2Proof.Machine.execSealEnd n s
  | .send k e n => Sys2Proof.Machine.execSend k e n s
  | .recv k e n => Sys2Proof.Machine.execRecv k e n s
  | .flitArrive j => Sys2Proof.Machine.execFlitArrive j s
  | .creditReturn j => Sys2Proof.Machine.execCreditReturn j s
  | .queueCreditGrant q => Sys2Proof.Machine.execQueueCreditGrant q s
  | .queueDeliver q => Sys2Proof.Machine.execQueueDeliver q s
  | .streamStall k e => Sys2Proof.Machine.execStreamStall k e s
  | .swait k e => Sys2Proof.Machine.execSwait k e s
  | .ssig k e => Sys2Proof.Machine.execSsig k e s
  | .barr k e => Sys2Proof.Machine.execBarr k e s
  | .chkpt k e => Sys2Proof.Machine.execChkpt k e s
  | .post k e => Sys2Proof.Machine.execPost k e s
  | .ppuServe c => Sys2Proof.Machine.execPpuServe c s
  | .ppuCommit c => Sys2Proof.Machine.execPpuCommit c s
  | .patrol k => Sys2Proof.Machine.execPatrol k s
  | .patrolComplete k sig => Sys2Proof.Machine.execPatrolComplete k sig s
  | .patrolDue k => Sys2Proof.Machine.execPatrolDue k s
  | .patrolRepeat k => Sys2Proof.Machine.execPatrolRepeat k s
  | .patrolOverdue k => Sys2Proof.Machine.execPatrolOverdue k s
  | .drain k why => Sys2Proof.Machine.execDrain k why s
  | .drainEnd k => Sys2Proof.Machine.execDrainEnd k s
  | .drawerResume k => Sys2Proof.Machine.execDrawerResume k s
  | .lmInit m k => Sys2Proof.Machine.execLmInit m k s
  | .lmInitDone k => Sys2Proof.Machine.execLmInitDone k s
  | .engineStop m k => Sys2Proof.Machine.execEngineStop m k s
  | .programLoad k d => Sys2Proof.Machine.execProgramLoad k d s
  | .jobStart c => Sys2Proof.Machine.execJobStart c s
  | .contextWaiting c => Sys2Proof.Machine.execContextWaiting c s
  | .sliceEnd c => Sys2Proof.Machine.execSliceEnd c s
  | .contextSwitch c => Sys2Proof.Machine.execContextSwitch c s
  | .ctEntryFire c j => Sys2Proof.Machine.execCtEntryFire c j s
  | .deadlineMiss c x => Sys2Proof.Machine.execDeadlineMiss c x s
  | .abortFabricAbandon c => Sys2Proof.Machine.execAbortFabricAbandon c s
  | .recovery c => Sys2Proof.Machine.execRecovery c s
  | .fence k => Sys2Proof.Machine.execFence k s
  | .cabinetRemap c => Sys2Proof.Machine.execCabinetRemap c s
  | .controlBoundary => Sys2Proof.Machine.execControlBoundary s
  | .arbCfgEn m v => Sys2Proof.Machine.execArbCfgEn m v s
  | .fsReady m => Sys2Proof.Machine.execFsReady m s
  | .mainReady m => Sys2Proof.Machine.execMainReady m s
  | .checker m => Sys2Proof.Machine.execChecker m s
  | .software m => Sys2Proof.Machine.execSoftware m s
  | .arbiterLockstepMismatch => Sys2Proof.Machine.execArbiterLockstepMismatch s
  | .aliveToggle => Sys2Proof.Machine.execAliveToggle s
  | .errorInjection o => Sys2Proof.Machine.execErrorInjection o s
  | .islWdogKick m v early => Sys2Proof.Machine.execIslWdogKick m v early s
  | .islWdogExpire n => Sys2Proof.Machine.execIslWdogExpire n s
  | .pairStoreCompare core a data => Sys2Proof.Machine.execPairStoreCompare core a data s
  | .islSync core crc => Sys2Proof.Machine.execIslSync core crc s
  | .pairCompareTimeout => Sys2Proof.Machine.execPairCompareTimeout s
  | .worldCsrWrite core v => Sys2Proof.Machine.execWorldCsrWrite core v s
  | .lockerCodeFetch core a => Sys2Proof.Machine.execLockerCodeFetch core a s
  | .secureInterrupt core source count => Sys2Proof.Machine.execSecureInterrupt core source count s
  | .lpddr5xRead m a n load => Sys2Proof.Machine.execLpddr5xRead m a n load s
  | .lpddr5xWrite m a data load => Sys2Proof.Machine.execLpddr5xWrite m a data load s
  | .unmappedAccess m write a n => Sys2Proof.Machine.execUnmappedAccess m write a n s
  | .poweredOffAccess m write a n => Sys2Proof.Machine.execPoweredOffAccess m write a n s
  | .sbufRead m a n => Sys2Proof.Machine.execSbufRead m a n s
  | .sbufWrite m a data => Sys2Proof.Machine.execSbufWrite m a data s
  | .islandSramWrite m a data => Sys2Proof.Machine.execIslandSramWrite m a data s
  | .hyperramRead m a n transient => Sys2Proof.Machine.execHyperramRead m a n transient s
  | .hyperramWrite m a data => Sys2Proof.Machine.execHyperramWrite m a data s
  | .budgetWindowStart waiting => Sys2Proof.Machine.execBudgetWindowStart waiting s
  | .sbufSliceInit j => Sys2Proof.Machine.execSbufSliceInit j s
  | .sbufShareEnable m c v => Sys2Proof.Machine.execSbufShareEnable m c v s
  | .memInjArm m v => Sys2Proof.Machine.execMemInjArm m v s
  | .cmuShareEnable m n v => Sys2Proof.Machine.execCmuShareEnable m n v s
  | .cmuShareDisable m n => Sys2Proof.Machine.execCmuShareDisable m n s
  | .queueEnable m q v => Sys2Proof.Machine.execQueueEnable m q v s
  | .queueDisable m q => Sys2Proof.Machine.execQueueDisable m q s
  | .csiFrameStart r vc hdrOk => Sys2Proof.Machine.execCsiFrameStart r vc hdrOk s
  | .csiLongPacket r vc dt data hdrOk crcOk => Sys2Proof.Machine.execCsiLongPacket r vc dt data hdrOk crcOk s
  | .csiFrameEnd r vc hdrOk => Sys2Proof.Machine.execCsiFrameEnd r vc hdrOk s
  | .slotEnable m n v => Sys2Proof.Machine.execSlotEnable m n v s
  | .mirrorFrameStart o => Sys2Proof.Machine.execMirrorFrameStart o s
  | .mirrorRepeat o => Sys2Proof.Machine.execMirrorRepeat o s
  | .mirrorEnable m o v => Sys2Proof.Machine.execMirrorEnable m o v s
  | .mtuAdj m v => Sys2Proof.Machine.execMtuAdj m v s
  | .mtuSet m t => Sys2Proof.Machine.execMtuSet m t s
  | .ituRateWrite m v => Sys2Proof.Machine.execItuRateWrite m v s
  | .timedPulseFire n => Sys2Proof.Machine.execTimedPulseFire n s
  | .timedPulseWidthEnd n => Sys2Proof.Machine.execTimedPulseWidthEnd n s
  | .timedPulseArm m n t => Sys2Proof.Machine.execTimedPulseArm m n t s
  | .captureEdge n rising => Sys2Proof.Machine.execCaptureEdge n rising s
  | .captureRead n => Sys2Proof.Machine.execCaptureRead n s
  | .samplePoll => Sys2Proof.Machine.execSamplePoll s
  | .fusionClose => Sys2Proof.Machine.execFusionClose s
  | .gridRelease => Sys2Proof.Machine.execGridRelease s
  | .gaEnable m v => Sys2Proof.Machine.execGaEnable m v s
  | .canFrameReceive n w data => Sys2Proof.Machine.execCanFrameReceive n w data s
  | .canTxReq m n v => Sys2Proof.Machine.execCanTxReq m n v s
  | .canFrameSent n => Sys2Proof.Machine.execCanFrameSent n s
  | .canTxAbort m n v => Sys2Proof.Machine.execCanTxAbort m n v s
  | .canRestart m n => Sys2Proof.Machine.execCanRestart m n s
  | .canBusOff n => Sys2Proof.Machine.execCanBusOff n s
  | .canBusOffRecovery n => Sys2Proof.Machine.execCanBusOffRecovery n s
  | .linStart m n => Sys2Proof.Machine.execLinStart m n s
  | .linDone n breakOk syncOk pid data chk => Sys2Proof.Machine.execLinDone n breakOk syncOk pid data chk s
  | .linResponseTimeout n => Sys2Proof.Machine.execLinResponseTimeout n s
  | .gpioEdge n rising => Sys2Proof.Machine.execGpioEdge n rising s
  | .islandTimerExpire n => Sys2Proof.Machine.execIslandTimerExpire n s
  | .cabinBusTimeout m write a => Sys2Proof.Machine.execCabinBusTimeout m write a s
  | .bbPostedWrite perform m a data => Sys2Proof.Machine.execBbPostedWrite perform m a data s
  | .bbNonpostedAccess m write a n data lk => Sys2Proof.Machine.execBbNonpostedAccess m write a n data lk s
  | .bbLockBreak a => Sys2Proof.Machine.execBbLockBreak a s
  | .bbOutboundAccess m write a n data => Sys2Proof.Machine.execBbOutboundAccess m write a n data s
  | .switchFrameReceive p data blocked full => Sys2Proof.Machine.execSwitchFrameReceive p data blocked full s
  | .gclChange m p => Sys2Proof.Machine.execGclChange m p s
  | .gclSwitch p => Sys2Proof.Machine.execGclSwitch p s
  | .fdbRead m idx => Sys2Proof.Machine.execFdbRead m idx s
  | .fdbWrite m idx => Sys2Proof.Machine.execFdbWrite m idx s
  | .fdbDelete m idx => Sys2Proof.Machine.execFdbDelete m idx s
  | .fdbFlush m idx => Sys2Proof.Machine.execFdbFlush m idx s
  | .vlanRead m vid => Sys2Proof.Machine.execVlanRead m vid s
  | .vlanWrite m vid => Sys2Proof.Machine.execVlanWrite m vid s
  | .vlanDelete m vid => Sys2Proof.Machine.execVlanDelete m vid s
  | .vlanFlush m vid => Sys2Proof.Machine.execVlanFlush m vid s
  | .switchTableCommand m t op idx => Sys2Proof.Machine.execSwitchTableCommand m t op idx s
  | .ethFrameReceive => Sys2Proof.Machine.execEthFrameReceive s
  | .ethFrameSend blocked full => Sys2Proof.Machine.execEthFrameSend blocked full s
  | .trestleHeartbeatSend => Sys2Proof.Machine.execTrestleHeartbeatSend s
  | .trestleFrameReceive seq f crcOk => Sys2Proof.Machine.execTrestleFrameReceive seq f crcOk s
  | .trestleLinkDown => Sys2Proof.Machine.execTrestleLinkDown s
  | .trestleLinkUp peer => Sys2Proof.Machine.execTrestleLinkUp peer s
  | .roleDecisionTimeout => Sys2Proof.Machine.execRoleDecisionTimeout s
  | .mirrorImageSend => Sys2Proof.Machine.execMirrorImageSend s
  | .mirrorImageComplete crcOk => Sys2Proof.Machine.execMirrorImageComplete crcOk s
  | .partnerAliveEdge => Sys2Proof.Machine.execPartnerAliveEdge s
  | .partnerSilent => Sys2Proof.Machine.execPartnerSilent s
  | .secMboxReq m n a => Sys2Proof.Machine.execSecMboxReq m n a s
  | .hash n => Sys2Proof.Machine.execHash n s
  | .verify n => Sys2Proof.Machine.execVerify n s
  | .wrap n => Sys2Proof.Machine.execWrap n s
  | .unwrap n => Sys2Proof.Machine.execUnwrap n s
  | .quote n => Sys2Proof.Machine.execQuote n s
  | .lockerSeal n => Sys2Proof.Machine.execLockerSeal n s
  | .lockerFree n => Sys2Proof.Machine.execLockerFree n s
  | .bindCabinet n => Sys2Proof.Machine.execBindCabinet n s
  | .counterRead n => Sys2Proof.Machine.execCounterRead n s
  | .counterCommit n => Sys2Proof.Machine.execCounterCommit n s
  | .logRead n => Sys2Proof.Machine.execLogRead n s
  | .serviceHang n => Sys2Proof.Machine.execServiceHang n s
  | .serviceRestartDone code => Sys2Proof.Machine.execServiceRestartDone code s
  | .secCoreWatchdog busy recent => Sys2Proof.Machine.execSecCoreWatchdog busy recent s
  | .secWarmRestartDone => Sys2Proof.Machine.execSecWarmRestartDone s
  | .powerGoodRise => Sys2Proof.Machine.execPowerGoodRise s
  | .pllFLock => Sys2Proof.Machine.execPllFLock s
  | .islandRelease hyper => Sys2Proof.Machine.execIslandRelease hyper s
  | .lpddr5xTrainingDone ok => Sys2Proof.Machine.execLpddr5xTrainingDone ok s
  | .manifestLaunch emmc => Sys2Proof.Machine.execManifestLaunch emmc s
  | .recoveryWrite flashOk => Sys2Proof.Machine.execRecoveryWrite flashOk s
  | .xspiRead m cmd => Sys2Proof.Machine.execXspiRead m cmd s
  | .xspiWrite m cmd => Sys2Proof.Machine.execXspiWrite m cmd s
  | .xspiProgram m cmd => Sys2Proof.Machine.execXspiProgram m cmd s
  | .xspiErase m cmd => Sys2Proof.Machine.execXspiErase m cmd s
  | .xspiDone => Sys2Proof.Machine.execXspiDone s
  | .emmcCommand m cmd => Sys2Proof.Machine.execEmmcCommand m cmd s
  | .emmcDone timeout cmdCrc dataCrc => Sys2Proof.Machine.execEmmcDone timeout cmdCrc dataCrc s
  | .domainOn => Sys2Proof.Machine.execDomainOn s
  | .domainOff => Sys2Proof.Machine.execDomainOff s
  | .state => Sys2Proof.Machine.execState s
  | .deviceReset => Sys2Proof.Machine.execDeviceReset s
  | .autoIdleEntry => Sys2Proof.Machine.execAutoIdleEntry s
  | .canWake n => Sys2Proof.Machine.execCanWake n s
  | .wakeNWake => Sys2Proof.Machine.execWakeNWake s
  | .ituWake => Sys2Proof.Machine.execItuWake s
  | .warnCrossing r => Sys2Proof.Machine.execWarnCrossing r s
  | .brownCrossing r => Sys2Proof.Machine.execBrownCrossing r s
  | .brownRecovery r => Sys2Proof.Machine.execBrownRecovery r s
  | .longDip r => Sys2Proof.Machine.execLongDip r s
  | .uvOv r high => Sys2Proof.Machine.execUvOv r high s
  | .thermalWarn tj => Sys2Proof.Machine.execThermalWarn tj s
  | .thermalHold tj => Sys2Proof.Machine.execThermalHold tj s
  | .thermalRelease tj => Sys2Proof.Machine.execThermalRelease tj s
  | .pllLockLoss p => Sys2Proof.Machine.execPllLockLoss p s
  | .pllRelock p ok => Sys2Proof.Machine.execPllRelock p ok s
  | .referenceLoss => Sys2Proof.Machine.execReferenceLoss s
  | .xtal32Fail => Sys2Proof.Machine.execXtal32Fail s
  | .avsStep target ack => Sys2Proof.Machine.execAvsStep target ack s
  | .resetN => Sys2Proof.Machine.execResetN s
  | .powerGoodFall => Sys2Proof.Machine.execPowerGoodFall s
  | .powerOnReset => Sys2Proof.Machine.execPowerOnReset s
  | .inboundRequest f q => Sys2Proof.Machine.execInboundRequest f q s
  | .outboundRequest m write a n data => Sys2Proof.Machine.execOutboundRequest m write a n data s
  | .outboundTimeout m a n => Sys2Proof.Machine.execOutboundTimeout m a n s
  | .hifAttach f core a => Sys2Proof.Machine.execHifAttach f core a s
  | .hifDetach f core => Sys2Proof.Machine.execHifDetach f core s
  | .submissionTail f core idx => Sys2Proof.Machine.execSubmissionTail f core idx s
  | .completionHead f core idx => Sys2Proof.Machine.execCompletionHead f core idx s
  | .eventHead f core idx => Sys2Proof.Machine.execEventHead f core idx s
  | .heartbeat f core => Sys2Proof.Machine.execHeartbeat f core s
  | .cmdNop f => Sys2Proof.Machine.execCmdNop f s
  | .cabinetCreate f => Sys2Proof.Machine.execCabinetCreate f s
  | .cabinetDestroy f => Sys2Proof.Machine.execCabinetDestroy f s
  | .contextCreate f => Sys2Proof.Machine.execContextCreate f s
  | .contextDestroy f => Sys2Proof.Machine.execContextDestroy f s
  | .jobSubmit f => Sys2Proof.Machine.execJobSubmit f s
  | .abort f => Sys2Proof.Machine.execAbort f s
  | .setVfWindow f => Sys2Proof.Machine.execSetVfWindow f s
  | .logDirtyStart f => Sys2Proof.Machine.execLogDirtyStart f s
  | .logDirtySync f => Sys2Proof.Machine.execLogDirtySync f s
  | .logDirtyStop f => Sys2Proof.Machine.execLogDirtyStop f s
  | .vfQuiesce f => Sys2Proof.Machine.execVfQuiesce f s
  | .vfUnquiesce f => Sys2Proof.Machine.execVfUnquiesce f s
  | .saveVfState f => Sys2Proof.Machine.execSaveVfState f s
  | .restoreVfState f image => Sys2Proof.Machine.execRestoreVfState f image s
  | .secService f => Sys2Proof.Machine.execSecService f s
  | .powerRequest f => Sys2Proof.Machine.execPowerRequest f s
  | .cabinetStop f => Sys2Proof.Machine.execCabinetStop f s
  | .cabinetStart f => Sys2Proof.Machine.execCabinetStart f s
  | .cabinetRestart f => Sys2Proof.Machine.execCabinetRestart f s
  | .heartbeatTimeout => Sys2Proof.Machine.execHeartbeatTimeout s
  | .pcieLinkDown => Sys2Proof.Machine.execPcieLinkDown s
  | .hostStateDiscard => Sys2Proof.Machine.execHostStateDiscard s
  | .vfFlr f => Sys2Proof.Machine.execVfFlr f s
  | .pfFlr => Sys2Proof.Machine.execPfFlr s
  | .vfEnableClear => Sys2Proof.Machine.execVfEnableClear s
  | .counterOverflow shared k n => Sys2Proof.Machine.execCounterOverflow shared k n s
  | .perfFreeze m on => Sys2Proof.Machine.execPerfFreeze m on s
  | .ieJob m a => Sys2Proof.Machine.execIeJob m a s
  | .lowWordRead m a => Sys2Proof.Machine.execLowWordRead m a s
  | .registerWrite m a data => Sys2Proof.Machine.execRegisterWrite m a data s
  | .mirrorFrameEnd o => Sys2Proof.Machine.execMirrorFrameEnd o s
  | .flitReachesQueue j => Sys2Proof.Machine.execFlitReachesQueue j s
  | .pairLoadCompare core a n => Sys2Proof.Machine.execPairLoadCompare core a n s
  | .linWakeUp n => Sys2Proof.Machine.execLinWakeUp n s
  | .perstNDeassert => Sys2Proof.Machine.execPerstNDeassert s

end Sys2Proof.Machine
end

