-- ==== Sys2Proof/Machine/Tick.lean ====
section
/-! DEFINITION. What passes with time when no command waits (notes/assumptions/7.md): one cycle of FCLK, 1 ns: the two time units
(11 R350, R353), and in every second one an ACLK cycle, which the cycle counters count (18 R597, R598, R606). -/

namespace Sys2Proof.Machine

/-- An ACLK cycle of engine `k`: TE_PERF_TIME, and the events that the state shows: 0x01, 0x02 a drawer is active, 0x15 a drain,
0x1A a patrol. -/
def State.engineCycle (s : State) (k : EngineId) : State :=
  if 16 ≤ k.val ∨ !s.pd (k.val + 4) ∨ !s.aclkOn k then s
  else
    let s := s.put F.TE_PERF_TIME_CYCLES k.val 0 ((s.rd F.TE_PERF_TIME_CYCLES k.val + 1) % 2 ^ 64)
    let s := s.countEvent k 0x01 true
    let s := if (s.eng k).active.isSome then s.countEvent k 0x02 true else s
    let s := if (s.eng k).st = .draining then s.countEvent k 0x15 true else s
    if (s.eng k).st = .patrol then s.countEvent k 0x1A true else s

/-- An FCLK cycle of the shared units. -/
def State.unitCycle (s : State) : State :=
  if s.fclk then (List.range 4).foldl (fun s u => s.countUnit u 0x01 0 0 true) s else s

/-- One FCLK tick. -/
def State.tick (s : State) : State :=
  let s := s.ituTick
  let s := s.mtuTick
  let s := s.unitCycle
  let s := if s.aclk && s.ticks % 2 == 1 then (List.finRange 17).foldl (fun s k => s.engineCycle k) s else s
  ({ s with ticks := s.ticks + 1 } : State).captureTick

end Sys2Proof.Machine
end

