-- ==== Sys2Proof/Safety.lean ====
section
/-! DEFINITION. What claims about the machine are made of: a command that runs with a stated effect, what it leaves alone, and
the invariants of every state. -/

namespace Sys2Proof

open Sys2Proof.Machine

/-- Command `c` on `s` answers a next state, and `P` holds of it. -/
def Does (c : Instr) (s : State) (P : State → Prop) : Prop := ∃ t, exec c s = .next t ∧ P t

/-- Every byte of memory outside `w` reads in `t` as it read in `s`. -/
def SameMemBut (w : Nat → Prop) (s t : State) : Prop := ∀ a, ¬ w a → t.mem.read a = s.mem.read a

/-- Every byte of memory reads in `t` as it read in `s`. -/
def SameMem (s t : State) : Prop := ∀ a, t.mem.read a = s.mem.read a

/-- Every register copy at an address outside `w` has in `t` the value it had in `s`. -/
def SameRegsBut (w : Nat → Prop) (s t : State) : Prop :=
  ∀ (r : RegDef) (i j : Nat), ¬ w (r.addr i j) → t.regVal r i j = s.regVal r i j

/-- The addresses of the performance block of engine `k` (18 R597). -/
def perfBlock (k : EngineId) (a : Nat) : Prop := 0x40108000 + 0x10000 * k.val ≤ a ∧ a < 0x4010A000 + 0x10000 * k.val

/-- The addresses of the shared units' performance counters (18 R606). -/
def unitBlock (a : Nat) : Prop := 0x400C0000 ≤ a ∧ a < 0x400C1000

/-- Every engine but `k` is in `t` as it was in `s`. -/
def SameEnginesBut (k : EngineId) (s t : State) : Prop := ∀ j, j ≠ k → t.eng j = s.eng j

/-- Every drawer of engine `k` but `d` is in `t` as it was in `s`. -/
def SameDrawersBut (k : EngineId) (d : Fin 8) (s t : State) : Prop := ∀ e, e ≠ d → t.drw k e = s.drw k e

/-- Every cabinet but `c` is in `t` as it was in `s`. -/
def SameCabsBut (c : CabId) (s t : State) : Prop := ∀ b, b ≠ c → t.cab b = s.cab b

/-- `t` is `s` but for engine `k`, the performance block of `k` and the counter of free values. -/
def OnlyEngine (k : EngineId) (s t : State) : Prop :=
  t = { s with
    engines := t.engines
    regs := t.regs
    freeCtr := t.freeCtr } ∧ SameEnginesBut k s t ∧ SameRegsBut (perfBlock k) s t

/-- No abort is under way, no cabinet waits for one, and no RT context is stored or logged as blocked: SCH has nothing to settle
(09 R278, R281). -/
def Calm (s : State) : Prop :=
  (∀ c, (s.cab c).aborting = [] ∧ (s.cab c).after = .none) ∧
  ∀ c x t, s.ctx? c x = some t → t.blockedLogged = false ∧ (t.rt = false ∨ t.drawer.isSome = true)

/-- The command leaves `P`, and SCH then settles the aborts and logs that it may have let go on; a calm state stays as it is. -/
def Settles (P : State → Prop) (t : State) : Prop := ∃ u, P u ∧ t = u.schSettle ∧ (Calm u → t = u)

/-- The issue unit of engine `k` stands at the word `iw` of its active drawer `d`, which passes every decode check; nothing holds it
back, and no sample is to be taken of it (02 R53, R55; 04 R100 to R104; 18 R602). -/
structure Issues (s : State) (k : EngineId) (d : Fin 8) (iw : IWord) : Prop where
  clock : s.aclkOn k = true
  here : s.issuing k = some (d, (s.drw k d).pc)
  inside : (s.drw k d).pc < s.allot k d
  code : s.mem.anyBad (s.ibKey k d (s.drw k d).pc) 16 = false
  word : s.ibWord k d (s.drw k d).pc = iw
  check : decodeCheck s k d (Ins.of iw) = none
  free : ∀ t ∈ (s.drw k d).sb, (footOf s k d (Ins.of t.iw)).blocks (footOf s k d (Ins.of iw)) = false
  held : (Ins.of iw).wait = true → (s.drw k d).sb = []
  untagged : (s.eng k).tagNext = false

/-- The issue unit of engine `k` may issue and stands at the word `iw`, class 0x0, of its active drawer `d`, with no earlier instruction
in the scoreboard: conditions on the registers, the drawer and the word alone (02 R53, R57; 04 R117; 05 R127; 18 R602). -/
structure AtWord (s : State) (k : EngineId) (d : Fin 8) (iw : IWord) : Prop where
  clock : s.aclkOn k = true
  active : (s.eng k).active = some d
  running : (s.eng k).st = .running
  run : s.flag F.TE_CTRL_RUN k.val = true
  loaded : (s.drw k d).loaded = true
  job : (s.drw k d).jobOn = true
  going : (s.drw k d).halted = false ∧ (s.drw k d).faulting = false
  empty : (s.drw k d).sb = []
  untagged : (s.eng k).tagNext = false
  inside : (s.drw k d).pc < s.allot k d
  code : s.mem.anyBad (s.ibKey k d (s.drw k d).pc) 16 = false
  word : s.ibWord k d (s.drw k d).pc = iw
  cls : (Ins.of iw).cls = 0 ∧ (Ins.of iw).rsv = false

/-- What an issued control or scalar instruction leaves: its drawer is `w`, with the instruction counted in program order, and
nothing else of the machine has changed. -/
def Issued (k : EngineId) (d : Fin 8) (w : Drawer) (s t : State) : Prop :=
  t.drw k d = { w with
    prev := (s.drw k d).pc
    seq := (s.drw k d).seq + 1 } ∧ SameDrawersBut k d s t ∧ OnlyEngine k s t

/-- The gang size that SMOV reads beside an engine's rank (05 R133). -/
def Machine.State.gangOf (s : State) (k : EngineId) (d : Fin 8) : Nat :=
  match (s.drw k d).ctx with
  | some (c, _) => s.gang c
  | none => 1

/-- Entry `e` of engine `k`'s active drawer `d` is an instruction `iw` that runs and has done `n` units of its work, without a
status to report yet; no detection code of the machine fails (02 R54; 10 R293). -/
structure Runs (s : State) (k : EngineId) (d : Fin 8) (e : Nat) (iw : IWord) (n : Nat) : Prop where
  clock : s.aclkOn k = true
  active : (s.eng k).active = some d
  entry : ∃ q, (s.drw k d).sb[e]? = some q ∧ q.iw = iw ∧ q.st = .running ∧ q.pos = n ∧ q.status = 0 ∧ q.chk = []
  codes : s.mem.bad = []

/-- What one unit of work leaves in the scoreboard: the entry has done one unit more, and is complete where it was the last
of `total`. -/
def stepped (total : Nat) (q : SbEntry) : SbEntry :=
  { q with
    pos := q.pos + 1
    st := if total ≤ q.pos + 1 then .done else .running }

/-- `s` while engine `k` works on instruction `i`: its requests carry the instruction's effective class (04 R97). -/
def Machine.State.working (s : State) (k : EngineId) (i : Ins) : State := s.setQct k (i.effQct (s.eng k).jobQct)

/-- Nothing but entry `e` of drawer `d` of engine `k`, as `f` changes it, and memory has changed; the Island Engine may have been
reported by the Cabin Bus monitor (13 R421). -/
def EntryChanged (k : EngineId) (d : Fin 8) (e : Nat) (f : SbEntry → SbEntry) (s t : State) : Prop :=
  t = { s.modEnt k d e f with
    mem := t.mem
    out := t.out } ∧ (k.val ≠ 16 → t.out = s.out)

/-- Entry `e` of drawer `d` of engine `k` has gone one unit on, and besides memory nothing else has changed. -/
def UnitDone (k : EngineId) (d : Fin 8) (e total : Nat) (s t : State) : Prop := EntryChanged k d e (stepped total) s t

/-- The bytes `ws` have been stored, and every other byte of memory reads as before. -/
def Stored (ws : List (Nat × Byte)) (s t : State) : Prop :=
  t.mem = (s.mem.store ws).1 ∧ SameMemBut (fun a => ∃ w ∈ ws, w.1 = a) s t

/-- Byte writes at offsets of drawer `d`'s window as byte writes of memory (02 R48), but for those of the Island Engine that fall in the
private region of the pair, which are not made (13 R421). -/
def windowBytes (s : State) (k : EngineId) (d : Fin 8) (ws : List (Nat × Byte)) : List (Nat × Byte) :=
  (ws.map (fun w => (s.lmKey k d w.1, w.2))).filter (fun w => decide (k.val ≠ 16) || !s.inPrivate w.1 1)

/-- What a unit of work with an informational status leaves in the scoreboard: one unit more and the status kept, complete where it
was the last. -/
def noted (total st : Nat) (q : SbEntry) : SbEntry := { stepped total q with status := st }

/-- What one piece of a GATHER or SCATTER by unit `u` leaves in the scoreboard: that unit has done one piece more, `st` is
kept where it is higher than what was kept, and the instruction is complete where no unit has a piece left (07 R221). -/
def pieceDone (i : Ins) (tb row : Desc) (u : Fin 4) (st : Nat) (q : SbEntry) : SbEntry :=
  let acc := modAt (fun x => x + 1) u.val q.acc
  { q with
    acc := acc
    pos := q.pos + 1
    status := max q.status st
    st := if [0, 1, 2, 3].all (fun v => (gsNext i tb row acc v).isNone) then .done else .running }

/-- One pair of a MINS on a share of `limit` entries (07 R202, R203, R206): the entries, the pairs accepted, whether one found the
share full, whether one had the reserved value. -/
def insertPair (limit : Nat) (a : List (Nat × Nat) × Nat × Bool × Bool) (p : Nat × Nat) : List (Nat × Nat) × Nat × Bool × Bool :=
  if p.2 = 0xFFFFFFFF then (a.1, a.2.1, a.2.2.1, true)
  else if a.1.any (fun e => e.1 == p.1) then (a.1, a.2.1 + 1, a.2.2.1, a.2.2.2)
  else if a.1.length < limit then (insertKV p.1 p.2 a.1, a.2.1 + 1, a.2.2.1, a.2.2.2)
  else (a.1, a.2.1, true, a.2.2.2)

/-- Entry `e` of engine `k`'s active drawer `d` is an instruction `iw` that waits in the scoreboard and may start now. -/
structure Starts (s : State) (k : EngineId) (d : Fin 8) (e : Nat) (q : SbEntry) : Prop where
  clock : s.aclkOn k = true
  active : (s.eng k).active = some d
  entry : (s.drw k d).sb[e]? = some q
  waiting : q.st = .waiting
  free : s.canStart k d e (Ins.of q.iw) = true

/-- `t` is `s` but for engine `k`. -/
def JustEngine (k : EngineId) (s t : State) : Prop := t = { s with engines := t.engines } ∧ SameEnginesBut k s t

/-- A read or write by master `m` of `n` bytes at `a` is served from memory: the address is a device address of one of the memories,
the access is not refused, no detection code of the machine fails, and no error injection is armed (12 R380; 14 R459-R470). -/
structure Machine.State.Serves (s : State) (m : Master) (write : Bool) (a n : Nat) : Prop where
  device : s.toDevice m a n = some a
  region : s.region a = .lpddr ∨ s.region a = .sbuf ∨ s.region a = .hyper ∨ s.region a = .sram
  allowed : s.refuse m write a n = none
  codes : s.mem.bad = []
  inject : s.inj = none

/-- SEC's core and its service `code` are up, and the oldest request of mailbox `n` is `q`, for that service, from a world that may
ask for it (14 R485, R486). -/
structure Served (s : State) (n : Fin 4) (code : Nat) (q : SecReq) (rest : List SecReq) : Prop where
  clock : s.mainClk = true
  core : s.sec.restarting = false ∧ s.flag F.SEC_STATUS_HALTED = false
  service : bit s.sec.down code = false
  oldest : vget s.sec.queues n = q :: rest
  asks : q.code = code
  world : code ∈ [3, 4, 6, 7, 8, 10] → mboxWorld n = true

/-- From `v`, where mailbox `n` no longer holds the request `q`, its response is written and the owner told (14 R484). -/
def Answered (n : Fin 4) (q : SecReq) (rest : List SecReq) (v : State) (st value : Nat) (t : State) : Prop :=
  vget v.sec.queues n = rest ∧ t = (v.respond n q st value).settleBox n

/-- Every context of every cabinet but context `x` of cabinet `c` is in `t` as it was in `s`. -/
def SameCtxsBut (c : CabId) (x : CtxId) (s t : State) : Prop :=
  ∀ b y, ¬ (b = c ∧ y = x) → t.ctx? b y = s.ctx? b y

/-- Context `x` of cabinet `c` exists and `P` holds of it. -/
def Machine.State.ctxIs (s : State) (c : CabId) (x : CtxId) (P : Ctx → Prop) : Prop := ∃ t, s.ctx? c x = some t ∧ P t

/-- What SCH_DLM_LAST holds after a deadline-miss record: cabinet, context, cause, and one record more (09 R284, R285). -/
def Machine.State.dlmIs (s t : State) (c : CabId) (x cause : Nat) : Prop :=
  t.regVal R.SCH_DLM_LAST 0 0 = c.val * 2 ^ 29 + x * 2 ^ 22 + cause * 2 ^ 20
    + satInc 16 (s.rd { reg := R.SCH_DLM_LAST, hi := 15, lo := 0 })

/-- The ranks of context `x` of cabinet `c`, in drawer `d`, at the start of job `j`, before its start checkpoints (09 R268). -/
def Machine.State.begun (s : State) (c : CabId) (x : CtxId) (d : Fin 8) (j : Job) : State :=
  let s := (s.ranksOf c).foldl (fun (s : State) r =>
    let k := s.rankEng c r
    (((s.modDrw k d (fun w => w.startJob j)).modEng k (fun e => { e with jobQct := j.qct })).takeEffect R.TE_CTRL k.val).takeEffect
      R.TE_CHK_TOL k.val) s
  s.modCtx c x (fun t => { t with
    started := true
    ranks := t.ranks.map (fun r => { r with
      dets := 0
      net0 := []
      net1 := [] }) })

/-- The start checkpoints of every rank written, and the first status other than OK (10 R301). -/
def Machine.State.startCheckpoints (s : State) (c : CabId) (x : CtxId) (d : Fin 8) : State × Nat :=
  (s.ranksOf c).foldl (fun (acc : State × Nat) r =>
    let k := s.rankEng c r
    let a := acc.1.checkpoint k d c x r ((s.drw k d).pc) 0xFFFF true
    (a.1, firstBad acc.2 a.2)) (s, 0)

/-- The submission entry `l` at the head of function `f`'s ring is a command of code `opc` with `n` arguments that firmware takes; `u` is
the state after the entry is read (15 R519, R521, R524). -/
structure Heads (s : State) (f : Fin 33) (opc n : Nat) (l : List Byte) (u : State) : Prop where
  takes : s.takesCmd f = true
  entry : s.headEntry f = (u, l)
  code : fieldAt l 0 1 = opc
  known : knownOpc f opc = true
  good : entryBad l n = false

/-- The command of function `f` with entry `l` and code `opc` has begun and not completed (15 R521). -/
structure UnderWay (s : State) (f : Fin 33) (opc : Nat) (l : List Byte) : Prop where
  goes : s.cmdOn f = true
  entry : (vget s.fns f).cmd = l
  code : fieldAt l 0 1 = opc

/-- Function `f`'s page is served: SCH is powered and clocked, and a host function exists behind an open interface (15 R507; 16 R556). -/
def Machine.State.PageOpen (s : State) (f : Fin 33) : Prop :=
  s.mainClk = true ∧ s.pd 31 = true ∧ (f.val = 32 ∨ (s.boot.open_ = true ∧ s.pd 41 = true ∧ s.fnExists f.val = true))

/-- Function `f` is OPEN with no command under way, its completion ring has room, and the entry at its head is the bytes `l` of a
readable memory: a well-formed command of code `opc` with `n` arguments (15 R519, R521, R524). -/
structure Queued (s : State) (f : Fin 33) (opc n : Nat) (l : List Byte) : Prop where
  page : s.PageOpen f
  opened : (vget s.fns f).st = .open_
  idle : (vget s.fns f).cmd = []
  waits : (vget s.fns f).sq.head ≠ (vget s.fns f).sq.tail
  room : (vget s.fns f).cq.used + 1 < 2 ^ (vget s.fns f).cq.log2
  entry : ∃ a, s.fnAddr f ((vget s.fns f).sq.base + 64 * (vget s.fns f).sq.head) 64 = some a ∧ s.Serves .sch false a 64 ∧
    l = s.mem.readBytes a 64
  code : fieldAt l 0 1 = opc
  reserved : zeros l 1 1 = true ∧ zeros l 4 4 = true
  unused : zeros l (8 + 8 * n) (56 - 8 * n) = true

/-- The command of function `f` with entry `l` and code `opc` has begun, and its page is served (15 R521, R541). -/
structure Going (s : State) (f : Fin 33) (opc : Nat) (l : List Byte) : Prop where
  page : s.PageOpen f
  state : (vget s.fns f).st = .open_ ∨ (vget s.fns f).st = .lost ∨ (vget s.fns f).st = .quiesced
  entry : (vget s.fns f).cmd = l
  some_ : l ≠ []
  code : fieldAt l 0 1 = opc

/-- Reads have been made from `s` to `u`: memory, contexts, functions and the units are as they were. -/
def ReadOnly (s u : State) : Prop :=
  u.mem = s.mem ∧ u.cabs = s.cabs ∧ u.fns = s.fns ∧ u.engines = s.engines ∧ u.pmc = s.pmc ∧ u.sec = s.sec ∧ u.host = s.host ∧
    u.hostOut = s.hostOut

/-- Cabinet `c` is one that function `f`'s commands may name as their own (15 R526; 09 R288). -/
def Machine.State.Owns (s : State) (f : Fin 33) (c : CabId) : Prop :=
  (s.cab c).live = true ∧ (f.val = 32 → (s.cab c).flash = true) ∧ (f.val ≠ 32 → (s.cab c).flash = false ∧ (s.cab c).fn = f.val)

/-- From `v`, the command with entry `l` of function `f` has completed with a status, VALUE and DETAIL (15 R520, R521). -/
def Completed (f : Fin 33) (l : List Byte) (v : State) (st value detail : Nat) (t : State) : Prop :=
  t = (v.completeCmd f l st value detail).settleRing f 4096

/-- From `v`, the command with entry `l` of function `f` stays under way. -/
def Begun (f : Fin 33) (l : List Byte) (v t : State) : Prop := t = v.modFn f (fun x => { x with cmd := l })

end Sys2Proof
end

