-- ==== Sys2Proof/WellFormed.lean ====
section
/-! DEFINITION. Well-formed commands: every operand fits the field that carries it (00 R3-R6; the widths of the rows'
registers, addresses, rings and frames). `exec` is total: what is not well formed is a command that no sender can send. -/

namespace Sys2Proof

open Sys2Proof.Machine

/-- A number fits `n` bits. -/
def fits (n v : Nat) : Bool := decide (v < 2 ^ n)

/-- The length of a register access (19 R611). -/
def regLen (l : List Byte) : Bool := l.length == 4 || l.length == 8 || l.length == 16

/-- At most `n` bytes: a payload (13 R434, R435; 11 R339) or the data of an access. -/
def upTo (n : Nat) (l : List Byte) : Bool := decide (l.length ≤ n)

/-- An access of at least one byte. -/
def some1 (l : List Byte) : Bool := !l.isEmpty

/-- A counter that exists: eight of each of the sixteen engines, four of each of the four shared units (18 R597, R606). -/
def counters (shared : Bool) (k : Nat) (n : Fin 8) : Bool :=
  if shared then decide (k < 4) && decide (n.val < 4) else decide (k < 16)

/-- Whether a command is well formed. -/
def Instr.wellFormed (i : Instr) : Bool :=
  match i with
  | .instructionIssue _ => true
  | .instructionComplete _ e => fits 8 e
  | .nop _ => true
  | .halt _ => true
  | .yield _ => true
  | .br _ => true
  | .brc _ => true
  | .loop _ => true
  | .endl _ => true
  | .smov _ => true
  | .sadd _ => true
  | .tdset _ => true
  | .tload _ e _ => fits 8 e
  | .tstore _ e _ => fits 8 e
  | .tcopy _ e _ => fits 8 e
  | .mma _ e _ => fits 8 e
  | .conv _ e _ => fits 8 e
  | .dwconv _ e _ => fits 8 e
  | .pool _ e _ => fits 8 e
  | .arraySubPassBoundary _ e => fits 8 e
  | .vop _ e _ => fits 8 e
  | .vred _ e _ => fits 8 e
  | .vlut _ e _ => fits 8 e
  | .req _ e _ => fits 8 e
  | .gather _ e _ => fits 8 e
  | .scatter _ e _ => fits 8 e
  | .mins _ e _ => fits 8 e
  | .msealSeal _ e => fits 8 e
  | .msealClear _ e => fits 8 e
  | .mlook _ e _ => fits 8 e
  | .mkmap _ e _ => fits 8 e
  | .mnbr _ e _ => fits 8 e
  | .mapBatch _ e => fits 8 e
  | .sealEnd _ => true
  | .send _ e _ => fits 8 e
  | .recv _ e _ => fits 8 e
  | .flitArrive _ => true
  | .creditReturn _ => true
  | .queueCreditGrant _ => true
  | .queueDeliver _ => true
  | .streamStall _ e => fits 8 e
  | .swait _ e => fits 8 e
  | .ssig _ e => fits 8 e
  | .barr _ e => fits 8 e
  | .chkpt _ e => fits 8 e
  | .post _ e => fits 8 e
  | .ppuServe _ => true
  | .ppuCommit _ => true
  | .patrol _ => true
  | .patrolComplete _ _ => true
  | .patrolDue _ => true
  | .patrolRepeat _ => true
  | .patrolOverdue _ => true
  | .drain _ _ => true
  | .drainEnd _ => true
  | .drawerResume _ => true
  | .lmInit _ _ => true
  | .lmInitDone _ => true
  | .engineStop _ _ => true
  | .programLoad _ _ => true
  | .jobStart _ => true
  | .contextWaiting _ => true
  | .sliceEnd _ => true
  | .contextSwitch _ => true
  | .ctEntryFire _ j => fits 6 j
  | .deadlineMiss _ _ => true
  | .abortFabricAbandon _ => true
  | .recovery _ => true
  | .fence _ => true
  | .cabinetRemap _ => true
  | .controlBoundary => true
  | .arbCfgEn _ v => fits 64 v
  | .fsReady _ => true
  | .mainReady _ => true
  | .checker _ => true
  | .software _ => true
  | .arbiterLockstepMismatch => true
  | .aliveToggle => true
  | .errorInjection _ => true
  | .islWdogKick _ v _ => fits 64 v
  | .islWdogExpire _ => true
  | .pairStoreCompare _ a data => fits 48 a && some1 data
  | .islSync _ _ => true
  | .pairCompareTimeout => true
  | .worldCsrWrite _ v => fits 64 v
  | .lockerCodeFetch _ a => fits 48 a
  | .secureInterrupt _ _ count => fits 32 count
  | .lpddr5xRead _ a n load => fits 48 a && decide (0 < n) && fits 19 load.fill && fits 32 load.link
  | .lpddr5xWrite _ a data load => fits 48 a && some1 data && fits 19 load.fill && fits 32 load.link
  | .unmappedAccess _ _ a n => fits 48 a && decide (0 < n)
  | .poweredOffAccess _ _ a n => fits 48 a && decide (0 < n)
  | .sbufRead _ a n => fits 48 a && decide (0 < n)
  | .sbufWrite _ a data => fits 48 a && some1 data
  | .islandSramWrite _ a data => fits 48 a && some1 data
  | .hyperramRead _ a n _ => fits 48 a && decide (0 < n)
  | .hyperramWrite _ a data => fits 48 a && some1 data.bytes
  | .budgetWindowStart _ => true
  | .sbufSliceInit _ => true
  | .sbufShareEnable _ _ v => fits 64 v
  | .memInjArm _ v => fits 64 v
  | .cmuShareEnable _ _ v => fits 64 v
  | .cmuShareDisable _ _ => true
  | .queueEnable _ _ v => fits 64 v
  | .queueDisable _ _ => true
  | .csiFrameStart _ vc _ => fits 4 vc
  | .csiLongPacket _ vc dt data _ _ => fits 4 vc && fits 6 dt && upTo 65535 data
  | .csiFrameEnd _ vc _ => fits 4 vc
  | .slotEnable _ _ v => fits 64 v
  | .mirrorFrameStart _ => true
  | .mirrorRepeat _ => true
  | .mirrorEnable _ _ v => fits 64 v
  | .mtuAdj _ v => fits 64 v
  | .mtuSet _ t => fits 64 t
  | .ituRateWrite _ v => fits 64 v
  | .timedPulseFire _ => true
  | .timedPulseWidthEnd _ => true
  | .timedPulseArm _ _ t => fits 64 t
  | .captureEdge _ _ => true
  | .captureRead _ => true
  | .samplePoll => true
  | .fusionClose => true
  | .gridRelease => true
  | .gaEnable _ v => fits 64 v
  | .canFrameReceive _ w data => fits 32 w && upTo 2048 data
  | .canTxReq _ _ v => fits 64 v
  | .canFrameSent _ => true
  | .canTxAbort _ _ v => fits 64 v
  | .canRestart _ _ => true
  | .canBusOff _ => true
  | .canBusOffRecovery _ => true
  | .linStart _ _ => true
  | .linDone _ _ _ pid data chk => fits 8 pid && upTo 8 data && fits 8 chk
  | .linResponseTimeout _ => true
  | .gpioEdge _ _ => true
  | .islandTimerExpire _ => true
  | .cabinBusTimeout _ _ a => fits 48 a
  | .bbPostedWrite _ _ a data => fits 48 a && some1 data
  | .bbNonpostedAccess _ _ a n data _ => fits 48 a && decide (0 < n) && upTo 4096 data
  | .bbLockBreak a => fits 48 a
  | .bbOutboundAccess _ _ a n data => fits 48 a && decide (0 < n) && upTo 4096 data
  | .switchFrameReceive _ data _ _ => upTo 65535 data
  | .gclChange _ _ => true
  | .gclSwitch _ => true
  | .fdbRead _ idx => fits 13 idx
  | .fdbWrite _ idx => fits 13 idx
  | .fdbDelete _ idx => fits 13 idx
  | .fdbFlush _ idx => fits 13 idx
  | .vlanRead _ vid => fits 12 vid
  | .vlanWrite _ vid => fits 12 vid
  | .vlanDelete _ vid => fits 12 vid
  | .vlanFlush _ vid => fits 12 vid
  | .switchTableCommand _ _ _ idx => fits 13 idx
  | .ethFrameReceive => true
  | .ethFrameSend _ _ => true
  | .trestleHeartbeatSend => true
  | .trestleFrameReceive _ _ _ => true
  | .trestleLinkDown => true
  | .trestleLinkUp _ => true
  | .roleDecisionTimeout => true
  | .mirrorImageSend => true
  | .mirrorImageComplete _ => true
  | .partnerAliveEdge => true
  | .partnerSilent => true
  | .secMboxReq _ _ a => fits 48 a
  | .hash _ => true
  | .verify _ => true
  | .wrap _ => true
  | .unwrap _ => true
  | .quote _ => true
  | .lockerSeal _ => true
  | .lockerFree _ => true
  | .bindCabinet _ => true
  | .counterRead _ => true
  | .counterCommit _ => true
  | .logRead _ => true
  | .serviceHang _ => true
  | .serviceRestartDone _ => true
  | .secCoreWatchdog _ _ => true
  | .secWarmRestartDone => true
  | .powerGoodRise => true
  | .pllFLock => true
  | .islandRelease _ => true
  | .lpddr5xTrainingDone _ => true
  | .manifestLaunch _ => true
  | .recoveryWrite _ => true
  | .xspiRead _ cmd => fits 32 cmd
  | .xspiWrite _ cmd => fits 32 cmd
  | .xspiProgram _ cmd => fits 32 cmd
  | .xspiErase _ cmd => fits 32 cmd
  | .xspiDone => true
  | .emmcCommand _ cmd => fits 32 cmd
  | .emmcDone _ _ _ => true
  | .domainOn => true
  | .domainOff => true
  | .state => true
  | .deviceReset => true
  | .autoIdleEntry => true
  | .canWake _ => true
  | .wakeNWake => true
  | .ituWake => true
  | .warnCrossing _ => true
  | .brownCrossing _ => true
  | .brownRecovery _ => true
  | .longDip _ => true
  | .uvOv _ _ => true
  | .thermalWarn _ => true
  | .thermalHold _ => true
  | .thermalRelease _ => true
  | .pllLockLoss _ => true
  | .pllRelock _ _ => true
  | .referenceLoss => true
  | .xtal32Fail => true
  | .avsStep target _ => fits 12 target
  | .resetN => true
  | .powerGoodFall => true
  | .powerOnReset => true
  | .inboundRequest _ _ => true
  | .outboundRequest _ _ a n data => fits 48 a && decide (0 < n) && upTo 4096 data
  | .outboundTimeout _ a n => fits 48 a && decide (0 < n)
  | .hifAttach _ _ a => fits 48 a
  | .hifDetach _ _ => true
  | .submissionTail _ _ idx => fits 12 idx
  | .completionHead _ _ idx => fits 12 idx
  | .eventHead _ _ idx => fits 12 idx
  | .heartbeat _ _ => true
  | .cmdNop _ => true
  | .cabinetCreate _ => true
  | .cabinetDestroy _ => true
  | .contextCreate _ => true
  | .contextDestroy _ => true
  | .jobSubmit _ => true
  | .abort _ => true
  | .setVfWindow _ => true
  | .logDirtyStart _ => true
  | .logDirtySync _ => true
  | .logDirtyStop _ => true
  | .vfQuiesce _ => true
  | .vfUnquiesce _ => true
  | .saveVfState _ => true
  | .restoreVfState _ _ => true
  | .secService _ => true
  | .powerRequest _ => true
  | .cabinetStop _ => true
  | .cabinetStart _ => true
  | .cabinetRestart _ => true
  | .heartbeatTimeout => true
  | .pcieLinkDown => true
  | .hostStateDiscard => true
  | .vfFlr _ => true
  | .pfFlr => true
  | .vfEnableClear => true
  | .counterOverflow shared k n => counters shared k n
  | .perfFreeze _ _ => true
  | .ieJob _ a => fits 48 a
  | .lowWordRead _ a => fits 48 a
  | .registerWrite _ a data => fits 48 a && regLen data
  | .mirrorFrameEnd _ => true
  | .flitReachesQueue _ => true
  | .pairLoadCompare _ a n => fits 48 a && decide (0 < n)
  | .linWakeUp _ => true
  | .perstNDeassert => true

end Sys2Proof
end

