-- ==== Sys2Proof/Certificates/Slice0/Obligations.lean ====
section
/-! DEFINITION. The statements about the EB1632: what its commands do, what they leave alone, and what every step keeps. -/

open Sys2Proof Sys2Proof.Machine

/-! ### The block as a whole -/

/-- A step takes the command at the front of the queue and runs it on the state with the queue's rest. -/
def Obligations.StepRunsFrontCommand : Prop :=
  ∀ (c : Instr) (l : List Instr) (s : State), step { s with pending := c :: l } = exec c { s with pending := l }

/-- With no command waiting, a step is one tick of FCLK (the model's choice, notes/assumptions/7.md): the tick count advances, the
Main Time Unit adds one MTU_INCR where FCLK runs (11 R350), and no command's effect happens: memory, cabinets, queues and
the drawers of every engine stand. -/
def Obligations.IdleStepIsOneTick : Prop :=
  ∀ s : State, s.pending = [] → ∃ t, step s = .next t ∧ t.ticks = s.ticks + 1 ∧
    t.mtu = (if s.fclk then (s.mtu + s.rd F.MTU_INCR_NS * 2 ^ 32 + s.rd F.MTU_INCR_FRAC) % mtuMod else s.mtu) ∧
    t.mem = s.mem ∧ t.cabs = s.cabs ∧ t.sn = s.sn ∧ t.fns = s.fns ∧ t.out = s.out ∧ t.pending = [] ∧
    ∀ k d, t.drw k d = s.drw k d

/-- After a power-on reset every register reads its Reset column (00 R7), both island cores are in the Secure world (14 R460),
FAULT_N is asserted (16 R551), the host's pages are DETACHED (15 R516), and nothing is listed in memory, no cabinet exists and no
command waits. -/
def Obligations.ResetState : Prop :=
  (∀ (r : RegDef) (i j : Nat), State.reset.regVal r i j = r.resetVal ∧ State.reset.regEff r i j = r.resetVal) ∧
  (∀ core : Fin 2, vget State.reset.isl.world core = true) ∧ State.reset.isl.faultN = false ∧
  (∀ f : Fin 33, (vget State.reset.fns f).st = .detached) ∧ (∀ c, (State.reset.cab c).live = false) ∧
  (∀ a, State.reset.mem.read a = 0) ∧ (∀ a, State.reset.mem.isBad a = false) ∧ State.reset.pending = []

/-- Memory has its canonical form after reset. -/
def Obligations.ResetMemoryCanonical : Prop := State.reset.mem.wf = true

/-- Every step keeps the canonical form of memory: no byte is listed twice, none that reads as nothing was written, whatever
command runs. -/
def Obligations.StepKeepsMemoryCanonical : Prop :=
  ∀ s t : State, s.mem.wf = true → step s = .next t → t.mem.wf = true

/-! ### The issue unit: control and scalar instructions (05 R126 to R135) -/

/-- NOP and YIELD with nothing to wait for go to the next word; BR goes to its target; BRC goes there where its predicate, or the
INFO bit it names, differs from its invert bit, and to the next word otherwise. Nothing else changes. The second part says for which
words at the pc each of the four answers a next state, from the registers, the drawer and the word alone. -/
def Obligations.BranchesMoveThePc : Prop :=
  (∀ (s : State) (k : EngineId) (d : Fin 8) (iw : IWord), Issues s k d iw →
    let i := Ins.of iw
    let w := s.drw k d
    let next := { w with pc := w.pc + 1 }
    let target := { w with pc := bits i.imm 11 0 }
    (i.opc = 0x00 → Does (.nop k) s (Issued k d next s)) ∧
    (i.opc = 0x02 → w.sb = [] → Does (.yield k) s (Issued k d next s)) ∧
    (i.opc = 0x03 → Does (.br k) s (Issued k d target s)) ∧
    (i.opc = 0x04 →
      let v := if bits i.mod 7 6 = 0 then w.rdP (bits i.mod 4 0) else w.info.getLsbD (bits i.mod 4 0)
      Does (.brc k) s (Issued k d (if v ≠ bit i.mod 5 then target else next) s))) ∧
  (∀ (s : State) (k : EngineId) (d : Fin 8) (iw : IWord), AtWord s k d iw →
    let i := Ins.of iw
    let w := s.drw k d
    i.dst = .none → i.srca = .none → i.srcb = .none → i.imm < 4096 →
    (i.opc = 0x00 → i.mod = 0 → i.imm = 0 → ∃ t, exec (.nop k) s = .next t ∧ (t.drw k d).pc = w.pc + 1) ∧
    (i.opc = 0x02 → i.mod = 0 → i.imm = 0 → ∃ t, exec (.yield k) s = .next t ∧ (t.drw k d).pc = w.pc + 1) ∧
    (i.opc = 0x03 → i.mod = 0 → ∃ t, exec (.br k) s = .next t ∧ (t.drw k d).pc = i.imm) ∧
    (i.opc = 0x04 → i.mod < 8 → ∃ t, exec (.brc k) s = .next t ∧ (t.drw k d).pc = (if w.rdP i.mod then i.imm else w.pc + 1)) ∧
    (i.opc = 0x04 → 64 ≤ i.mod → i.mod < 96 → ∃ t, exec (.brc k) s = .next t ∧
      (t.drw k d).pc = (if w.info.getLsbD (i.mod - 64) then i.imm else w.pc + 1)))

/-- LOOP with a count of 0 goes to its target and opens no loop; with another count and fewer than four loops open it writes the count
to L and opens a loop at the next word. ENDL of the innermost loop counts L down modulo 2^32: to the loop's start, or on, closing the
loop, when L becomes 0. LOOP with four loops open and a count other than 0, and ENDL with no loop open or with another counter than the innermost loop's, fault
with LOOP_DEPTH: the fault is recorded against the word and the drawer drains; no loop and no counter changes. The second part says for
which words at the pc LOOP and ENDL answer a next state, from the registers, the drawer and the word alone. -/
def Obligations.LoopsCountDown : Prop :=
  (∀ (s : State) (k : EngineId) (d : Fin 8) (iw : IWord), Issues s k d iw →
    let i := Ins.of iw
    let w := s.drw k d
    let faulted := fun (t : State) => (t.eng k).st = .draining ∧ (t.eng k).why = some .fault ∧ (t.drw k d).faulting = true ∧
      (t.drw k d).loops = w.loops ∧ (t.drw k d).l = w.l ∧ (t.drw k d).pc = w.pc ∧
      (w.fault = none → (t.drw k d).fault = some ⟨w.pc, 0, 0x2A⟩) ∧ SameMem s t
    (i.opc = 0x05 → ∀ n, (i.srca = .imm n ∨ ∃ r, i.srca = .reg .S r ∧ n = (w.rdS r : Int)) → 0 ≤ n →
      (n = 0 → Does (.loop k) s (Issued k d { w with pc := bits i.imm 11 0 } s)) ∧
      (0 < n → w.loops.length < 4 → Does (.loop k) s (Issued k d { w.wrL i.dst.num n.toNat with
           pc := w.pc + 1
           loops := ⟨fin 4 (by decide) i.dst.num, w.pc + 1⟩ :: w.loops } s)) ∧
      (0 < n → w.loops.length = 4 → Does (.loop k) s faulted)) ∧
    (i.opc = 0x06 → ∀ l ls, w.loops = l :: ls → l.ctr.val = i.srca.num →
      let v := (w.rdL l.ctr.val + 2 ^ 32 - 1) % 2 ^ 32
      Does (.endl k) s (Issued k d
        (if v = 0 then { w.wrL l.ctr.val v with
            pc := w.pc + 1
            loops := ls }
         else { w.wrL l.ctr.val v with pc := l.start }) s)) ∧
    (i.opc = 0x06 → (w.loops = [] ∨ ∃ l ls, w.loops = l :: ls ∧ l.ctr.val ≠ i.srca.num) → Does (.endl k) s faulted)) ∧
  (∀ (s : State) (k : EngineId) (d : Fin 8) (iw : IWord) (n : Fin 4), AtWord s k d iw →
    let i := Ins.of iw
    let w := s.drw k d
    i.srcb = .none → i.mod = 0 →
    (∀ v : Nat, i.opc = 0x05 → i.dst = .reg .L n.val → i.srca = .imm v → v < 512 → i.imm < 4096 → 0 < v → w.loops.length < 4 →
      ∃ t, exec (.loop k) s = .next t ∧ (t.drw k d).pc = w.pc + 1 ∧ (t.drw k d).rdL n.val = v ∧
        (t.drw k d).loops = ⟨n, w.pc + 1⟩ :: w.loops) ∧
    (∀ r : Fin 32, i.opc = 0x05 → i.dst = .reg .L n.val → i.srca = .reg .S r.val → i.imm < 4096 → w.rdS r.val = 0 →
      ∃ t, exec (.loop k) s = .next t ∧ (t.drw k d).pc = i.imm ∧ (t.drw k d).loops = w.loops) ∧
    (∀ a ls, i.opc = 0x06 → i.dst = .none → i.srca = .reg .L n.val → i.imm = 0 → w.loops = ⟨n, a⟩ :: ls →
      ∃ t, exec (.endl k) s = .next t ∧ (w.rdL n.val = 1 → (t.drw k d).pc = w.pc + 1 ∧ (t.drw k d).loops = ls) ∧
        (1 < w.rdL n.val → (t.drw k d).pc = a ∧ (t.drw k d).rdL n.val = w.rdL n.val - 1 ∧ (t.drw k d).loops = w.loops)))

/-- SMOV moves an immediate, a register of file S, Q or L, the INFO mask, or rank and gang size, and clears INFO bits; SADD writes
the sum, difference, product, AND, OR, exclusive OR or a shift by the low five bits to S, or a comparison to P. A write of S0
or P0 changes nothing but the pc. The second part says for which words at the pc SMOV and SADD answer a next state, from the registers,
the drawer and the word alone. -/
def Obligations.ScalarResults : Prop :=
  (∀ (s : State) (k : EngineId) (d : Fin 8) (iw : IWord), Issues s k d iw →
    let i := Ins.of iw
    let w := { s.drw k d with pc := (s.drw k d).pc + 1 }
    let a := w.rdS i.srca.num
    let b := if bit i.mod 4 then bits i.imm 31 0 else
      match i.srcb with | .imm v => toU 32 v | .reg _ n => w.rdS n | _ => 0
    (i.opc = 0x08 → bits i.mod 2 0 = 0 → Does (.smov k) s (Issued k d (w.wrSql i.dst (bits i.imm 31 0)) s)) ∧
    (i.opc = 0x08 → bits i.mod 2 0 = 1 → Does (.smov k) s (Issued k d (w.wrSql i.dst (w.rdSql i.srca)) s)) ∧
    (i.opc = 0x08 → bits i.mod 2 0 = 2 → Does (.smov k) s (Issued k d (w.wrS i.dst.num w.info.toNat) s)) ∧
    (i.opc = 0x08 → bits i.mod 2 0 = 3 →
      Does (.smov k) s (Issued k d { w with info := w.info &&& ~~~(BitVec.ofNat 32 a) } s)) ∧
    (i.opc = 0x08 → bits i.mod 2 0 = 4 →
      Does (.smov k) s (Issued k d (w.wrS i.dst.num (w.rank % 256 + s.gangOf k d % 256 * 256)) s)) ∧
    (i.opc = 0x09 → ∀ v, (bits i.mod 3 0, v) ∈ [(0, (a + b) % 2 ^ 32), (1, (a + 2 ^ 32 - b) % 2 ^ 32), (2, a * b % 2 ^ 32),
        (3, a &&& b), (4, a ||| b), (5, a ^^^ b), (6, a * 2 ^ (b % 32) % 2 ^ 32), (7, a / 2 ^ (b % 32)),
        (8, toU 32 (fdiv (sext 32 a) (2 ^ (b % 32))))] → Does (.sadd k) s (Issued k d (w.wrS i.dst.num v) s)) ∧
    (i.opc = 0x09 → ∀ v, (bits i.mod 3 0, v) ∈ [(9, decide (a = b)), (10, decide (sext 32 a < sext 32 b)), (11, decide (a < b))] →
      Does (.sadd k) s (Issued k d (w.wrP i.dst.num v) s))) ∧
  (∀ (s : State) (k : EngineId) (d : Fin 8) (iw : IWord) (n a b : Fin 32), AtWord s k d iw → n.val ≠ 0 →
    let i := Ins.of iw
    let w := s.drw k d
    i.dst = .reg .S n.val → i.imm < 2 ^ 32 →
    (i.opc = 0x08 → i.mod = 0 → i.srca = .none → i.srcb = .none →
      ∃ t, exec (.smov k) s = .next t ∧ (t.drw k d).rdS n.val = i.imm ∧ (t.drw k d).pc = w.pc + 1) ∧
    (i.opc = 0x08 → i.mod = 1 → i.srca = .reg .S a.val → i.srcb = .none → i.imm = 0 →
      ∃ t, exec (.smov k) s = .next t ∧ (t.drw k d).rdS n.val = w.rdS a.val ∧ (t.drw k d).pc = w.pc + 1) ∧
    (i.opc = 0x09 → i.mod = 16 → i.srca = .reg .S a.val → i.srcb = .none →
      ∃ t, exec (.sadd k) s = .next t ∧ (t.drw k d).rdS n.val = (w.rdS a.val + i.imm) % 2 ^ 32 ∧ (t.drw k d).pc = w.pc + 1) ∧
    (i.opc = 0x09 → i.mod = 1 → i.srca = .reg .S a.val → i.srcb = .reg .S b.val → i.imm = 0 →
      ∃ t, exec (.sadd k) s = .next t ∧ (t.drw k d).rdS n.val = (w.rdS a.val + 2 ^ 32 - w.rdS b.val) % 2 ^ 32 ∧
        (t.drw k d).pc = w.pc + 1))

/-- TDSET writes one field of a descriptor register with a register plus an immediate (or adds it to BASE, modulo 2^24), copies a
descriptor register, or loads one from 32 bytes of the drawer's Local Memory window. A copy with LAST clears the live bits of the
pages wholly inside its source's range (04 R98). The second part says for which words at the pc TDSET answers a next state, from the
registers, the drawer and the word alone. -/
def Obligations.DescriptorsAreSet : Prop :=
  (∀ (s : State) (k : EngineId) (d : Fin 8) (iw : IWord), Issues s k d iw → (Ins.of iw).opc = 0x0A →
    let i := Ins.of iw
    let w := { s.drw k d with pc := (s.drw k d).pc + 1 }
    let op := bits i.mod 3 0
    let old := w.rdT i.dst.num
    let v := (match i.srca with | .reg .S n => w.rdS n | _ => 0) + bits i.imm 31 0
    (∀ hi lo, (op, hi, lo) ∈ [(0, 23, 0), (1, 47, 32), (2, 63, 48), (3, 79, 64), (4, 95, 80), (5, 119, 96), (6, 143, 120),
        (7, 167, 144), (8, 191, 168), (9, 27, 24), (10, 207, 192), (11, 255, 255)] →
      Does (.tdset k) s (Issued k d (w.wrT i.dst.num (putBits old hi lo v)) s)) ∧
    (op = 14 → Does (.tdset k) s (Issued k d (w.wrT i.dst.num (putBits old 23 0 (bits old 23 0 + v))) s)) ∧
    (op = 12 → (i.last = false ∨ (w.desc i.srca).shaped = false) →
      Does (.tdset k) s (Issued k d (w.wrT i.dst.num (w.rdT i.srca.num)) s)) ∧
    (op = 12 → i.last = true → (w.desc i.srca).shaped = true → Does (.tdset k) s (fun t =>
      (∃ l, Issued k d { w.wrT i.dst.num (w.rdT i.srca.num) with live := l } s t) ∧
      ∀ p < 256, (t.drw k d).live.getLsbD p = (w.live.getLsbD p &&
        !decide ((w.desc i.srca).range.1 ≤ p * 16384 ∧ p * 16384 + 16383 ≤ (w.desc i.srca).range.2 ∧ w.ringPages.contains p = false)))) ∧
    (op = 13 → s.lmBad k d [bits i.imm 23 0] 32 = false →
      Does (.tdset k) s (Issued k d (w.wrT i.dst.num (s.lmNat k d (bits i.imm 23 0) 32)) s))) ∧
  (∀ (s : State) (k : EngineId) (d : Fin 8) (iw : IWord) (n a : Fin 32), AtWord s k d iw → (Ins.of iw).opc = 0x0A →
    let i := Ins.of iw
    let w := s.drw k d
    i.dst = .reg .T n.val → i.srcb = .none →
    (i.mod = 0 → i.srca = .none → i.imm < 2 ^ 24 → ∃ t, exec (.tdset k) s = .next t ∧ bits ((t.drw k d).rdT n.val) 23 0 = i.imm ∧
      (t.drw k d).pc = w.pc + 1) ∧
    (i.mod = 12 → i.srca = .reg .T a.val → i.imm = 0 → ∃ t, exec (.tdset k) s = .next t ∧ (t.drw k d).rdT n.val = w.rdT a.val ∧
      (t.drw k d).pc = w.pc + 1))

/-- HALT with every earlier instruction complete halts its rank. On a rank whose context has ranks that have not halted, only the
drawer changes. Where it is the last to halt, the job at the head of its context's queue ends: the job leaves the queue, the INFO
mask and open loops are cleared, and with no job left the engine stops and the context is IDLE. The second part says for which words at
the pc HALT answers a next state, from the registers, the drawer, the context and the word alone. -/
def Obligations.HaltEndsTheJob : Prop :=
  (∀ (s : State) (k : EngineId) (d : Fin 8) (iw : IWord) (c : CabId) (x : CtxId), Issues s k d iw → (Ins.of iw).opc = 0x01 →
    (s.drw k d).sb = [] → k.val ≠ 16 → (s.drw k d).ctx = some (c, x) →
    let w := s.drw k d
    let h := s.modDrw k d (fun w => { w with
      halted := true
      pc := w.pc + 1
      prev := w.pc
      seq := w.seq + 1 })
    (h.allHalted c x = false → Does (.halt k) s (Issued k d { w with
      halted := true
      pc := w.pc + 1 } s)) ∧
    (∀ q j, h.allHalted c x = true → s.ctx? c x = some q → q.drawer = some d → q.st = .active → q.jobs = [j] → j.cmpl = 0 →
        j.notify = false → (s.eng k).active = some d → s.gang c = 1 → s.rankEng c 0 = k →
      Does (.halt k) s (fun t => (t.eng k).st = .stopped ∧ (t.eng k).active = none ∧ (t.drw k d).info = 0 ∧
        (t.drw k d).loops = [] ∧ (t.drw k d).jobOn = false ∧ SameMem s t ∧
        ∃ q', t.ctx? c x = some q' ∧ q'.jobs = [] ∧ q'.st = .idle ∧ q'.started = false))) ∧
  (∀ (s : State) (k : EngineId) (d : Fin 8) (iw : IWord) (c : CabId) (x : CtxId) (q : Ctx), AtWord s k d iw →
    let i := Ins.of iw
    i.opc = 0x01 → i.dst = .none → i.srca = .none → i.srcb = .none → i.mod = 0 → i.imm = 0 → k.val ≠ 16 →
    (s.drw k d).ctx = some (c, x) → s.ctx? c x = some q → q.drawer = some d →
    ((∃ r < s.gang c, s.rankEng c r ≠ k ∧ (s.drw (s.rankEng c r) d).halted = false) →
      ∃ t, exec (.halt k) s = .next t ∧ (t.drw k d).halted = true ∧ (t.drw k d).pc = (s.drw k d).pc + 1) ∧
    (∀ j, s.gang c = 1 → s.rankEng c 0 = k → q.st = .active → q.jobs = [j] → j.cmpl = 0 → j.notify = false →
      ∃ t, exec (.halt k) s = .next t ∧ (t.eng k).st = .stopped ∧ (t.drw k d).jobOn = false ∧
        ∃ q', t.ctx? c x = some q' ∧ q'.jobs = [] ∧ q'.st = .idle))

/-- Every other instruction that passes its decode checks is placed last in the drawer's scoreboard, waiting, where fewer than 256
entries and fewer than its class's limit are held (02 R55), and the pc goes on; at a limit nothing changes. INSTRUCTION_COMPLETE
takes a complete entry from the scoreboard. -/
def Obligations.InstructionsArePlaced : Prop :=
  ∀ (s : State) (k : EngineId) (d : Fin 8) (iw : IWord), Issues s k d iw → (Ins.of iw).cls ≠ 0 →
    let i := Ins.of iw
    let w := s.drw k d
    let held := (w.sb.filter (fun t => (Ins.of t.iw).cls == i.cls)).length
    (w.sb.length < 256 → held < classMax i.cls → Does (.instructionIssue k) s (Issued k d { w with
      pc := w.pc + 1
      sb := w.sb ++ [⟨w.pc, w.seq, iw, .waiting, 0, [], [], [], 0, false, none⟩] } s)) ∧
    ((256 ≤ w.sb.length ∨ classMax i.cls ≤ held) → Does (.instructionIssue k) s (fun t => t = s))

/-- INSTRUCTION_COMPLETE of an entry whose results are there, without LAST and without a sample: with OK the entry leaves the
scoreboard and nothing else happens; with another informational status its INFO bit is set too; with a program error or a
detection the drawer's fault names the word and the drawer drains. -/
def Obligations.CompletionRecordsStatus : Prop :=
  ∀ (s : State) (k : EngineId) (d : Fin 8) (e : Nat) (q : SbEntry), s.aclkOn k = true → (s.eng k).active = some d →
    (s.drw k d).sb[e]? = some q → q.st = .done → q.tagged = none → (Ins.of q.iw).last = false →
    let w := s.drw k d
    let out := w.sb.take e ++ w.sb.drop (e + 1)
    (q.status = 0 → Does (.instructionComplete k e) s (fun t => t = s.modDrw k d (fun w => { w with sb := out }))) ∧
    (0 < q.status → q.status < 0x20 → Does (.instructionComplete k e) s (fun t => OnlyEngine k s t ∧ SameDrawersBut k d s t ∧
      t.drw k d = { w with
        sb := out
        info := w.info ||| BitVec.ofNat 32 (2 ^ q.status) })) ∧
    (0x20 ≤ q.status → q.status < 0x60 → (s.eng k).st = .running → w.fault = none →
      Does (.instructionComplete k e) s (fun t => SameMem s t ∧ (t.eng k).st = .draining ∧ (t.eng k).why = some .fault ∧
        (t.drw k d).fault = some ⟨q.word, 0, q.status⟩ ∧ (t.drw k d).info = w.info ∧ (t.drw k d).sb.length = out.length))

/-! ### Instructions as units of work (02 R54; 04 R100 to R106) -/

/-- A placed instruction starts where it may (04 R99, R100, R102) and not before: it runs, the pages of which it writes a byte become
live (04 R89), and its requests carry its effective class (04 R97). -/
def Obligations.PlacedInstructionsStart : Prop :=
  ∀ (s : State) (k : EngineId) (d : Fin 8) (e : Nat) (q : SbEntry) (c : Instr),
    s.aclkOn k = true → (s.eng k).active = some d → (s.drw k d).sb[e]? = some q → q.st = .waiting →
    let i := Ins.of q.iw
    (i.opc, c) ∈ [(0x10, Instr.tload k e 0), (0x11, .tstore k e 0), (0x12, .tcopy k e 0), (0x32, .vlut k e 0)] →
    (s.canStart k d e i = false → Does c s (fun t => t = s)) ∧
    (s.canStart k d e i = true → q.pos = 0 → ((i.opc = 0x10 ∨ i.opc = 0x11) → dmaPieces (s.drw k d) i ≠ []) →
      (i.opc = 0x12 → copyPieces (s.drw k d) i ≠ []) → (i.opc = 0x32 → 0 < vecTotal (s.drw k d) i) →
      Does c s (fun t => t = { s with engines := t.engines } ∧ SameEnginesBut k s t ∧ SameDrawersBut k d s t ∧
        (t.eng k).reqQct = min (s.eng k).jobQct i.qct ∧
        t.drw k d = { s.drw k d with
          sb := modAt (fun q => { q with st := .running }) e (s.drw k d).sb
          live := ((s.drw k d).markLive (s.writesOf k d i true)).live }))

/-- TLOAD moves one piece of a row, within one 64-byte line, from fabric memory to the window, where the read is answered; TSTORE
moves one to fabric memory, where the write is answered; TCOPY copies the elements of one 64-byte line of its destination, and its
lines together are all its elements in order. -/
def Obligations.DmaMovesOnePiece : Prop :=
  ∀ (s : State) (k : EngineId) (d : Fin 8) (e : Nat) (iw : IWord) (n : Nat), Runs s k d e iw n →
    let i := Ins.of iw
    let w := s.drw k d
    let z := s.working k i
    let x := dmaTensor w i
    let p := nth [] (dmaPieces w i) n
    let lo := (pieceSpan (esize x.fmt) p).1
    let len := (pieceSpan (esize x.fmt) p).2
    let total := (dmaPieces w i).length
    (i.opc = 0x10 → n < total → dmaReady k z d i n = true → ∀ u r, z.fabRead (.te k) lo len = (u, r) → r.st = 0 →
      u.mem = s.mem → Does (.tload k e 1) s (fun t => UnitDone k d e total u t ∧ Stored (windowBytes u k d
        (p.flatMap (fun q => (List.range (esize x.fmt)).map (fun b => (q.2 + b, nth 0 r.data (q.1 - lo + b)))))) u t)) ∧
    (i.opc = 0x11 → n < total → dmaReady k z d i n = true → ∀ u, z.fabWriteSpan (.te k) lo len
        (p.flatMap (fun q => (List.range (esize x.fmt)).map (fun b => (q.1 - lo + b, s.mem.read (s.lmKey k d (q.2 + b)))))) = (u, 0) →
      Does (.tstore k e 1) s (fun t => t = u.modEnt k d e (stepped total))) ∧
    (i.opc = 0x12 → n < (copyPieces w i).length →
      let a := w.desc i.srca
      let t := w.desc i.dst
      let es := esize t.fmt
      (copyPieces w i).flatten = ((List.range t.count).filter (fun x => t.fmt != 1 || x % 2 == 0)).map (fun x => (t.offN x, a.offN x)) ∧
      Does (.tcopy k e 1) s (fun u => UnitDone k d e (copyPieces w i).length z u ∧ Stored (windowBytes s k d
        ((nth [] (copyPieces w i) n).flatMap (fun q => runOf q.1 (leBytes (s.lmNat k d q.2 es) es)))) z u))

/-- One step of MMA, CONV and DWCONV, without check DPUs, gives every accumulator element of its tile the element before it with
the step's products added, and leaves every other byte of memory alone; an integer element is the exact sum modulo 2^32. The weights are
those of the Weight Register, which takes its tile at the first step of a K-slice, or where it holds none (02 R34). -/
def Obligations.ArrayStepAccumulates : Prop :=
  ∀ (s : State) (k : EngineId) (d : Fin 8) (e : Nat) (iw : IWord) (n : Nat) (c : Instr) (q : SbEntry), Runs s k d e iw n →
    (s.drw k d).sb[e]? = some q →
    let i := Ins.of iw
    (i.opc, c) ∈ [(0x20, Instr.mma k e 1), (0x21, .conv k e 1), (0x22, .dwconv k e 1)] →
    let h := arrShape (s.drw k d) i q.acc
    n < h.steps →
    let p := h.at n
    let j := p.1
    let tap := p.2.1
    let slice := p.2.2.1
    let it := p.2.2.2
    let set := i.dst.first + it * h.ct + j
    let loads := it = 0 ∨ q.wts = []
    let tile := if it = 0 ∨ q.wts = [] then s.wgtTile k d h j tap slice else q.wts
    let inTile := fun (m c : Nat) => m < 32 ∧ c < 32 ∧ 32 * it + m < h.rows ∧ 32 * j + c < h.cols
    Does c s (fun t => EntryChanged k d e (fun q => { stepped h.steps q with wts := tile }) (s.working k i) t ∧
      (∀ m c, inTile m c → t.acc k d set m c = s.dpu k d h tile (s.acc k d set m c) (32 * it + m) (32 * j + c) tap slice % 2 ^ 32) ∧
      (h.kind = .int → loads → ∀ m c, inTile m c → t.acc k d set m c =
        toU 32 (sext 32 (s.acc k d set m c) + ((h.lanes slice).map (fun x =>
          sext 8 (s.actBits k d h (h.actOf (32 * it + m) (32 * j + c) tap x)) *
            s.wgtInt k d h (h.wgt x tap (32 * j + c)))).sum)) ∧
      SameMemBut (fun a => ∃ m c, inTile m c ∧ accAddr k d.val set m c ≤ a ∧ a < accAddr k d.val set m c + 4) s t)

/-- ARRAY_SUB_PASS_BOUNDARY: where every check sum of a running MMA, CONV or DWCONV agrees with its row sum and no element fails its
parity, nothing changes; where one disagrees, the instruction is complete with CHECK_FAIL and its accumulator sets are
undefined (free values), and nothing outside them changes. Without check DPUs the boundary has no effect. -/
def Obligations.SubPassBoundaryCompares : Prop :=
  ∀ (s : State) (k : EngineId) (d : Fin 8) (e : Nat) (q : SbEntry), s.aclkOn k = true → (s.eng k).active = some d →
    (s.drw k d).sb[e]? = some q → q.st = .running → (Ins.of q.iw).opc ∈ [0x20, 0x21, 0x22] → s.mem.bad = [] →
    let i := Ins.of q.iw
    let w := s.drw k d
    let kind := ((pairOf (w.desc i.srca).fmt (w.desc i.srcb).fmt).getD (.int, 32)).1
    let agree := s.checkCompare k d kind i.dst.first i.dst.nsets q.chk
    ((q.chk = [] ∨ agree = true) → Does (.arraySubPassBoundary k e) s (fun t => t = s)) ∧
    (q.chk ≠ [] → agree = false → Does (.arraySubPassBoundary k e) s (fun t =>
      (t.drw k d).sb[e]? = some { q with
        st := .done
        status := 0x43 } ∧ t.regs = s.regs ∧ t.cabs = s.cabs ∧
      SameMemBut (fun a => ∃ x ∈ i.dst.sets, accAddr k d.val x 0 0 ≤ a ∧ a < accAddr k d.val x 0 0 + 4096) s t))

/-- One segment of VOP, 256 bytes of an operand in element order: an integer result is the exact result of the operation saturated to the
destination format, a floating-point one is rounded once and converted, and MOD 13 converts the format. The first operand is a
tensor's element or an accumulator's, the second a tensor's element, an S register, an immediate or none. -/
def Obligations.VectorRowComputes : Prop :=
  ∀ (s : State) (k : EngineId) (d : Fin 8) (e : Nat) (iw : IWord) (n : Nat), Runs s k d e iw n →
    let i := Ins.of iw
    let w := s.drw k d
    let t := w.desc i.dst
    let a := w.desc i.srca
    let b := w.desc i.srcb
    let op := bits i.mod 5 0
    let xs := segment (vecSize w i) t.count n
    let place := fun (x : Nat) => accAt i.srca.first t.d0 (x / t.d0) (x % t.d0)
    let af := fun (x : Nat) => if isAcc i.srca then accFmt (w.tag (place x).1) else a.fmt
    let v := fun (x : Nat) => if isAcc i.srca then s.acc k d (place x).1 (place x).2.1 (place x).2.2 else s.elemN k d a x
    let y := fun (x : Nat) => s.elemN k d b x
    let stores := fun (f : Nat → Nat) (u : State) => UnitDone k d e (vecTotal w i) (s.working k i) u ∧ Stored (windowBytes s k d
      (xs.flatMap (fun x => elemBytes (t.offN x) t.fmt (f x)))) (s.working k i) u
    i.opc = 0x30 → n < vecTotal w i →
    (op = 13 → Does (.vop k e 1) s (stores (fun x => convert (af x) t.fmt (v x)))) ∧
    (op < 13 → (∀ x ∈ xs, fmtInt (af x) = true) → isReg .T i.srcb = true → Does (.vop k e 1) s (stores (fun x =>
      intOut t.fmt (vopInt op (8 * esize (af x)) (intOf (af x) (v x)) (intOf b.fmt (y x)))))) ∧
    (op < 13 → (∀ x ∈ xs, fmtInt (af x) = true) →
      ∀ z, (i.srcb = .imm z ∨ (i.srcb = .none ∧ z = 0) ∨ ∃ q, i.srcb = .reg .S q ∧ z = sext 32 (w.rdS q)) →
      Does (.vop k e 1) s (stores (fun x => intOut t.fmt (vopInt op (8 * esize (af x)) (intOf (af x) (v x)) z)))) ∧
    (op < 13 → (∀ x ∈ xs, fmtInt (af x) = false) → isReg .T i.srcb = true → Does (.vop k e 1) s (stores (fun x =>
      f32To t.fmt (vopFp op (fvOf (af x) (v x)) (fvOf b.fmt (y x)))))) ∧
    (op < 13 → (∀ x ∈ xs, fmtInt (af x) = false) → ∀ f, ((∃ z, i.srcb = .imm z ∧ f = fvF32 (intToF32 z)) ∨
        (i.srcb = .none ∧ f = .fin false 0) ∨ ∃ q, i.srcb = .reg .S q ∧ f = fvF32 (w.rdS q)) →
      Does (.vop k e 1) s (stores (fun x => f32To t.fmt (vopFp op (fvOf (af x) (v x)) f))))

/-- One segment of one reduction of VRED over a dimension of a tensor or an accumulator range, one segment of VLUT and one tile of POOL.
A segment of VRED that is not the last of its reduction is gathered; the last gives the reduction of everything gathered. A VRED
of operation 3 or 4 that meets a NaN gives a free index. -/
def Obligations.ReductionLookupAndPool : Prop :=
  ∀ (s : State) (k : EngineId) (d : Fin 8) (e : Nat) (iw : IWord) (n : Nat) (q : SbEntry), Runs s k d e iw n →
    (s.drw k d).sb[e]? = some q →
    let i := Ins.of iw
    let w := s.drw k d
    let z := s.working k i
    let t := w.desc i.dst
    let a := w.desc i.srca
    let b := w.desc i.srcb
    let dim := bits i.mod 4 3
    let op := bits i.mod 2 0
    let acc := isAcc i.srca
    let af := if acc then accFmt (w.tag i.srca.first) else a.fmt
    let dims := vredDims i a t
    let seg := n % vredSegs w i
    let j := if isReg .T i.dst then t.split (n / vredSegs w i) else (0, 0, 0, 0)
    let vals := (segment (vecSize w i) (vredLen w i) seg).map (fun x =>
      let c := if dim = 0 then x else j.1
      let r := if dim = 1 then x else j.2.1
      if acc then s.acc k d (i.srca.first + r / 32 * cdiv dims.1 32 + c / 32) (r % 32) (c % 32)
      else s.elem k d a c r (if dim = 2 then x else j.2.2.1) (if dim = 3 then x else j.2.2.2))
    let all := (if seg = 0 then [] else q.acc) ++ vals
    (i.opc = 0x31 → n < vredTotal w i → seg + 1 < vredSegs w i →
      Does (.vred k e 1) s (fun u => u = z.modEnt k d e (fun x => { stepped (vredTotal w i) x with acc := all }))) ∧
    (i.opc = 0x31 → isReg .T i.dst = true → n < vredTotal w i → seg + 1 = vredSegs w i →
      Does (.vred k e 1) s (fun u => ∃ free, free ≤ vredLen w i ∧
        UnitDone k d e (vredTotal w i) z { u with freeCtr := s.freeCtr } ∧
        Stored (windowBytes s k d (elemBytes (t.off j.1 j.2.1 j.2.2.1 j.2.2.2) t.fmt (vredVal op af t.fmt free all))) z u)) ∧
    (i.opc = 0x31 → isReg .T i.dst = false → n < vredTotal w i → seg + 1 = vredSegs w i →
      Does (.vred k e 1) s (fun u => ∃ free, free ≤ vredLen w i ∧ u.mem = s.mem ∧ u.drw k d = { w.wrS i.dst.num
          (vredVal op af (if 3 ≤ op then 6 else if fmtInt af then 6 else 7) free all) with
        sb := modAt (stepped (vredTotal w i)) e w.sb })) ∧
    (i.opc = 0x32 → n < vecTotal w i →
      Does (.vlut k e 1) s (fun u => UnitDone k d e (vecTotal w i) z u ∧ Stored (windowBytes s k d
        ((segment (vecSize w i) t.count n).flatMap (fun x => elemBytes (t.offN x) t.fmt
          (s.elem k d b (sext 8 (s.elemN k d a x) + 128).toNat 0 0 0)))) z u)) ∧
    (i.opc = 0x23 → n < poolTotal w i →
      let v := windowOf i a b
      let nt := cdiv (v.oh * v.ow) 32
      let fill := bits i.mod 1 0
      Does (.pool k e 1) s (fun u => UnitDone k d e (poolTotal w i) z u ∧ Stored (windowBytes s k d
        ((((List.range 32).map (fun m => 32 * (n % nt) + m)).filter (fun p => decide (p < v.oh * v.ow))).flatMap (fun p =>
          (((List.range 32).map (fun c => 32 * (n / nt) + c)).filter (fun c => decide (c < a.d0))).flatMap (fun c =>
            elemBytes (t.off c (p % v.ow) (p / v.ow) 0) t.fmt (poolVal a.fmt (bit i.mod 2) (bit i.mod 3)
              ((poolTaps a v fill p c).map (fun x => match x.1 with | .inl o => s.lmNat k d o (esize a.fmt) | .inr y => y))
              ((poolTaps a v fill p c).map (fun x => x.2))))))) z u))

/-- One row of REQ before the last: every element is (acc + BIAS) × MULT, shifted right with the entry's rounding, moved by ZP
and clamped to LO and HI, in I8; the channels that clipped are kept for the end of the instruction. -/
def Obligations.RequantiserRow : Prop :=
  ∀ (s : State) (k : EngineId) (d : Fin 8) (e : Nat) (iw : IWord) (n : Nat), Runs s k d e iw n →
    let i := Ins.of iw
    let w := s.drw k d
    let t := w.desc i.dst
    let q := w.rdQ i.srcb.num
    let ch := s.lmNat k d (q + 4) 2
    let gse := bits (s.lmNat k d q 1) 3 0
    let chan := fun (c : Nat) => if ch = 1 then 0 else bits i.imm 11 0 + c
    let en := fun (c : Nat) => s.reqEntry k d q (chan c)
    let y := fun (c : Nat) => roundShift ((sext 32 (s.acc k d (i.srca.first + n / 32 * cdiv t.d0 32 + c / 32) (n % 32) (c % 32)) +
      (en c).bias) * (en c).mult) ((en c).shift + gse) (en c).round + (en c).zp
    let out := fun (c : Nat) => min (max (y c) (en c).lo) (en c).hi
    i.opc = 0x40 → n + 1 < t.rows → Does (.req k e 1) s (fun u =>
      Stored (windowBytes s k d ((List.range t.d0).flatMap (fun c => elemBytes (t.off c n 0 0) 0 (toU 8 (out c))))) (s.working k i) u ∧
      EntryChanged k d e (fun x => { x with
        pos := x.pos + 1
        acc := ((List.range t.d0).filter (fun c => out c != y c)).map chan ++ x.acc }) (s.working k i) u)

/-! ### Gather, scatter and the Coordinate Map Unit (05 R158 to R164; 07) -/

/-- One piece of GATHER and SCATTER on a table in the window: GATHER writes a segment of the table row its index names, or zeros for
an absent or out-of-range index; SCATTER writes the row's segment over the table row (last writer), or combines a whole row with it
(sum, max). An index below -1 or past the table is noted with ROW_SKIPPED.
The same on a table in fabric memory, where its accesses leave the port and are answered: GATHER stores the segment read; SCATTER writes
the row's segment, or reads the table row in one piece and writes the combined row in the next. -/
def Obligations.GatherScatterPiece : Prop :=
  ∀ (s : State) (k : EngineId) (d : Fin 8) (e : Nat) (iw : IWord) (n r g : Nat) (u : Fin 4) (q : SbEntry), Runs s k d e iw n →
    (s.drw k d).sb[e]? = some q →
    let i := Ins.of iw
    let tb := (tableOf (s.drw k d) i).1
    let row := (tableOf (s.drw k d) i).2
    let es := esize tb.fmt
    let o := (segSpan tb g).1
    let len := (segSpan tb g).2
    let lm := row.base + r * row.st1
    let mode := bits i.mod 2 1
    let z := s.working k i
    let leaves := fun (ws : List (Nat × Byte)) (st : Nat) (t : State) => Stored (windowBytes s k d ws) z t ∧
      EntryChanged k d e (pieceDone i tb row u st) z t
    gsNext i tb row q.acc u.val = some (r, g) →
    (i.opc = 0x50 →
      (∀ a, s.gsRow k d i r = .lm a →
        Does (.gather k e [u]) s (leaves (runOf (lm + o) (s.mem.readBytes (s.lmKey k d (a + o)) len)) 0)) ∧
      (s.gsRow k d i r = .absent → Does (.gather k e [u]) s (leaves (runOf (lm + o) (List.replicate len 0)) 0)) ∧
      (s.gsRow k d i r = .skip 3 → Does (.gather k e [u]) s (leaves (runOf (lm + o) (List.replicate len 0)) 3)) ∧
      (s.gsRow k d i r = .skip 0x22 → Does (.gather k e [u]) s (leaves [] 0x22))) ∧
    (i.opc = 0x51 →
      (∀ a, s.gsRow k d i r = .lm a → mode = 2 →
        Does (.scatter k e [u]) s (leaves (runOf (a + o) (s.mem.readBytes (s.lmKey k d (lm + o)) len)) 0)) ∧
      (∀ a, s.gsRow k d i r = .lm a → mode ≠ 2 →
        Does (.scatter k e [u]) s (leaves (runOf a ((List.range tb.d0).flatMap (fun c => leBytes (scatterElem mode tb.fmt
          (s.lmNat k d (a + c * es) es) (s.lmNat k d (lm + c * es) es)) es))) 0)) ∧
      (s.gsRow k d i r = .absent → Does (.scatter k e [u]) s (leaves [] 0)) ∧
      (∀ st, s.gsRow k d i r = .skip st → Does (.scatter k e [u]) s (leaves [] st))) ∧
    (∀ a, s.gsRow k d i r = .fab a → z.gsWaits k d i q.acc u.val r = false →
      (i.opc = 0x50 → ∀ v x, z.fabRead (.te k) (a + o) len = (v, ⟨0, x⟩) → v.mem = s.mem → Does (.gather k e [u]) s (fun t =>
        Stored (windowBytes v k d (runOf (lm + o) x)) v t ∧ EntryChanged k d e (pieceDone i tb row u 0) v t)) ∧
      (i.opc = 0x51 → mode = 2 → ∀ v, z.fabWrite (.te k) (a + o) (s.mem.readBytes (s.lmKey k d (lm + o)) len) = (v, 0) →
        Does (.scatter k e [u]) s (fun t => t = v.modEnt k d e (pieceDone i tb row u 0))) ∧
      (i.opc = 0x51 → mode ≠ 2 → g = 0 → ∀ v x, z.fabRead (.te k) a (tb.d0 * es) = (v, ⟨0, x⟩) →
        Does (.scatter k e [u]) s (fun t => t = v.modEnt k d e (fun q => { pieceDone i tb row u 0 q with
          chk := (List.range (4 * row.d0)).map (fun j =>
            if j / row.d0 = u.val then fieldAt x (j % row.d0 * es) es else nth 0 q.chk j) }))) ∧
      (i.opc = 0x51 → mode ≠ 2 → g = 1 → ∀ v, z.fabWrite (.te k) a ((List.range tb.d0).flatMap (fun c =>
          leBytes (scatterElem mode tb.fmt (nth 0 q.chk (u.val * row.d0 + c)) (s.lmNat k d (lm + c * es) es)) es)) = (v, 0) →
        Does (.scatter k e [u]) s (fun t => t = v.modEnt k d e (pieceDone i tb row u 0))))

/-- The last batch of a MINS on an open share, with rejections not logged (CMU_SHARE_RLOG_LEN 0): the share's entries are the
pairs put in in order, keys kept distinct, up to its LIMIT; the accepted count goes to DST; the status is MAP_FULL if a pair found
no room, else VALUE_RESERVED if one had the reserved value, else OK. The batch may be served by MINS itself or by MAP_BATCH. -/
def Obligations.PairsAreInserted : Prop :=
  ∀ (s : State) (k : EngineId) (d : Fin 8) (e : Nat) (iw : IWord) (n : Fin 8) (q : SbEntry) (c : Instr), Runs s k d e iw 0 →
    (s.drw k d).sb[e]? = some q → q.acc = [] → c ∈ [Instr.mins k e 1, .mapBatch k e] →
    let i := Ins.of iw
    let w := s.drw k d
    let a := w.desc i.srca
    let b := w.desc i.srcb
    i.opc = 0x60 → s.shareAt k = some n → (vget s.shares n).st = .open_ → (vget s.shares n).badKeys = [] →
    s.rd F.CMU_SHARE_RLOG_LEN_LEN n.val = 0 → 0 < a.d1 → a.d1 ≤ 256 → (isReg .S i.dst = true ∨ i.dst = .none) →
    let res := ((List.range a.d1).map (fun j => (s.keyAt k d a j, s.lmNat k d (b.off 0 j 0 0) 4))).foldl
      (insertPair (s.rd F.CMU_SHARE_CFG_LIMIT n.val)) ((vget s.shares n).entries, 0, false, false)
    Does c s (fun t => (vget t.shares n).entries = res.1 ∧ (vget t.shares n).st = .open_ ∧ SameMem s t ∧
      (∀ m, m ≠ n → vget t.shares m = vget s.shares m) ∧
      (isReg .S i.dst = true → (t.drw k d).s = (w.wrS i.dst.num res.2.1).s) ∧ (i.dst = .none → (t.drw k d).s = w.s) ∧
      ∃ q', (t.drw k d).sb[e]? = some q' ∧ q'.st = .done ∧
        q'.status = if res.2.2.1 then 2 else if res.2.2.2 then 6 else 0)

/-- One batch of MLOOK and MKMAP on a sealed share: each result is the value the share holds for its key, or 0xFFFFFFFF; MKMAP's key is
the site moved by the offset, absent without a lookup where a coordinate leaves its range. The batch may be served by the
instruction itself or by MAP_BATCH. -/
def Obligations.LookupsReadTheShare : Prop :=
  ∀ (s : State) (k : EngineId) (d : Fin 8) (e : Nat) (iw : IWord) (x : Nat) (n : Fin 8) (c : Instr), Runs s k d e iw x →
    let i := Ins.of iw
    let w := s.drw k d
    let a := w.desc i.srca
    let b := w.desc i.srcb
    let t := w.desc i.dst
    let held := fun (key : Nat) => ((vget s.shares n).find key).getD 0xFFFFFFFF
    let leaves := fun (total m : Nat) (off val : Nat → Nat) (u : State) =>
      u.mem = (List.range m).foldl (fun mem j =>
        (mem.store (windowBytes s k d (runOf (off (256 * x + j)) (leBytes (val (256 * x + j)) 4)))).1) s.mem ∧
      SameMemBut (fun y => ∃ j, j < m ∧ s.lmKey k d (off (256 * x + j)) ≤ y ∧ y < s.lmKey k d (off (256 * x + j)) + 4) s u ∧
      u.drw k d = { w with sb := modAt (stepped total) e w.sb } ∧ SameDrawersBut k d s u ∧ SameEnginesBut k s u ∧
      u.shares = s.shares ∧ SameRegsBut unitBlock s u
    s.shareAt k = some n → (vget s.shares n).st = .sealed → (vget s.shares n).badKeys = [] →
    (i.opc = 0x62 → x < batches a.d1 → c ∈ [Instr.mlook k e 1, .mapBatch k e] →
      Does c s (leaves (batches a.d1) (min 256 (a.d1 - 256 * x)) (fun j => t.off 0 j 0 0) (fun j => held (s.keyAt k d a j)))) ∧
    (i.opc = 0x63 → x < batches (a.d1 * b.d1) → c ∈ [Instr.mkmap k e 1, .mapBatch k e] →
      Does c s (leaves (batches (a.d1 * b.d1)) (min 256 (a.d1 * b.d1 - 256 * x)) (fun j => t.off (j % b.d1) (j / b.d1) 0 0)
        (fun j => match kmapKey (s.keyAt k d a (j / b.d1)) (s.keyAt k d b (j % b.d1)) with
          | some key => held key
          | none => 0xFFFFFFFF)))

/-- One query of MNBR: the first D0 column indices of the node, the rest of the row 0xFFFFFFFF, noted with NBR_TRUNCATED where the node has
more; a query of -1 gives an absent row; another invalid node or an invalid pair of row pointers gives an absent row noted
with NODE_INVALID. -/
def Obligations.NeighbourLists : Prop :=
  ∀ (s : State) (k : EngineId) (d : Fin 8) (e : Nat) (iw : IWord) (r : Nat), Runs s k d e iw r →
    let i := Ins.of iw
    let w := s.drw k d
    let a := w.desc i.srca
    let b := w.desc i.srcb
    let t := w.desc i.dst
    let v := sext 32 (s.lmNat k d (a.off 0 r 0 0) 4)
    let lo := sext 32 (s.lmNat k d (b.off v.toNat 0 0 0) 4)
    let hi := sext 32 (s.lmNat k d (b.off (v.toNat + 1) 0 0 0) 4)
    let m := min (hi - lo).toNat t.d0
    let len := bits i.imm 47 24
    let leaves := fun (f : Nat → Nat) (st : Nat) (u : State) =>
      Stored (windowBytes s k d ((List.range t.d0).flatMap (fun j => runOf (t.off j r 0 0) (leBytes (f j) 4)))) (s.working k i) u ∧
      EntryChanged k d e (noted a.d1 st) (s.working k i) u
    i.opc = 0x64 → r < a.d1 →
    (v = -1 → Does (.mnbr k e 1) s (leaves (fun _ => 0xFFFFFFFF) 0)) ∧
    (v ≠ -1 → (v < -1 ∨ (b.d0 : Int) - 1 ≤ v) → Does (.mnbr k e 1) s (leaves (fun _ => 0xFFFFFFFF) 7)) ∧
    (0 ≤ v → v < (b.d0 : Int) - 1 → (lo < 0 ∨ hi < lo ∨ (len : Int) < hi) →
      Does (.mnbr k e 1) s (leaves (fun _ => 0xFFFFFFFF) 7)) ∧
    (0 ≤ v → v < (b.d0 : Int) - 1 → 0 ≤ lo → lo ≤ hi → hi ≤ (len : Int) →
      Does (.mnbr k e 1) s (leaves
        (fun j => if j < m then s.lmNat k d (bits i.imm 23 0 + 4 * (lo.toNat + j)) 4 else 0xFFFFFFFF)
        (if (t.d0 : Int) < hi - lo then 4 else 0)))

/-- MSEAL of an open share starts its seal and runs until SEAL_END, which makes the share SEALED, or FAULTED where an entry's code fails;
MSEAL with MOD[0] empties a share that is not being sealed and is complete at once; on a share that is not open a seal ends with
MAP_STATE. -/
def Obligations.SharesAreSealed : Prop :=
  (∀ (s : State) (k : EngineId) (d : Fin 8) (e : Nat) (q : SbEntry) (n : Fin 8), Starts s k d e q → (Ins.of q.iw).opc = 0x61 →
    s.shareAt k = some n →
    let h := vget s.shares n
    let entry := fun (t : State) => (t.drw k d).sb[e]?
    let others := fun (t : State) => SameMem s t ∧ t.regs = s.regs ∧ t.cabs = s.cabs ∧
      (∀ m, m ≠ n → vget t.shares m = vget s.shares m) ∧ SameEnginesBut k s t ∧ SameDrawersBut k d s t
    (bit (Ins.of q.iw).mod 0 = false → h.st = .open_ → Does (.msealSeal k e) s (fun t =>
      vget t.shares n = { h with st := .sealing } ∧ entry t = some { q with
        st := .running
        granted := true } ∧ others t)) ∧
    (bit (Ins.of q.iw).mod 0 = false → h.st ≠ .open_ → Does (.msealSeal k e) s (fun t =>
      vget t.shares n = h ∧ entry t = some { q with
        st := .done
        status := 0x26 } ∧ others t)) ∧
    (bit (Ins.of q.iw).mod 0 = true → h.st ≠ .sealing → Does (.msealClear k e) s (fun t =>
      (vget t.shares n).entries = [] ∧ (vget t.shares n).st = .open_ ∧ (vget t.shares n).rlogCnt = 0 ∧
        entry t = some { q with
          st := .done
          status := 0 } ∧ others t)) ∧
    (bit (Ins.of q.iw).mod 0 = true → h.st = .sealing → Does (.msealClear k e) s (fun t =>
      vget t.shares n = { h with clearAfter := true } ∧ entry t = some { q with
        st := .running
        granted := true } ∧ others t))) ∧
  (∀ (s : State) (n : Fin 8), s.mainClk = true → (vget s.shares n).st = .sealing → (vget s.shares n).clearAfter = false →
    ((vget s.shares n).badKeys = [] → Does (.sealEnd n) s (fun t => (vget t.shares n).st = .sealed ∧
      (vget t.shares n).entries = (vget s.shares n).entries ∧ SameMem s t ∧ t.regs = s.regs)) ∧
    ((vget s.shares n).badKeys ≠ [] → Does (.sealEnd n) s (fun t => (vget t.shares n).st = .faulted ∧
      t.flag F.CMU_ERR_DETECT = true ∧ SameMem s t)))

/-! ### Streams (08), semaphores, barriers and checkpoints (05 R166 to R170), and the Post-Processing Units (06) -/

/-- One flit of SEND on an endpoint with a credit: its 64 bytes in element order, padded with zeros, go out to the peer or the queue;
the endpoint's COUNT is one less and FLITS one more. One flit of RECV from a ring that holds one: its bytes go to DST, HEAD
advances modulo 64, COUNT is one less, FLITS one more, and an engine peer gets a credit. A SEND without a credit and a RECV from an empty
ring that have waited for the cabinet's watchdog time are reported: SN_ERR.STALL, and a stall event to the cabinet's authority. -/
def Obligations.SendAndReceiveMoveOneFlit : Prop :=
  ∀ (s : State) (k : EngineId) (d : Fin 8) (e : Nat) (iw : IWord) (n : Nat) (c : CabId) (x : CtxId), Runs s k d e iw n →
    (s.drw k d).ctx = some (c, x) →
    let i := Ins.of iw
    let w := s.drw k d
    (i.opc = 0x70 →
      let j := i.dst.num
      let ep := w.rdE j
      let t := w.desc i.srca
      let bs := flitBytes t n
      let data := bs.map (fun o => s.mem.read (s.lmKey k d o)) ++ List.replicate (64 - bs.length) 0
      n < flitsOf t → 1 ≤ epCount ep → Does (.send k e 1) s (fun u => SameMem s u ∧ SameEnginesBut k s u ∧ SameDrawersBut k d s u ∧
        SameRegsBut (perfBlock k) s u ∧ u.drw k d = { w.wrE j (epAddFlit (epSetCount (epCount ep - 1) ep)) with
          sb := modAt (stepped (flitsOf t)) e w.sb } ∧
        (epQueueKind ep = false → u.sn = { s.sn with transit := s.sn.transit ++
          [⟨c, x, epPeerRank ep, fin8 (epPeerEp ep), some k, fin8 j, data, false, false⟩] }) ∧
        (epQueueKind ep = true → u.sn.transit = s.sn.transit ∧ u.sn.toQueue = s.sn.toQueue ++
          [(queueId (epQueue ep), ⟨c, x, w.rank, fin8 j, some k, fin8 j, data, false, false⟩)]))) ∧
    (i.opc = 0x71 →
      let j := i.srca.num
      let ep := w.rdE j
      let t := w.desc i.dst
      let offs := flitBytes t n
      let me : EpName := ⟨c, x, w.rank, fin8 j⟩
      n < flitsOf t → 1 ≤ epCount ep → s.sn.poison.contains (me, epHead ep) = false → Does (.recv k e 1) s (fun u =>
        Stored (windowBytes s k d ((List.range offs.length).map (fun b =>
          (nth 0 offs b, s.mem.read (s.lmKey k d (epRing ep + 64 * epHead ep + b)))))) s u ∧
        SameEnginesBut k s u ∧ SameDrawersBut k d s u ∧ u.regs = s.regs ∧
        u.drw k d = { w.wrE j (epAddFlit (epSetCount (epCount ep - 1) (epSetHead ((epHead ep + 1) % 64) ep))) with
          sb := modAt (stepped (flitsOf t)) e w.sb } ∧
        u.sn.transit = s.sn.transit ∧ u.sn.credits = (if epQueueKind ep then s.sn.credits else s.sn.credits ++ [⟨peerOf me ep⟩]))) ∧
    ((i.opc = 0x70 ∨ i.opc = 0x71) → (if i.opc = 0x70 then sendReady k s d i 0 else recvReady k s d i 0) = false →
      s.rd F.SN_CAB_CFG_WDOG c.val ≠ 0 → Does (.streamStall k e) s (fun u =>
        u = (s.put0 F.SN_ERR_STALL 1).postCab c 3 x.val 0 w.rank i.endpoint ∧ u.engines = s.engines ∧ u.sn = s.sn))

/-- A flit under way, with none of its engine to the same engine before it, arrives: where its context is the active one of the engine of its rank and
the ring has a free slot, its bytes stand in slot HEAD + COUNT modulo 64 and COUNT is one more; otherwise it is discarded and
SN_ERR.MISROUTE is set. A credit under way gives its bound send endpoint one more, up to 64. -/
def Obligations.FlitsAndCreditsArrive : Prop :=
  (∀ (s : State) (j : Nat) (f : Flit), s.mainClk = true → s.sn.transit[j]? = some f →
    ((s.sn.transit.take j).any (fun g => g.src == f.src && g.cab == f.cab && g.rank == f.rank)) = false →
    let k := s.rankEng f.cab f.rank
    (∀ d, s.actCtx k = some (d, f.cab, f.ctx) → f.badCode = false → f.poison = false → s.mem.bad = [] →
      let ep := (s.drw k d).rdE f.ep.val
      epCount ep < 64 → Does (.flitArrive j) s (Settles (fun t => t.sn.transit = dropAt s.sn.transit j ∧
        Stored (runOf (s.lmKey k d (epRing ep + 64 * ((epHead ep + epCount ep) % 64))) f.data) s t ∧
        t.drw k d = (s.drw k d).wrE f.ep.val (epSetCount (epCount ep + 1) ep) ∧ SameDrawersBut k d s t ∧ SameEnginesBut k s t ∧
        SameRegsBut (perfBlock k) s t))) ∧
    ((s.actCtx k = none ∨ ∃ d c x, s.actCtx k = some (d, c, x) ∧
        (c ≠ f.cab ∨ x ≠ f.ctx ∨ 64 ≤ epCount ((s.drw k d).rdE f.ep.val))) →
      Does (.flitArrive j) s (Settles (fun t => t.sn.transit = dropAt s.sn.transit j ∧ t.flag F.SN_ERR_MISROUTE = true ∧ SameMem s t ∧
        t.engines = s.engines)))) ∧
  (∀ (s : State) (j : Nat) (c : Credit) (k : EngineId) (d : Fin 8), s.mainClk = true → s.sn.credits[j]? = some c →
    s.epHome c.dest = some (k, d) →
    let ep := (s.drw k d).rdE c.dest.ep.val
    epBound ep = true → epRecv ep = false → Does (.creditReturn j) s (fun t => t.sn.credits = dropAt s.sn.credits j ∧
      t.drw k d = (s.drw k d).wrE c.dest.ep.val (epSetCount (min 64 (epCount ep + 1)) ep) ∧ SameDrawersBut k d s t ∧
      SameEnginesBut k s t ∧ SameMem s t ∧ t.regs = s.regs))

/-- A Stream Buffer queue: a flit that reaches it fills its owner's first open slot; a queue of one producer grants one credit for a
free slot to a SEND that waits; a queue of several grants the whole reservation of the oldest request once it has room; and
it delivers its oldest filled slot to its consumer's ring, in slot order, freeing the slot. -/
def Obligations.QueuesMoveFlits : Prop :=
  (∀ (s : State) (j : Nat) (q : Fin 32) (f : Flit) (p : Nat), s.mainClk = true → s.sn.toQueue[j]? = some (q, f) →
    ((s.sn.toQueue.take j).any (fun g => g.1 == q && g.2.src == f.src)) = false →
    firstOpen ⟨f.cab, f.ctx, f.rank, f.ep⟩ (vget s.sn.queues q).slots = some p → f.badCode = false → s.mem.bad = [] →
    s.sliceWaits (s.qKey q ((vget s.sn.queues q).head + p)) = false →
    Does (.flitReachesQueue j) s (Settles (fun t => t.sn.toQueue = dropAt s.sn.toQueue j ∧
      Stored (runOf (s.qKey q ((vget s.sn.queues q).head + p)) f.data) s t ∧ t.engines = s.engines ∧
      vget t.sn.queues q = { vget s.sn.queues q with
        slots := modAt (fun y => { y with filled := true }) p (vget s.sn.queues q).slots } ∧
      ∀ r, r ≠ q → vget t.sn.queues r = vget s.sn.queues r))) ∧
  (∀ (s : State) (q : Fin 32) (k : EngineId) (d : Fin 8) (n : EpName), s.mainClk = true → s.flag F.SN_Q_CFG_EN q.val = true →
    let z := vget s.sn.queues q
    let ep := (s.drw k d).rdE n.ep.val
    let leaves := fun (count : Nat) (queue : Queue) (t : State) => vget t.sn.queues q = queue ∧
      (t.drw k d).rdE n.ep.val = epSetCount count ep % 2 ^ 128 ∧ SameEnginesBut k s t ∧ SameDrawersBut k d s t ∧ SameMem s t ∧
      t.regs = s.regs
    (s.flag F.SN_Q_CFG_MULTI q.val = false → s.qAsker q = some (k, d, n) → z.slots.length < s.qDepth q →
      Does (.queueCreditGrant q) s (Settles (leaves (epCount ep + 1) { z with
        lastServed := some n
        slots := z.slots ++ [⟨n, false, false, false, false⟩] }))) ∧
    (∀ m rest, s.flag F.SN_Q_CFG_MULTI q.val = true → z.requests = (n, m) :: rest → s.epHome n = some (k, d) →
      z.slots.length + m ≤ s.qDepth q → Does (.queueCreditGrant q) s (Settles (leaves m { z with
        requests := rest
        lastServed := some n
        slots := z.slots ++ List.replicate m ⟨n, false, false, false, false⟩ })))) ∧
  (∀ (s : State) (q : Fin 32) (k : EngineId) (d : Fin 8) (n : EpName) (y : QSlot) (rest : List QSlot), s.mainClk = true →
    let z := vget s.sn.queues q
    let ep := (s.drw k d).rdE n.ep.val
    z.slots = y :: rest → y.filled = true → y.poison = false → s.qConsumer q = some (k, d, n) → epCount ep < 64 →
    (s.eng k).st = .running → s.mem.bad = [] → Does (.queueDeliver q) s (Settles (fun t =>
      Stored (runOf (s.lmKey k d (epRing ep + 64 * ((epHead ep + epCount ep) % 64))) (s.mem.readBytes (s.qKey q z.head) 64)) s t ∧
      t.drw k d = (s.drw k d).wrE n.ep.val (epSetCount (epCount ep + 1) ep) ∧
      vget t.sn.queues q = Queue.trim (s.qDepth q) { z with
        slots := rest
        head := (z.head + 1) % max 1 (s.qDepth q) } ∧
      ((∀ y ∈ rest, y.void = false) → (vget t.sn.queues q).slots = rest ∧
        (vget t.sn.queues q).head = (z.head + 1) % max 1 (s.qDepth q) % max 1 (s.qDepth q)))))

/-- SWAIT on a semaphore that nobody waits for takes its count where the semaphore holds it, and else waits, in order of arrival (of one cycle: lowest engine, then lowest drawer); SSIG adds
its count, and above 65,535 ends with SEM_OVERFLOW and adds nothing. A count outside 1 to 65,535 is an illegal operand. Only that
semaphore changes. -/
def Obligations.SemaphoresCount : Prop :=
  ∀ (s : State) (k : EngineId) (d : Fin 8) (e : Nat) (q : SbEntry) (c : CabId) (x : CtxId), Starts s k d e q →
    (s.drw k d).ctx = some (c, x) →
    let i := Ins.of q.iw
    let w := s.drw k d
    let m := i.srca.num
    let v := (s.cab c).sem m
    let entry := fun (t : State) => (t.drw k d).sb[e]?
    let done := fun (st : Nat) (t : State) => entry t = some { q with
      st := .done
      status := st }
    let others := fun (t : State) => SameMem s t ∧ t.regs = s.regs ∧ SameCabsBut c s t ∧
      ∀ j : Fin 64, j ≠ fin 64 (by decide) m → vget (t.cab c).sems j = vget (s.cab c).sems j
    ((∀ p ∈ (s.cab c).waiters, p.sem ≠ m ∧ p.eng ≠ k) → bit (s.rd F.SCH_CAB_SEMLOCK_LOCK c.val) m = false →
      (∀ n, i.opc = 0x80 → semCount w i = some n → n ≤ v → Does (.swait k e) s (fun t => (t.cab c).sem m = v - n ∧
        (t.cab c).waiters = (s.cab c).waiters ∧ done 0 t ∧ others t)) ∧
      (∀ n, i.opc = 0x80 → semCount w i = some n → v < n → Does (.swait k e) s (fun t => (t.cab c).sem m = v ∧
        (t.cab c).waiters = putWaiter ⟨k, d, q.word, m, n, s.ticks⟩ (s.cab c).waiters ∧ entry t = some { q with st := .running } ∧ others t)) ∧
      (∀ n, i.opc = 0x81 → semCount w i = some n → v + n ≤ 65535 → Does (.ssig k e) s (Settles (fun t => (t.cab c).sem m = v + n ∧
        done 0 t ∧ others t)))) ∧
    (∀ n, i.opc = 0x81 → semCount w i = some n → 65535 < v + n → Does (.ssig k e) s (Settles (fun t => (t.cab c).sem m = v ∧
      done 0x29 t ∧ others t))) ∧
    (semCount w i = none → (i.opc = 0x80 → Does (.swait k e) s (fun t => (t.cab c).sem m = v ∧ done 0x21 t ∧ others t)) ∧
      (i.opc = 0x81 → Does (.ssig k e) s (Settles (fun t => (t.cab c).sem m = v ∧ done 0x21 t ∧ others t))))

/-- BARR runs until every rank of its context has started one with its identifier, and is then complete on its rank. CHKPT whose image
is written, its resume index as the image's next-issue word, records a valid checkpoint with its CKID, the rank's next sequence number and
the tags of its sets, and is reported; POST joins the requests of its cluster's Post-Processing Unit. -/
def Obligations.BarriersAndCheckpoints : Prop :=
  ∀ (s : State) (k : EngineId) (d : Fin 8) (e : Nat) (q : SbEntry) (c : CabId) (x : CtxId), Starts s k d e q →
    (s.drw k d).ctx = some (c, x) →
    let i := Ins.of q.iw
    let w := s.drw k d
    let entry := fun (t : State) => (t.drw k d).sb[e]?
    let there := fun (id : Int) => ∀ r, r < s.gang c → s.rankEng c r ≠ k → s.atBarrier c x r id = true
    (∀ id, i.opc = 0x82 → i.srca = .imm id → (∃ r, r < s.gang c ∧ s.rankEng c r = k) →
      (there id → Does (.barr k e) s (fun t => entry t = some { q with
        st := .done
        status := 0 } ∧ SameMem s t ∧ t.regs = s.regs ∧ t.cabs = s.cabs)) ∧
      (¬ there id → Does (.barr k e) s (fun t => entry t = some { q with st := .running } ∧ SameMem s t ∧ t.regs = s.regs ∧
        t.cabs = s.cabs ∧ SameEnginesBut k s t))) ∧
    (∀ t r j js v, i.opc = 0x83 → s.ctx? c x = some t → t.ranks[w.rank]? = some r → t.jobs = j :: js →
      (((s.starting k d e).modCtx c x (fun t => { t with ranks := modAt (fun q => q.put r.writeSlot none) w.rank t.ranks })).setQct k
        j.qct).writeImage k d c ((if r.writeSlot then j.ckpt1 else j.ckpt0) + w.rank * 36864)
          (if bit i.imm 28 then bits i.imm 27 16 else q.word + 1) = (v, 0) →
      Does (.chkpt k e) s (fun u => u.out.head? = some (.checkpoint k.val (bits i.imm 15 0) r.nextSeq) ∧ u.mem = v.mem ∧
        entry u = some { q with
          st := .done
          status := 0 } ∧
        ∃ t' r', u.ctx? c x = some t' ∧ t'.ranks[w.rank]? = some r' ∧ r'.nextSeq = r.nextSeq + 1 ∧
          (if r.writeSlot then r'.slot1 else r'.slot0) = some ⟨bits i.imm 15 0, r.nextSeq, (List.range 8).map (fun a => w.tag a)⟩)) ∧
    (i.opc = 0x84 → Does (.post k e) s (fun t => entry t = some { q with st := .running } ∧ SameMem s t ∧ t.regs = s.regs ∧
      vget t.ppus (fin 4 (by decide) (k.val / 4)) =
        putReq ⟨k, q.word, s.ticks, [], false, [], false, 0⟩ (vget s.ppus (fin 4 (by decide) (k.val / 4)))))

/-- A Post-Processing Unit serves its oldest request: a request block it refuses ends the POST with PPU_REQUEST, no candidate with EMPTY
and 0 boxes; otherwise, with its accesses answered, it keeps the boxes that suppression leaves of the valid candidates in score
order. The commit writes them to OUT and completes the POST with their number; where the kept-box buffer fails its code nothing is
written and the POST ends with PPU_DETECT, and where an abort has waited for the commit it ends with ABORTED. -/
def Obligations.PostProcessingKeepsBoxes : Prop :=
  ∀ (s : State) (c : Fin 4) (r : PpuReq) (rest : List PpuReq) (d : Fin 8) (q : SbEntry), s.mainClk = true →
    vget s.ppus c = r :: rest → (s.eng r.eng).active = some d →
    (s.drw r.eng d).sb.find? (fun t => t.word == r.word && t.st == .running && (Ins.of t.iw).opc == 0x84) = some q →
    let w := s.drw r.eng d
    let a := (w.desc (Ins.of q.iw).srca).base
    let b := PpuBlock.of (s.mem.readBytes (s.lmKey r.eng d a) 64)
    let dst := (Ins.of q.iw).dst
    let ends := fun (u : State) (st : Nat) (n : Option Nat) (t : State) => t = ((u.postDone r.eng r.word st n).modPpu c List.tail).wakeAll
    (r.served = false → s.mem.bad = [] →
      (b.faulty = true → Does (.ppuServe c) s (Settles (ends s 0x2B none))) ∧
      (b.faulty = false → b.n = 0 → Does (.ppuServe c) s (Settles (fun t => ends s 1 (some 0) t ∧
        (isReg .S dst = true → (t.drw r.eng d).s = (w.wrS dst.num 0).s)))) ∧
      (∀ u l v, b.faulty = false → b.n ≠ 0 → s.ppuOpen c b.arrays = true → s.candidates c b = (u, true, l) → l ≠ [] →
        (u.nextFree.2).fabWrite (.ppu c) b.work ((List.range (32 * l.length)).map (fun x => Config.freeByte u.freeCtr x)) = (v, 0) →
        (keepLoop b [] (sortBy boxBefore l)).1 ≠ [] → Does (.ppuServe c) s (Settles (fun t =>
          vget t.ppus c = { r with
            block := s.mem.readBytes (s.lmKey r.eng d a) 64
            served := true
            kept := (keepLoop b [] (sortBy boxBefore l)).1
            status := if (keepLoop b [] (sortBy boxBefore l)).2 then 5 else 0 } :: rest ∧ t.drw r.eng d = v.drw r.eng d)))) ∧
    (r.served = true →
      (r.keptBad = true → Does (.ppuCommit c) s (Settles (ends s 0x45 none))) ∧
      (∀ u, r.keptBad = false → s.ppuOpen c r.outs = true → s.writeKept c r = (u, true) →
        (r.status ≠ 0x60 → Does (.ppuCommit c) s (Settles (ends u r.status (some r.kept.length)))) ∧
        (r.status = 0x60 → Does (.ppuCommit c) s (Settles (ends u 0x60 none)))))

/-! ### Patrols, drains, programs, jobs and the scheduler (02, 04, 09, 10) -/

/-- A patrol of a powered engine that is not fenced falls due at once, or is deferred while a deadline window is open; a due one
starts on an initialised engine that is idle or drained and that no abort holds; it leaves its accumulator entry undefined, and a
signature equal to the Patrol Image's makes the engine VERIFIED, another one UNVERIFIED with a repeat owed, and the second mismatch in a
row fences it. An overdue patrol makes it UNVERIFIED. -/
def Obligations.PatrolsVerifyEngines : Prop :=
  ∀ (s : State) (k : EngineId),
    let e := s.eng k
    let doubted := fun (u t : State) => ∀ c, u.holder k.val = some c → u.safeCab c = true → u.flag F.ARB_CFG_EN = true →
      bit (t.rd F.ARB_DOUBT_CUR) 1 = true
    let entry := fun (a : Nat) => accAddr k 8 0 0 0 ≤ a ∧ a < accAddr k 8 0 0 0 + 4096
    (s.mainClk = true → k.val ≠ 16 → e.ver ≠ .fenced → e.ver ≠ .off →
      (s.windowOpen k = false → Does (.patrolDue k) s (fun t => JustEngine k s t ∧ t.eng k = { e with
        patrolDue := true
        patrolDeferred := false })) ∧
      (s.windowOpen k = true → e.patrolDeferred = false → e.patrolDue = false →
        Does (.patrolDue k) s (fun t => JustEngine k s t ∧ t.eng k = { e with patrolDeferred := true }))) ∧
    (s.aclkOn k = true → e.patrolDue = true → e.inited = true → e.fencePending = false → s.abortOn k = false →
      (e.st = .stopped ∧ e.active = none) ∨ s.isDrained k = true →
      Does (.patrol k) s (fun t => JustEngine k s t ∧ t.eng k = { e with
        st := .patrol
        patrolDue := false })) ∧
    (∀ (sig : Word) u want, s.aclkOn k = true → e.st = .patrol →
      s.fabNat (.cc (fin 4 (by decide) (k.val / 4))) s.arb.patrolBase 4 = (u, 0, want) →
      (sig.toNat = want → Does (.patrolComplete k sig) s (Settles (fun t => SameEnginesBut k u t ∧ SameMemBut entry u t ∧
        t.regs = u.regs ∧ t.out = .patrol k.val true :: u.out ∧ (t.eng k).ver = .verified ∧ (t.eng k).mismatches = 0 ∧
        (t.eng k).fresh = false ∧ (t.eng k).repeatOwed = false ∧ (t.eng k).patrolDue = false ∧
        (t.eng k).patrolDeferred = false))) ∧
      (sig.toNat ≠ want → Does (.patrolComplete k sig) s (Settles (fun t => SameEnginesBut k u t ∧ SameMemBut entry u t ∧
        t.out = .patrol k.val false :: u.out ∧ (t.eng k).ver = .unverified ∧ (t.eng k).mismatches = (u.eng k).mismatches + 1 ∧
        (t.eng k).repeatOwed = true ∧ (t.eng k).patrolDue = false ∧ (t.eng k).patrolDeferred = false ∧
        (t.eng k).fencePending = ((u.eng k).fencePending || decide (1 ≤ (u.eng k).mismatches)) ∧ doubted u t)))) ∧
    (s.mainClk = true → e.repeatOwed = true → Does (.patrolRepeat k) s (fun t => JustEngine k s t ∧ t.eng k = { e with
      patrolDue := true
      repeatOwed := false })) ∧
    (s.mainClk = true → e.ver = .verified →
      e.patrolDue = true ∨ e.patrolDeferred = true ∨ e.repeatOwed = true ∨ e.st = .patrol →
      Does (.patrolOverdue k) s (fun t => SameEnginesBut k s t ∧ SameMem s t ∧ t.eng k = { e with ver := .unverified } ∧ doubted s t))

/-- A drain withdraws what waits without effect, ends once nothing runs that must run to its end, suspending the rest, and the drawer
goes on in place after a patrol, where TE_CTRL.RUN is 1; while it is 0 the engine is STOPPED and holds the drawer, its instructions kept
as records. RUN written 0 by a control core drains a running engine. LM_INIT, on a stopped engine only, makes all of Local Memory
read zero and every tag EMPTY. -/
def Obligations.DrainsAndInitialisation : Prop :=
  ∀ (s : State) (k : EngineId),
    let e := s.eng k
    let run := s.flag F.TE_CTRL_RUN k.val
    let drains := fun (u : State) (d : Fin 8) (why : DrainWhy) (t : State) => (t.eng k).st = .draining ∧ (t.eng k).why = some why ∧
      (t.eng k).drained = false ∧ (t.eng k).active = some d ∧ t.drw k d = { u.drw k d with
        sb := (u.drw k d).sb.map (fun q => if u.idleWait k d q then q.withdrawn else q) } ∧ SameMem u t ∧
      ((∀ c, ∀ q ∈ (u.cab c).waiters, q.eng = k ∧ q.drawer = d) → SameDrawersBut k d u t ∧ SameEnginesBut k u t)
    let goesOn := fun (d : Fin 8) (sb : List SbEntry) (t : State) => (t.eng k).st = .running ∧ (t.eng k).active = some d ∧
      (t.eng k).held = none ∧ (t.eng k).why = none ∧ (t.eng k).drained = false ∧
      (t.drw k d).sb = (s.drw k d).recs ++ sb ∧ (t.drw k d).recs = []
    let isHeld := fun (d : Fin 8) (sb : List SbEntry) (t : State) => (t.eng k).st = .stopped ∧ (t.eng k).active = none ∧
      (t.eng k).held = some d ∧ (t.drw k d).sb = [] ∧ (t.drw k d).recs = (s.drw k d).recs ++ sb
    let powered := k.val = 16 ∨ s.pd (k.val + 4) = true
    (∀ d why, s.aclkOn k = true → e.st = .running → e.active = some d → s.abortOn k = false →
      (∀ x c y, s.actCtx k = some (x, c, y) → s.revive c = s) → s.drainWanted k why = true →
      Does (.drain k why) s (drains s d why)) ∧
    (∀ d, s.aclkOn k = true → e.active = some d → e.st = .draining → e.drained = false →
      (s.drw k d).quiet (wholeRows (s.drw k d)) = true → (s.drw k d).faulting = false →
      (∀ q ∈ (s.drw k d).sb, q.st = .running → (Ins.of q.iw).opc = 0x20 ∨ (Ins.of q.iw).opc = 0x21 ∨ (Ins.of q.iw).opc = 0x22 →
        q.chk = []) →
      (∀ c x tx, (s.drw k d).ctx = some (c, x) → s.ctx? c x = some tx → tx.ending = none) →
      let rest := (s.drw k d).sb.map (fun q => { q with
        tagged := none
        wts := if q.st = .running then [] else q.wts
        st := if q.st = .running then .suspended else q.st })
      Does (.drainEnd k) s (Settles (fun t => (e.why ≠ some .stop → (t.eng k).drained = true ∧ (t.eng k).st = .draining ∧
          (t.eng k).why = e.why ∧ (t.eng k).active = some d ∧ (t.drw k d).sb = rest) ∧
        (e.why = some .stop → run = false → isHeld d rest t) ∧ (e.why = some .stop → run = true → goesOn d rest t)))) ∧
    (∀ d, s.aclkOn k = true → s.isDrained k = true → e.active = some d → e.patrolDue = false → e.fencePending = false →
      (e.why = some .patrol ∨ (e.why = some .switch ∧ s.drainWanted k .switch = false)) →
      (∀ c x tx, (s.drw k d).ctx = some (c, x) → s.ctx? c x = some tx → tx.ending = none ∧ tx.st ≠ .aborting) →
      Does (.drawerResume k) s (fun t => SameEnginesBut k s t ∧ SameDrawersBut k d s t ∧ SameMem s t ∧ t.regs = s.regs ∧
        (run = true → goesOn d (s.drw k d).sb t) ∧ (run = false → isHeld d (s.drw k d).sb t))) ∧
    (∀ m, s.clkOf m = true → engWriter m k = true → powered →
      (e.st = .stopped → Does (.lmInit m k) s (fun t => JustEngine k s t ∧ t.eng k = { e with st := .init })) ∧
      (e.st ≠ .stopped → Does (.lmInit m k) s (fun t => t.flag F.TE_ERR_CFG_WHILE_RUN k.val = true ∧ t.engines = s.engines ∧
        SameMem s t)) ∧
      (∀ d, e.st = .running → e.active = some d → Does (.engineStop m k) s (fun t => t.flag F.TE_CTRL_RUN k.val = false ∧
        drains (s.put F.TE_CTRL_RUN k.val 0 0) d .stop t)) ∧
      (e.st ≠ .running → Does (.engineStop m k) s (fun t => t.flag F.TE_CTRL_RUN k.val = false ∧ t.engines = s.engines ∧
        SameMem s t))) ∧
    (s.aclkOn k = true → e.st = .init → Does (.lmInitDone k) s (fun t => (t.eng k).inited = true ∧
      (e.held = none → (t.eng k).st = .stopped) ∧
      (∀ d a, vget (t.drw k d).tags a = .empty) ∧ SameEnginesBut k s t ∧ t.regs = s.regs ∧
      (k.val = 16 → SameMem s t) ∧
      (k.val ≠ 16 → SameMemBut (fun a => lmBase k ≤ a ∧ a < lmBase k + 2 ^ 22) s t ∧
        ∀ o, o < 2 ^ 22 → t.mem.read (lmBase k + o) = 0 ∧ t.mem.isBad (lmBase k + o) = false)))

/-- PROGRAM_LOAD of a resident context's program whose reads are answered: an image that passes every check stands in the drawer's
allotment of the Instruction Buffer; a failed check or read leaves its status, or ends the context's job where it has started. JOB_START of the active context: once the start
checkpoints of all ranks are written, the job runs on every rank from its entry with ARG in S28 to S31. IE_JOB does both for the Island
Engine, while it is stopped. -/
def Obligations.ProgramsLoadAndJobsStart : Prop :=
  (∀ (s u : State) (k : EngineId) (d : Fin 8) (c : CabId) (x : CtxId) (tc : Ctx) (p : FabRes), s.mainClk = true →
    (s.drw k d).ctx = some (c, x) → s.ctx? c x = some tc → (s.drw k d).loaded = false → (s.drw k d).loadSt = 0 →
    (s.eng k).has d = false → (s.drw k d).sb = [] →
    (s.setQct k tc.moveQct).cabRead .sch c (tc.progTable + 8 * (s.drw k d).rank) 8 = (u, p) →
    let fails := fun (v : State) (st : Nat) (t : State) =>
      (tc.started = false → JustEngine k v t ∧ SameDrawersBut k d v t ∧ t.drw k d = { v.drw k d with loadSt := st }) ∧
      (tc.started = true → ∀ j js, tc.jobs = j :: js → t.ctxIs c x (fun z => z.started = false ∧ z.jobs = js) ∧
        (t.drw k d).loadSt = 0)
    (p.st ≠ 0 → Does (.programLoad k d) s (fails u p.st)) ∧
    (p.st = 0 → ∀ v st l entry, u.readImage? k d (ofBytes p.data) = (v, st, l, entry) →
      (st ≠ 0 → Does (.programLoad k d) s (fails v st)) ∧
      (st = 0 → Does (.programLoad k d) s (fun t => Stored (runOf (v.ibKey k d 0) l) v t ∧ t.regs = v.regs ∧
        SameEnginesBut k v t ∧ SameDrawersBut k d v t ∧ t.drw k d = { v.drw k d with
          loaded := true
          loadSt := 0
          entry := entry })))) ∧
  (∀ (s v : State) (c : CabId) (x : CtxId) (tc : Ctx) (d : Fin 8) (j : Job) (js : List Job), s.mainClk = true →
    (s.cab c).act = some x → s.ctx? c x = some tc → tc.drawer = some d → tc.jobs = j :: js → tc.started = false → tc.st = .active →
    (s.cab c).lost = [] → (s.cab c).aborting = [] →
    (∀ r, r < s.gang c → (s.eng (s.rankEng c r)).st = .running ∧ (s.eng (s.rankEng c r)).fencePending = false ∧
      (s.drw (s.rankEng c r) d).loaded = true ∧ (s.drw (s.rankEng c r) d).loadSt = 0) →
    (s.begun c x d j).startCheckpoints c x d = (v, 0) →
    Does (.jobStart c) s (fun t => t.ctxIs c x (fun z => z.started = true ∧ z.jobs = tc.jobs) ∧
      ∀ r, r < s.gang c →
        let w := t.drw (s.rankEng c r) d
        w.jobOn = true ∧ w.halted = false ∧ w.info = 0 ∧ w.loops = [] ∧
        w.pc = (if j.entryValid then j.entry else (s.drw (s.rankEng c r) d).entry) ∧
        ∀ i, i < 4 → w.rdS (28 + i) = nth 0 j.arg i % 2 ^ 32)) ∧
  (∀ (s : State) (n : Fin 2) (a : Nat), s.islClk = true → s.isl.halted = false → s.pd 56 = true →
    let k := engId 16
    let free : State := { s with regs := { s.regs with lo := s.regs.lo.filter (fun c => c.1 != R.IE_JOB.addr 0 0) } }
    let u := (free.put0 F.IE_JOB_ADDR (a % 2 ^ 48)).modIsl (fun i => { i with ieWorld := vget s.isl.world n })
    ((s.eng k).st ≠ .stopped → Does (.ieJob (.isl n) a) s (fun t =>
      t = (free.put F.TE_ERR_CFG_WHILE_RUN 16 0 1).answer stOK [] ∧ t.flag F.TE_ERR_CFG_WHILE_RUN 16 = true)) ∧
    ((s.eng k).st = .stopped → ∀ v st l entry, u.readImage? k 0 (a % 2 ^ 48) = (v, st, l, entry) →
      (st ≠ 0 → Does (.ieJob (.isl n) a) s (fun t => (t.eng k).st = .stopped ∧ (t.eng k).active = none ∧
        t.out = .irq "IE_DONE" st :: v.out ∧ SameMem v t ∧ t.regs = v.regs)) ∧
      (st = 0 → Does (.ieJob (.isl n) a) s (fun t => Stored (runOf (v.ibKey k 0 0) l) v t ∧ SameEnginesBut k v t ∧
        (v.flag F.TE_CTRL_RUN 16 = true → (t.eng k).st = .running ∧ (t.eng k).active = some 0) ∧
        (v.flag F.TE_CTRL_RUN 16 = false → (t.eng k).st = .stopped ∧ (t.eng k).held = some 0) ∧
        (t.drw k 0).pc = entry ∧ (t.drw k 0).jobOn = true ∧ (t.drw k 0).sb = [] ∧
        (t.drw k 0).info = 0 ∧ (t.drw k 0).loops = [] ∧ t.regs.val = v.regs.val))))

/-- The active context that only waits is WAITING and stays; at the end of a slice another READY context of the same priority is chosen,
or the slice restarts; a READY context takes the free engines of its ranks; a paused cabinet's active context leaves them;
a runnable stored context takes a free drawer; an aborted context whose fabric accesses are abandoned is gone. -/
def Obligations.SchedulerMovesContexts : Prop :=
  ∀ (s : State) (c : CabId), s.mainClk = true →
    (∀ x tx, (s.cab c).act = some x → s.ctx? c x = some tx → tx.st = .active → s.stuck c x = true →
      Does (.contextWaiting c) s (fun t => t.ctxIs c x (fun z => z.st = .waiting) ∧ (t.cab c).act = some x ∧
        t.engines = s.engines)) ∧
    (∀ a ta, s.flag F.SCH_CAB_CFG_KIND c.val = false → (s.cab c).act = some a → s.ctx? c a = some ta → ta.st = .active →
      s.paused c = false → (∀ y z, s.ctx? c y = some z → z.st = .active → y = a) →
      (∀ y z, s.ctx? c y = some z → z.st = .ready → z.prio ≤ ta.prio) →
      ((∃ y, s.ctxIs c y (fun z => z.st = .ready ∧ z.prio = ta.prio)) → Does (.sliceEnd c) s (fun t => SameMem s t ∧
        t.engines = s.engines ∧ ∃ b, t.chosen c = some b ∧ b ≠ a ∧ t.ctxIs c b (fun z => z.st = .ready ∧ z.prio = ta.prio))) ∧
      ((¬ ∃ y, s.ctxIs c y (fun z => z.st = .ready ∧ z.prio = ta.prio)) → Does (.sliceEnd c) s (fun t => SameMem s t ∧
        t.engines = s.engines ∧ t.cabs = s.cabs ∧ t.chosen c = some a))) ∧
    ((s.cab c).live = true → (s.cab c).aborting = [] →
      (∀ b tb d, (s.cab c).act = none → s.chosen c = some b → s.ctx? c b = some tb → tb.drawer = some d →
        (∀ r, r < s.gang c → s.engFree (s.rankEng c r) = true ∧ (s.drw (s.rankEng c r) d).loaded = true) →
        Does (.contextSwitch c) s (fun t => (t.cab c).act = some b ∧
          t.ctxIs c b (fun z => z.st = .active ∧ z.waits = []) ∧ ∀ r, r < s.gang c →
            let e := t.eng (s.rankEng c r)
            (s.flag F.TE_CTRL_RUN (s.rankEng c r).val = true → e.active = some d ∧ e.st = .running) ∧
            (s.flag F.TE_CTRL_RUN (s.rankEng c r).val = false → e.active = none ∧ e.held = some d ∧ e.st = .stopped))) ∧
      (∀ a, (s.cab c).act = some a → s.paused c = true → s.revive c = s → s.switchedOut c a = true →
        (∀ r, r < s.gang c → (s.eng (s.rankEng c r)).st ≠ .patrol ∧ (s.eng (s.rankEng c r)).st ≠ .fenced) →
        Does (.contextSwitch c) s (fun t => (t.cab c).act = none ∧ ∀ r, r < s.gang c →
          (t.eng (s.rankEng c r)).active = none ∧ (t.eng (s.rankEng c r)).held = none ∧ (t.eng (s.rankEng c r)).st = .stopped)) ∧
      (∀ x d u, (s.cab c).act = none → s.chosen c = none → s.paused c = false → s.allBlocked c = false → s.toRestore c = some x →
        (∀ y z, s.ctx? c y = some z → z.blockedLogged = false) → s.savesServed c x = true →
        s.freeDrawer c = some d → s.takeDrawer c x d = (u, 0) → Does (.contextSwitch c) s (fun t =>
          t.ctxIs c x (fun z => z.drawer = some d ∧ z.waits = [] ∧ z.st = .ready)))) ∧
    (∀ x b tx, (s.cab c).aborting = [(x, b)] → s.inPatrol c x = false → s.ctx? c x = some tx →
      (∀ p, ∀ q ∈ vget s.ppus p, q.served = false) →
      Does (.abortFabricAbandon c) s (Settles (fun t => t.ctx? c x = none ∧ (t.cab c).aborting = [] ∧ (t.cab c).act ≠ some x ∧
        ∀ d, tx.drawer = some d → ∀ r, r < s.gang c → (t.eng (s.rankEng c r)).active ≠ some d)))

/-- An entry of the cyclic table whose round is open fires once: it queues its job, or counts as an overrun while its earlier job is
outstanding or the cabinet is remapped, or does nothing in a stopped cabinet. A job past its deadline is logged once, and goes on. -/
def Obligations.CyclicEntriesAndDeadlines : Prop :=
  (∀ (s : State) (c : CabId) (i off a : Nat) (e : Nat × Nat), s.mainClk = true → (s.cab c).table[i]? = some (off, a) →
    s.ctDue c i = some e →
    let s1 := s.modCab c (fun b => { b with due := b.due.erase e })
    let once := fun (t : State) => (t.cab c).due = (s.cab c).due.erase e
    ((s.cab c).stopped = true → Does (.ctEntryFire c i) s (fun t => once t ∧ t.engines = s.engines ∧ SameMem s t ∧
      ∀ b x, t.ctx? b x = s.ctx? b x)) ∧
    ((s.cab c).stopped = false → (s.ctHolder c i).isSome = true ∨ (s.cab c).lost ≠ [] →
      Does (.ctEntryFire c i) s (fun t => once t ∧ t.flag F.SCH_ERR_OVERRUN = true ∧ (∃ x, s.dlmIs t c x 2) ∧
        ∀ b x, t.ctx? b x = s.ctx? b x)) ∧
    ((s.cab c).stopped = false → s.ctHolder c i = none → (s.cab c).lost = [] → (s.cab c).degraded = false →
      ∀ v q tx jb, s1.cabRead .sch c a 64 = (v, q) → q.st = 0 → fieldAt q.data 0 1 < 72 →
        let x := ctxId (fieldAt q.data 0 1)
        v.ctx? c x = some tx → tx.st ≠ .aborting → tx.jobs.length < 16 →
        jobOf q.data a (v.cab c).qctMax v.itu (some i) = some jb → Does (.ctEntryFire c i) s (fun t => once t ∧
          (t.ctHolder c i).isSome = true ∧ t.ctxIs c x (fun z => z.jobs = tx.jobs ++ [jb] ∧
            z.st = (if tx.st = .idle then .ready else tx.st))))) ∧
  (∀ (s : State) (c : CabId) (x : CtxId) (tx : Ctx) (j : Job), s.mainClk = true → s.ctx? c x = some tx → (s.cab c).stopped = false →
    tx.jobs.find? (fun j => s.overdue j) = some j → Does (.deadlineMiss c x) s (fun t =>
      t.flag F.SCH_ERR_DEADLINE_MISS = true ∧ s.dlmIs t c x.val 0 ∧ .irq "DEADLINE_MISS" c.val ∈ t.out ∧
      t.ctx? c x = some { tx with
        jobs := tx.jobs.map (fun q => if q = j then { q with missed := true } else q) } ∧
      SameCtxsBut c x s t ∧ t.engines = s.engines))

/-- RECOVERY of a context whose ranks, on engines of their own, are at rest: it is over, and each rank with a slot of the last common
checkpoint has that checkpoint's tags and no fault record; on a cabinet of one engine its scalar registers and next-issue word are those
of the checkpoint's image. FENCE: the engine is fenced, its domain is off, and its cabinet is to be remapped for it, after those fenced
before. CABINET_REMAP: the engine fenced first has left the cabinet, which runs on with one rank fewer and its semaphores 0, or is
DEGRADED. -/
def Obligations.RecoveryFenceAndRemap : Prop :=
  ∀ (s : State), s.mainClk = true →
    (∀ (c : CabId) (x : CtxId) (tx : Ctx) (d : Fin 8) (n : Nat) (j : Job) (js : List Job), (s.cab c).act = some x →
      s.ctx? c x = some tx → tx.drawer = some d → tx.commonSeq = some n → tx.jobs = j :: js → tx.recovering = true →
      tx.ending = none → tx.st ≠ .aborting →
      (∀ r, r < s.gang c → s.atRest c r = true) → s.inTransit c x = false →
      (∀ r q, r < s.gang c → q < s.gang c → s.rankEng c r = s.rankEng c q → r = q) →
      Does (.recovery c) s (Settles (fun t => t.ctxIs c x (fun z => z.recovering = false ∧ z.waits = []) ∧
        ∀ r b z, r < s.gang c → (nth freshRank tx.ranks r).slotOf n = some (b, z) →
          let k := s.rankEng c r
          let w := t.drw k d
          w.fault = none ∧ w.prev = w.pc ∧ (∀ i : Fin 8, vget w.tags i = nth .empty z.tags i.val) ∧
          (s.gang c = 1 → (s.drw k d).fault = none →
            let v := ((s.setQct k tx.moveQct).returnCredits k d).emptyDrw k d
            let p := (v.cabRead (.te k) c (if b then j.ckpt1 else j.ckpt0) 4096).2
            w.pc = fieldAt p.data 0x4A0 2 ∧ ∀ i, i < 32 → w.rdS i = fieldAt p.data (4 * i) 4)))) ∧
    (∀ k : EngineId, (s.eng k).fencePending = true → k.val ≠ 16 → (∀ f, (vget s.fns f).cmd = []) →
      Does (.fence k) s (Settles (fun t => (t.eng k).st = .fenced ∧
        (t.eng k).ver = .fenced ∧ (t.eng k).fencePending = false ∧ (t.eng k).active = none ∧ t.pd (k.val + 4) = false ∧
        .fence k.val ∈ t.out ∧ ∀ c, s.holder k.val = some c → (t.cab c).lost = (s.cab c).lost ++ [k.val]))) ∧
    (∀ (c : CabId) (k : Nat) (rest : List Nat), (s.cab c).lost = k :: rest → k < 16 → Does (.cabinetRemap c) s (Settles (fun t =>
      (t.cab c).lost = rest ∧ (t.cab c).act = none ∧ bit (t.rd F.SCH_CAB_ENG_ENGINES c.val) k = false ∧
      ((s.cab c).n1 = 0 → (t.cab c).degraded = true) ∧
      ((t.cab c).degraded = true ∨ (t.gang c + 1 = s.gang c ∧ ∀ i, vget (t.cab c).sems i = 0)))))

/-! ### The Arbiter Unit, error injection and watchdogs (10, 13), the core pair and its worlds (13, 14) -/

/-- The control boundary closes a cycle 8,000,000 ITU ticks after it began: WITHHELD and LATCHED stay; a doubt moves MAIN and FALLBACK to FALLBACK, or to LATCHED at the third
onset within 100 cycles or at PERSIST_MAX; ten cycles without doubt lead from FALLBACK to MAIN; the source is the main path in MAIN
only, and NONE in its place under a latched fault. EN starts cycle 0, FS_READY and MAIN_READY are kept for the boundary, CHECKER and
SOFTWARE raise doubt 0 and 6, a lockstep mismatch asserts FAULT_N, and ALIVE toggles only without a fault. -/
def Obligations.ArbiterChoosesTheSource : Prop :=
  (∀ s : State, s.islClk = true → s.flag F.ARB_CFG_EN = true → s.arb.start + 8000000 * (s.arb.cycle + 1) ≤ s.itu →
    let old := s.rd F.ARB_STATUS_STATE
    let d := s.rd F.ARB_DOUBT_CUR ||| (if s.arb.mainReady then 0 else 16)
    let n := s.arb.cycle + 1
    let events := (if d ≠ 0 ∧ s.arb.flagged = false then 1 else 0) + (s.arb.onsets.filter (fun o => decide (n < o + 100))).length
    let fault := s.isl.faultN || !s.arb.fsReady
    let max := s.rd F.ARB_CFG_PERSIST_MAX
    let agree := s.rd F.ARB_STATUS_AGREE
    Does .controlBoundary s (fun t => t.arb.cycle = n ∧ t.rd F.ARB_DOUBT_LAST = d % 128 ∧ (fault = true → t.faultNow = true) ∧
      t.arb.fsLast = s.arb.fsReady ∧ t.arb.fsReady = false ∧ t.arb.mainReady = false ∧
      (old = 0 ∨ old = 3 → t.rd F.ARB_STATUS_STATE = old) ∧
      (old = 1 ∨ old = 2 → d ≠ 0 → t.rd F.ARB_STATUS_AGREE = 0 ∧
        t.rd F.ARB_STATUS_STATE = (if 3 ≤ events ∨ (max ≠ 0 ∧ s.arb.persist + 1 = max) then 3 else 2)) ∧
      (old = 1 → d = 0 → t.rd F.ARB_STATUS_STATE = 1) ∧
      (old = 2 → d = 0 → agree < 10 → t.rd F.ARB_STATUS_AGREE = agree + 1 ∧
        t.rd F.ARB_STATUS_STATE = (if agree + 1 = 10 then 1 else 2)) ∧
      t.rd F.ARB_STATUS_SOURCE = (if t.rd F.ARB_STATUS_STATE = 1 then 0 else if fault then 2 else 1))) ∧
  (∀ (s : State) (core : Fin 2) (v : Nat), s.islClk = true → s.isl.halted = false → s.pd 3 = true →
    let done := fun (arb : Arb) (t : State) => t = { s with
      arb := arb
      resp := ⟨0, []⟩ }
    (s.flag F.ARB_CFG_EN = false → Does (.arbCfgEn (.isl core) v) s (fun t => t.flag F.ARB_CFG_EN = true ∧ t.arb.cycle = 0 ∧
      t.arb.start = s.itu ∧ t.arb.onsets = [] ∧ t.rd F.ARB_LOG_TOTAL = 0 ∧ t.rd F.ARB_DOUBT_CUR = t.standingDoubt ∧
      t.rd F.ARB_CFG_SAFE_CABS = bits v 23 16 ∧ t.rd F.ARB_CFG_PERSIST_MAX = bits v 15 8 ∧ SameMem s t ∧ t.engines = s.engines)) ∧
    Does (.fsReady (.isl core)) s (done { s.arb with fsReady := true }) ∧
    Does (.mainReady (.isl core)) s (done { s.arb with mainReady := true }) ∧
    (s.flag F.ARB_CFG_EN = true →
      Does (.checker (.isl core)) s (fun t => bit (t.rd F.ARB_DOUBT_CUR) 0 = true ∧ t.arb = s.arb ∧ SameMem s t) ∧
      Does (.software (.isl core)) s (fun t => bit (t.rd F.ARB_DOUBT_CUR) 6 = true ∧ t.arb = s.arb ∧ SameMem s t)) ∧
    (s.flag F.ARB_CFG_EN = false → Does (.checker (.isl core)) s (done s.arb) ∧ Does (.software (.isl core)) s (done s.arb))) ∧
  (∀ s : State, s.islClk = true →
    Does .arbiterLockstepMismatch s (fun t => t.faultNow = true ∧ t = { s with
      isl := { s.isl with faultN := true } }) ∧
    Does .aliveToggle s (fun t => t = { s with
      isl := { s.isl with alive := s.isl.alive ^^ (!s.faultNow && s.arb.fsLast) } }))

/-- Error injection records its outcome once, fences the engines whose checkers failed, asserts FAULT_N for Footstool's own, and moves a
path that nothing withholds to FALLBACK. A kick starts a watchdog's period anew, and one before MIN is an expiry, as is the end of
a period without one; an expiry sets the watchdog's bit of EXPIRED, doubt 5 while cycles run, and the interrupt. -/
def Obligations.InjectionAndWatchdogs : Prop :=
  (∀ (s : State) (o : Injection), s.islClk = true → s.isl.running = true →
    s.flag F.ARB_MECH_INJ_DONE = false ∨ s.rd F.BOOT_STATUS_STAGE = 4 →
    let held := o.shared || o.lpddr || o.bridge || s.pmc.trainFail
    Does (.errorInjection o) s (fun t => t.flag F.ARB_MECH_INJ_DONE = true ∧
      (∀ k : Fin 16, (o.codes.getLsbD k.val || o.checks.getLsbD k.val) = true → (t.eng (engId k.val)).ver = .fenced) ∧
      ((o.islChecks || o.arbiter) = true → t.faultNow = true) ∧
      t.flag F.ARB_MECH_ARBITER = o.arbiter ∧ t.flag F.ARB_MECH_ISL_CHECKS = o.islChecks ∧ t.flag F.ARB_MECH_BRIDGE = o.bridge ∧
      t.flag F.ARB_MECH_LPDDR_CRC = o.lpddr ∧ t.flag F.ARB_MECH_SHARED_CODES = o.shared ∧
      t.flag F.ARB_MECH_CHECKSUM = (o.checks != 0) ∧ t.flag F.ARB_MECH_ENGINE_CODES = (o.codes != 0) ∧
      t.rd F.ARB_STATUS_STATE = (if s.flag F.ARB_MECH_INJ_DONE = false ∧ held = false ∧ s.rd F.ARB_STATUS_STATE = 0 then 2 else s.rd F.ARB_STATUS_STATE))) ∧
  (∀ (s : State) (m : Option Master) (v : Nat) (early : Bool), s.islClk = true → (∀ x, m = some x → s.pairHalted x = false) →
    let admitted := fun n => n < 7 ∧ bit v n = true ∧ kicks (s.flag F.ISL_PAIR_STAT_MODE) m n = true ∧
      s.flag F.ISL_WDOG_CFG_EN n = true ∧ s.wdogAsleep n = false
    let tooEarly := fun n => ∃ t0, vget s.isl.kickAt (wdogId n) = some t0 ∧ s.itu < t0 + 40000 * s.rdE F.ISL_WDOG_CFG_MIN n
    Does (.islWdogKick m v early) s (fun t => SameMem s t ∧ t.engines = s.engines ∧
      (∀ n, admitted n → vget t.isl.kickAt (wdogId n) = some s.itu ∧ vget t.isl.since (wdogId n) = s.itu ∧
        (tooEarly n → bit (t.rd F.ISL_WDOG_STAT_EXPIRED) n = true ∧ .irq "ISL_WDOG" n ∈ t.out)) ∧
      ((∀ n, admitted n → ¬ tooEarly n) → t.out = s.out ∧ t.rd F.ISL_WDOG_STAT_EXPIRED = s.rd F.ISL_WDOG_STAT_EXPIRED))) ∧
  (∀ (s : State) (n : Fin 7), s.islClk = true → s.flag F.ISL_WDOG_CFG_EN n.val = true → s.wdogAsleep n.val = false →
    s.isl.running = true → vget s.isl.since n + 40000 * s.rdE F.ISL_WDOG_CFG_PERIOD n.val ≤ s.itu →
    Does (.islWdogExpire n) s (fun t => bit (t.rd F.ISL_WDOG_STAT_EXPIRED) n.val = true ∧ vget t.isl.since n = s.itu ∧
      t.out = .irq "ISL_WDOG" n.val :: s.out ∧ SameMem s t ∧ t.engines = s.engines ∧
      (s.flag F.ARB_CFG_EN = true → bit (t.rd F.ARB_DOUBT_CUR) 5 = true)))

/-- In Paired mode what ISL-A stores, signs and loads is held, and ISL-B's store is performed once where it equals the oldest held
one; any difference, or a held entry that waits too long, halts the pair, names its cause and asserts FAULT_N. Only Secure code
writes a core's world; a fetch outside the tagged code part clears the tag, one at a code part's first byte sets it, any other in
a code part faults; an interrupt is logged in Paired mode, and a Secure one returns the core to the Secure world with its tag
cleared. -/
def Obligations.CorePairAndWorlds : Prop :=
  (∀ s : State, s.islClk = true → s.paired = true →
    let stops := fun (cause : Nat) (t : State) => t.isl = { s.isl with
      halted := true
      faultN := true } ∧ t.flag F.ISL_PAIR_STAT_MISMATCH = true ∧ t.rd F.ISL_PAIR_STAT_CAUSE = cause ∧ SameMem s t ∧
      t.engines = s.engines
    let holds := fun (e : PairEntry) (t : State) => t.isl = { s.isl with cmp := s.isl.cmp ++ [e] } ∧ SameMem s t ∧
      t.rd F.ISL_PAIR_STAT_CMP_FILL = s.isl.cmp.length + 1
    (∀ a data crc, s.isl.cmp.length < 2048 → s.isl.log.length < 4096 →
      Does (.pairStoreCompare 0 a data) s (holds (.store a data.length (ofBytes data) (vget s.isl.world 0))) ∧
      Does (.islSync 0 crc) s (holds (.sync crc.toNat))) ∧
    (∀ q rest a data, s.isl.cmp = q :: rest →
      let e : PairEntry := .store a data.length (ofBytes data) (vget s.isl.world 1)
      (q = e → (inCabin a || (decide (0x40000000 ≤ a) && decide (a < 0x60000000))) = false →
        ∀ u st, ((s.setCmp rest).modIsl (fun x => { x with world := vmod x.world 0 (fun _ => vget s.isl.world 1) })).fabWrite
          (.isl 0) a data = (u, st) → Does (.pairStoreCompare 1 a data) s (fun t => t.isl.cmp = rest ∧ t.resp = ⟨st, []⟩ ∧
            t.mem = u.mem ∧ t.isl.world = s.isl.world ∧ t.isl.halted = false)) ∧
      (q ≠ e → Does (.pairStoreCompare 1 a data) s (stops 0))) ∧
    (∀ q rest crc, s.isl.cmp = q :: rest →
      (q = .sync crc.toNat → Does (.islSync 1 crc) s (fun t => t.isl = { s.isl with cmp := rest } ∧ SameMem s t)) ∧
      (q ≠ .sync crc.toNat → Does (.islSync 1 crc) s (stops 3))) ∧
    (s.isl.cmp ≠ [] → Does .pairCompareTimeout s (stops 2)) ∧
    (∀ a n, s.inPrivate a n = false →
      (s.isl.log.length < 4096 → s.isl.cmp.length < 2048 → s.isl.cmp.any (fun e => e.touches a n) = false → (inCabin a = true → s.busServes (.isl 0) = true) →
        Does (.pairLoadCompare 0 a n) s (fun t => t.isl.log = s.isl.log ++ [.load a n (ofBytes t.resp.data)] ∧
          t.isl.cmp = s.isl.cmp ∧ t.rd F.ISL_PAIR_STAT_LOG_FILL = s.isl.log.length + 1)) ∧
      (∀ b k v rest, s.isl.log = .load b k v :: rest →
        (b = a ∧ k = n → Does (.pairLoadCompare 1 a n) s (fun t => t.isl = { s.isl with log := rest } ∧
          t.resp = ⟨0, leBytes v n⟩ ∧ SameMem s t)) ∧
        (¬ (b = a ∧ k = n) → Does (.pairLoadCompare 1 a n) s (stops 1)))) ∧
    (∀ a n u r, s.inPrivate a n = true → s.fabRead (.isl 1) a n = (u, r) → Does (.pairLoadCompare 1 a n) s (fun t => t = { u with
      resp := ⟨r.st, r.data⟩ }))) ∧
  (∀ (s : State) (core : Fin 2), s.islClk = true → s.coresRun = true →
    (∀ v, Does (.worldCsrWrite core v) s (fun t => t = { s with
      isl := { s.isl with world := vmod s.isl.world core (fun w => if w then bit v 0 else w) } })) ∧
    (s.lkrOn = true → ∀ a,
      (s.codePart a = none → Does (.lockerCodeFetch core a) s (fun t => t = s.setTag core none)) ∧
      (∀ n, s.codePart a = some n → vget s.isl.tag core ≠ some n →
        (a = (s.lockerSpan n.val).1 → Does (.lockerCodeFetch core a) s (fun t => t = s.setTag core (some n))) ∧
        (a ≠ (s.lockerSpan n.val).1 → Does (.lockerCodeFetch core a) s (fun t => vget t.isl.tag core = none ∧ SameMem s t ∧
          t.flag F.SEC_ERR_VIOL = true ∧ .irq "ISL_FETCH_FAULT" core.val ∈ t.out))) ∧
      (∀ n, s.codePart a = some n → vget s.isl.tag core = some n → Does (.lockerCodeFetch core a) s (fun t => t = s))) ∧
    (∀ source : Fin 64, ∀ count,
      let secure := bit (s.rd F.ISL_INT_WORLD_SECURE) source.val
      let traps := fun (log : List LogEntry) (t : State) => t.isl = { s.isl with
        world := if secure then vmod s.isl.world core (fun _ => true) else s.isl.world
        tag := if secure then vmod s.isl.tag core (fun _ => none) else s.isl.tag
        log := log } ∧ SameMem s t ∧ t.engines = s.engines
      (s.flag F.ISL_PAIR_STAT_MODE = true → Does (.secureInterrupt core source count) s (traps s.isl.log)) ∧
      (s.flag F.ISL_PAIR_STAT_MODE = false → core = 0 → s.isl.cmp.length < 2048 → s.isl.log.length < 4096 →
        Does (.secureInterrupt core source count) s (traps (s.isl.log ++ [.irq source.val count]))) ∧
      (s.flag F.ISL_PAIR_STAT_MODE = false → core = 1 → ∀ rest, s.isl.log = .irq source.val count :: rest →
        Does (.secureInterrupt core source count) s (traps rest))))

/-! ### Memory accesses, budgets, shares and queues (07, 08, 10, 12) -/

/-- With valid codes everywhere and no injection armed, an access that nothing refuses reads or stores exactly its bytes: LPDDR5X within
its port's budget (the link's corrections counted), an initialised slice of the Stream Buffer, HyperRAM, island SRAM. A granule whose code fails makes a read answer
MEM_DETECT and is logged. A refused access changes no memory, is logged by its kind, and gets an error response. -/
def Obligations.MemoryAccesses : Prop :=
  (∀ (s : State) (m : Master) (a n x : Nat), s.toDevice m a n = some x → s.refuse m false x n = none →
    let bad := (granules x n).any (fun g => s.mem.isBad g)
    let reads := fun (t : State) => SameMem s t ∧ t.engines = s.engines ∧ t.resp.data = s.mem.readBytes x n ∧
      t.resp.status = (if bad then stMEM_DETECT else 0)
    let counts := fun (link : Nat) (t : State) =>
      t.rd F.MEM_LINK_CNT_COUNT = min (s.rd F.MEM_LINK_CNT_COUNT + link) (2 ^ 32 - 1)
    let detects := fun (t : State) => bad = true → s.pd 61 = true → t.flag F.MEM_ERR_DETECT = true
    (s.mainClk = true →
      (∀ fill link, s.region x = .lpddr →
        (s.leaves m (s.urgency m.num fill) = true → Does (.lpddr5xRead m a n ⟨fill, link⟩) s (fun t => reads t ∧ detects t ∧
          counts link t ∧ t.ms.req = some (s.portReq m (s.urgency m.num fill)))) ∧
        (s.leaves m (s.urgency m.num fill) = false → Does (.lpddr5xRead m a n ⟨fill, link⟩) s (fun t => t = s))) ∧
      (s.region x = .sbuf → s.slicesReady x n = true → Does (.sbufRead m a n) s (fun t => reads t ∧ detects t))) ∧
    (s.islClk = true → s.region x = .hyper → ∀ transient, Does (.hyperramRead m a n transient) s (fun t => reads t ∧
      (bad = true → t.faultNow = true) ∧ (bad = false → transient = true → t.flag F.HB_STAT_CRC_REPEAT (hbPort a).1 = true ∧
        t.rd F.HB_REPEAT_CNT_CNT (hbPort a).1 = satInc 32 (s.rd F.HB_REPEAT_CNT_CNT (hbPort a).1))))) ∧
  (∀ (s : State) (m : Master) (a x : Nat) (data : List Byte), s.toDevice m a data.length = some x →
    s.refuse m true x data.length = none → s.mem.bad = [] → s.inj = none →
    let writes := fun (t : State) => Stored (runOf x data) s t ∧ t.engines = s.engines ∧ t.resp = ⟨0, []⟩
    (s.mainClk = true →
      (∀ fill link, s.region x = .lpddr →
        (s.leaves m (s.urgency m.num fill) = true → Does (.lpddr5xWrite m a data ⟨fill, link⟩) s (fun t => writes t ∧
          t.rd F.MEM_LINK_CNT_COUNT = min (s.rd F.MEM_LINK_CNT_COUNT + link) (2 ^ 32 - 1))) ∧
        (s.leaves m (s.urgency m.num fill) = false → Does (.lpddr5xWrite m a data ⟨fill, link⟩) s (fun t => t = s))) ∧
      (s.region x = .sbuf → s.slicesReady x data.length = true → Does (.sbufWrite m a data) s writes)) ∧
    (s.islClk = true →
      (s.region x = .hyper → ∀ transient, Does (.hyperramWrite m a ⟨data, transient⟩) s writes) ∧
      (s.region x = .sram → Does (.islandSramWrite m a data) s writes))) ∧
  (∀ (s : State) (m : Master) (write : Bool) (a n x : Nat), s.clkOf m = true → s.toDevice m a n = some x →
    let refused := fun (t : State) => SameMem s t ∧ t.engines = s.engines ∧ t.resp = ⟨stFABRIC_ERR, []⟩
    (s.refuse m write x n = some .range → Does (.unmappedAccess m write a n) s (fun t => refused t ∧
      (s.pd 61 = true → t.flag F.MEM_ERR_RANGE = true))) ∧
    (s.refuse m write x n = some .power → Does (.poweredOffAccess m write a n) s (fun t => refused t ∧
      (s.pd 61 = true → t.flag F.MEM_ERR_POWER = true))))

/-- A budget window counts the misses of the one it ends, starts every charge at 0 and puts the written budgets in effect. A slice reads
zero with valid codes once initialised. A share or a queue that its scheduler enables begins empty, one that does not fit is
refused with its error bit, and one disabled is empty. An armed injection waits for its granule. -/
def Obligations.BudgetsSharesAndQueues : Prop :=
  (∀ (s : State) (waiting : BitVec 40), s.mainClk = true → s.flag F.MEM_CFG_EN = true →
    let missed := fun (m : Nat) => s.rd F.QOS_M_USED_USED m < s.rdE F.QOS_M_BUDGET_GUAR m ∧
      (waiting.getLsbD m || s.portHolds m) = true
    Does (.budgetWindowStart waiting) s (fun t => SameMem s t ∧ t.engines = s.engines ∧
      t.rd F.QOS_WCNT_WINDOW = (s.rd F.QOS_WCNT_WINDOW + 1) % 2 ^ 32 ∧
      ∀ m, m < 40 → t.rd F.QOS_M_USED_USED m = 0 ∧ t.rdE F.QOS_M_BUDGET_LIMIT m = s.rd F.QOS_M_BUDGET_LIMIT m ∧
        t.rdE F.QOS_M_BUDGET_GUAR m = s.rd F.QOS_M_BUDGET_GUAR m ∧
        (missed m → bit (t.rd F.QOS_MISS_MISS) m = true ∧ .irq "QOS_MISS" 0 ∈ t.out) ∧
        (missed m → (∀ l, l < m → ¬ missed l) → t.rd F.QOS_MISS_LAST_MASTER = m))) ∧
  (∀ (s : State) (j : Fin 4), s.mainClk = true → s.pd (24 + j.val) = true → bit (s.rd F.SBUF_STAT_READY) j.val = false →
    let base := 0x80000000 + j.val * 2 ^ 23
    Does (.sbufSliceInit j) s (fun t => bit (t.rd F.SBUF_STAT_READY) j.val = true ∧ t.engines = s.engines ∧
      SameMemBut (fun a => base ≤ a ∧ a < base + 2 ^ 23) s t ∧
      ∀ o, o < 2 ^ 23 → t.mem.read (base + o) = 0 ∧ t.mem.isBad (base + o) = false)) ∧
  (∀ (s : State) (c : CabId) (v : Nat), s.mainClk = true → s.pd 61 = true → s.flag F.SBUF_SHARE_EN c.val = false →
    1 ≤ bits v 45 32 → bits v 45 32 ≤ 8192 →
    let a := bits v 12 0
    let e := a + bits v 45 32
    let fits := e ≤ 8192 ∧ ∀ d : CabId, d ≠ c → s.flag F.SBUF_SHARE_EN d.val = true →
      ¬ (a < s.rd F.SBUF_SHARE_BASE d.val + s.rd F.SBUF_SHARE_SIZE d.val ∧ s.rd F.SBUF_SHARE_BASE d.val < e)
    Does (.sbufShareEnable .sch c v) s (fun t => SameMem s t ∧ t.engines = s.engines ∧ t.rd F.SBUF_SHARE_BASE c.val = a ∧
      t.rd F.SBUF_SHARE_SIZE c.val = bits v 45 32 ∧ (fits → t.flag F.SBUF_SHARE_EN c.val = true) ∧
      (¬ fits → t.flag F.SBUF_SHARE_EN c.val = false ∧ t.flag F.MEM_ERR_SB_OVERLAP = true))) ∧
  (∀ (s : State) (v : Nat), s.mainClk = true → s.pd 61 = true → bits v 30 29 < 2 →
    Does (.memInjArm .sec v) s (fun t => t = { s with
      inj := some (bits v 30 29, bits v 4 0)
      resp := ⟨0, []⟩ })) ∧
  (∀ (s : State) (n : Fin 8), s.mainClk = true → s.pd 28 = true ∨ s.pd 29 = true →
    let on := (List.finRange 8).filter (fun m => m != n && s.flag F.CMU_SHARE_CFG_EN m.val)
    (∀ v, s.flag F.CMU_SHARE_CFG_EN n.val = false → bits v 21 0 ≤ 2097152 →
      let fits := (on.map (fun m => s.rd F.CMU_SHARE_CFG_LIMIT m.val)).foldl (· + ·) (bits v 21 0) ≤ 2097152 ∧
        ∀ m ∈ on, s.rd F.CMU_SHARE_CFG_CABINET m.val ≠ bits v 24 22
      Does (.cmuShareEnable .sch n v) s (fun t => SameMem s t ∧ (∀ m, m ≠ n → vget t.shares m = vget s.shares m) ∧
        (fits → t.flag F.CMU_SHARE_CFG_EN n.val = true ∧ vget t.shares n = ⟨.open_, [], 0, false, []⟩) ∧
        (¬ fits → t.flag F.CMU_ERR_OVERCOMMIT = true ∧ vget t.shares n = vget s.shares n))) ∧
    (s.flag F.CMU_SHARE_CFG_EN n.val = true → Does (.cmuShareDisable .sch n) s (fun t => SameMem s t ∧
      t.flag F.CMU_SHARE_CFG_EN n.val = false ∧ vget t.shares n = ⟨.disabled, [], 0, false, []⟩ ∧
      ∀ m, m ≠ n → vget t.shares m = vget s.shares m))) ∧
  (∀ (s : State) (q : Fin 32), s.mainClk = true →
    s.pd 20 = true ∨ s.pd 21 = true ∨ s.pd 22 = true ∨ s.pd 23 = true →
    let empties := fun (t : State) => vget t.sn.queues q = ⟨[], 0, [], none⟩ ∧ SameMem s t ∧
      ∀ p, p ≠ q → vget t.sn.queues p = vget s.sn.queues p
    (∀ v, s.flag F.SN_Q_CFG_EN q.val = false → s.rd F.SN_Q_GEOM_DEPTH q.val ≠ 0 → Does (.queueEnable .sch q v) s (fun t =>
      empties t ∧ t.flag F.SN_Q_CFG_EN q.val = true ∧ t.rd F.SN_Q_CFG_CABINET q.val = bits v 29 27 ∧
      t.flag F.SN_Q_CFG_MULTI q.val = bit v 30)) ∧
    (s.flag F.SN_Q_CFG_EN q.val = true → Does (.queueDisable .sch q) s (fun t => empties t ∧
      t.flag F.SN_Q_CFG_EN q.val = false ∧ t.sn.toQueue = s.sn.toQueue.filter (fun f => f.1 != q))))

/-! ### Cameras and mirrors, time, fusion (11) -/

/-- A frame start counts a frame for every slot of its virtual channel and takes the next buffer that nobody holds, or drops it; a line is
stored behind the earlier ones, or marks an overflow, a CRC error, a length change; the frame end writes the record, FCNT last,
and offers a good frame to the outputs. An output shows a good frame whose record, CRC and count are right once DELAY has passed,
repeats the last one after REPEAT_US, freezes after FREEZE_MAX repeats, and flags a wrong one, which it does not show. -/
def Obligations.CamerasAndMirrors : Prop :=
  (∀ (s : State) (r : Fin 4) (vc : Nat), s.mainClk = true → s.pd (49 + r.val) = true →
    Does (.csiFrameStart r vc true) s (fun t => SameMem s t ∧ t.regs = s.regs ∧ ∀ n,
      (s.slotOn n r vc = false → vget t.slots n = vget s.slots n) ∧
      (s.slotOn n r vc = true → vget t.slots n = { vget s.slots n with
        fcnt := ((vget s.slots n).fcnt + 1) % 2 ^ 32
        dropped := (vget s.slots n).dropped + (if (s.nextBuf n).isSome then 0 else 1)
        cur := s.nextBuf n
        lines := 0
        used := 4096
        crc := 0xFFFFFFFF
        len0 := 0
        status := 0
        start := s.stamp })) ∧
    (∀ dt l ok, ∀ c ∈ [Instr.csiFrameStart r vc false, .csiLongPacket r vc dt l false ok, .csiFrameEnd r vc false],
      Does c s (fun t => SameMem s t ∧ t.regs = s.regs ∧ ∀ n, vget t.slots n = { vget s.slots n with
        status := if s.flag F.CSI_S_CFG_EN n.val = true ∧ s.rd F.CSI_S_CFG_RECV n.val = r.val ∧ (vget s.slots n).cur.isSome = true
          then (vget s.slots n).status ||| 1 else (vget s.slots n).status })) ∧
    (∀ n dt l ok b, slotsWhere (fun n => s.slotTakes n r vc dt) = [n] → (vget s.slots n).cur = some b →
      let x := vget s.slots n
      let st := if ok then x.status else x.status ||| 2
      (s.slotBytes n < x.used + l.length → Does (.csiLongPacket r vc dt l true ok) s (fun t => SameMem s t ∧
        vget t.slots n = { x with status := st ||| 4 })) ∧
      (x.used + l.length ≤ s.slotBytes n → ∀ u e, s.fabWrite (csiPort r) (s.slotAddr n b + x.used) l = (u, e) →
        Does (.csiLongPacket r vc dt l true ok) s (fun t => t.mem = u.mem ∧ vget t.slots n = { x with
          lines := x.lines + 1
          used := x.used + cdiv l.length 64 * 64
          crc := crcRun x.crc l
          len0 := if x.lines = 0 then l.length else x.len0
          status := if x.lines ≠ 0 ∧ l.length ≠ x.len0 then st ||| 8 else st
          last := some b }))) ∧
    (∀ n b u e v f, slotsWhere (fun n => s.slotOn n r vc) = [n] → (vget s.slots n).cur = some b →
      s.fabWrite (csiPort r) (s.slotAddr n b + 4) ((s.frameRecord n).drop 4) = (u, e) →
      u.fabWrite (csiPort r) (s.slotAddr n b) ((s.frameRecord n).take 4) = (v, f) →
      Does (.csiFrameEnd r vc true) s (fun t => t.mem = v.mem ∧ vget t.slots n = { vget s.slots n with
          cur := none
          dropped := 0
          last := some b } ∧
        ∀ o, vget t.outs o = if (vget s.slots n).status = 0 ∧ s.flag F.MIR_O_CFG_EN o.val = true ∧ s.rd F.MIR_O_CFG_SRC o.val = n.val
          then { vget s.outs o with
            cand := some (b, (vget s.slots n).fcnt)
            candEnd := s.stamp } else vget s.outs o))) ∧
  (∀ (s : State) (m : Master) (n : Fin 16) (v : Nat), m = .sec ∨ (∃ core, m = .isl core) → s.clkOf m = true → s.pd 61 = true →
    s.pd 49 = true ∨ s.pd 50 = true ∨ s.pd 51 = true ∨ s.pd 52 = true → s.flag F.CSI_S_CFG_EN n.val = false →
    bits v 5 0 ∈ [0x18, 0x1E, 0x24, 0x2A, 0x2B, 0x2C] →
    let same := fun (k : Fin 16) => k ≠ n ∧ s.flag F.CSI_S_CFG_EN k.val = true ∧ s.rd F.CSI_S_CFG_RECV k.val = bits v 15 14 ∧
      s.rd F.CSI_S_CFG_VC k.val = bits v 13 10 ∧ s.rd F.CSI_S_CFG_DT k.val = bits v 5 0
    Does (.slotEnable m n v) s (fun t => SameMem s t ∧ t.rd F.CSI_S_CFG_DT n.val = bits v 5 0 ∧
      ((∃ k, same k) → t.flag F.CSI_S_CFG_EN n.val = false ∧ t.flag F.VIO_ERR_SLOT_DUP = true) ∧
      ((¬ ∃ k, same k) → t.flag F.CSI_S_CFG_EN n.val = true ∧ (vget t.slots n).cur = none))) ∧
  (∀ (s : State) (m : Master) (o : Fin 2) (v : Nat), m = .sec ∨ (∃ core, m = .isl core) → s.clkOf m = true → s.pd 61 = true →
    s.pd 53 = true ∨ s.pd 54 = true ∨ s.pd 55 = true → s.flag F.MIR_O_CFG_EN o.val = false →
    let raw := s.rd F.CSI_S_CFG_DT (bits v 3 0) = 0x2A ∨ s.rd F.CSI_S_CFG_DT (bits v 3 0) = 0x2B ∨ s.rd F.CSI_S_CFG_DT (bits v 3 0) = 0x2C
    Does (.mirrorEnable m o v) s (fun t => SameMem s t ∧ t.rd F.MIR_O_CFG_SRC o.val = bits v 3 0 ∧
      (raw → t.flag F.MIR_O_CFG_EN o.val = false ∧ t.flag F.VIO_ERR_SRC_FORMAT = true) ∧
      (¬ raw → t.flag F.MIR_O_CFG_EN o.val = true ∧ vget t.outs o = emptyOut))) ∧
  (∀ (s : State) (o : Fin 2), s.mainClk = true → s.pd (53 + o.val) = true → s.pd 55 = true →
    let x := vget s.outs o
    let shows := fun (b : Nat) (rep : Bool) (c : Instr) =>
      let s1 := (s.takeEffect R.MIR_O_CFG o.val).takeEffect R.MIR_O_DESC o.val
      let a := s.slotAddr (fin 16 (by decide) (s.rd F.MIR_O_CFG_SRC o.val)) b
      ∀ s2 d s3 h s5 l, s1.fabRead (dsiPort o) (s1.rdE F.MIR_O_DESC_ADDR o.val / 64 * 64) 64 = (s2, d) →
        s2.fabRead (dsiPort o) a 64 = (s3, h) → d.st = 0 → h.st = 0 →
        let g := fieldAt h.data
        descOk d.data (g 34 1) (g 4 4) (g 28 4) = true →
        (s3.modOut o (fun x => { x with desc := d.data })).payload (dsiPort o) a (g 4 4) (g 28 4) = (s5, true, l) →
        let right := crc32 l = g 24 4 ∧ g 32 2 = 0 ∧ ∀ f, x.shown = some f → lower32 (g 0 4) f = false
        let again := rep = true ∨ x.shown = some (g 0 4)
        let onFault := s.flag F.MIR_O_CFG_ON_FAULT o.val
        let counted := fun (fault : Bool) (t : State) =>
          let y := vget t.outs o
          y.repeats = (if fault then x.repeats else x.repeats + 1) ∧
          (s.rd F.MIR_O_CFG_FREEZE_MAX o.val < y.repeats → t.flag (freezeBit o) = true ∧ y.fault = (fault || onFault)) ∧
          (y.repeats ≤ s.rd F.MIR_O_CFG_FREEZE_MAX o.val → y.fault = fault)
        Does c s (fun t =>
          let y := vget t.outs o
          SameMem s t ∧ y.cand = none ∧ y.desc = d.data ∧ y.startedAt = s.stamp ∧
          (¬ right → t.flag (wrongBit o) = true ∧ y.shown = x.shown ∧ y.good = x.good ∧
            y.hold = (if x.fault || onFault then none else x.good.map (fun g => g.1)) ∧
            (x.good.isSome = true → counted (x.fault || onFault) t)) ∧
          (right → y.hold = some b ∧ y.shown = some (g 0 4) ∧ y.good = some (b, g 0 4) ∧
            (¬ again → y.repeats = 0 ∧ y.fault = false) ∧ (again → counted x.fault t)))
    (∀ b f, s.flag F.MIR_O_CFG_EN o.val = true → x.cand = some (b, f) →
      x.candEnd + 100000 * s.rdE F.MIR_O_CFG_DELAY o.val ≤ s.stamp → shows b false (.mirrorFrameStart o)) ∧
    (∀ b f, s.flag F.MIR_O_CFG_EN o.val = true → x.cand = none → x.good = some (b, f) →
      x.startedAt + 1000 * fieldAt x.desc 30 2 ≤ s.stamp → shows b true (.mirrorRepeat o)) ∧
    Does (.mirrorFrameEnd o) s (fun t => t = { s with
      outs := vmod s.outs o (fun x => { x with hold := none }) }))

/-- The island or SEC steps or sets the MTU, modulo 2^48 seconds; a new ITU rate does not move ITU_TIME; a due timed pulse fires once, at
its next due time again where it is periodic, and opens a fusion cycle where it is the trigger; a selected edge that stands for
10 ns is captured with its MTU time, up to four, a shorter pulse is not, and the read of the high word removes the oldest. -/
def Obligations.TimeUnitsPulsesAndCaptures : Prop :=
  (∀ (s : State) (m : Master), m = .sec ∨ (∃ core, m = .isl core) → s.clkOf m = true → s.pd 61 = true → s.pd 0 = true →
    (∀ v, Does (.mtuAdj m v) s (fun t => t = { s with
      mtu := (((s.mtu : Int) + sext 32 v * 2 ^ 32) % (mtuMod : Int)).toNat
      resp := ⟨0, []⟩ })) ∧
    (∀ v, Does (.mtuSet m v) s (fun t => t.mtu = v % 2 ^ 64 * 2 ^ 32 % mtuMod ∧ t.itu = s.itu ∧ SameMem s t ∧
      SameRegsBut (fun _ => False) s t)) ∧
    (∀ v, Does (.ituRateWrite m v) s (fun t => t.ituTime = s.ituTime ∧ t.rd F.ITU_RATE_RATE = v % 2 ^ 32 ∧ t.ituBase = s.itu ∧
      t.itu = s.itu ∧ t.mtu = s.mtu ∧ SameMem s t)) ∧
    (∀ n v, Does (.timedPulseArm m n v) s (fun t => (vget t.pulses n).due = some (v % 2 ^ 64) ∧
      (vget t.pulses n).high = (vget s.pulses n).high ∧ (∀ k, k ≠ n → vget t.pulses k = vget s.pulses k) ∧ SameMem s t))) ∧
  (∀ (s : State) (n : Fin 8), s.fclk = true →
    let p := s.rd F.TP_CFG_PERIOD n.val * 1000
    (∀ td, s.pulseDue n = some td → Does (.timedPulseFire n) s (fun t => t.engines = s.engines ∧
      vget t.pulses n = ⟨if p = 0 then none else some (nextDue td p s.stamp), s.flag F.TP_CFG_PIN_EN n.val, s.stamp⟩ ∧
      (∀ k, k ≠ n → vget t.pulses k = vget s.pulses k) ∧
      (s.flag F.GA_CFG_EN = true → s.rd F.GA_CFG_TRIG = n.val →
        t.ga.opens = (((match s.ga.opens.head? with | some (k, _) => k + 1 | none => 0), td,
          td + 1000 * s.rd F.GA_CFG_CLOSE_US) :: s.ga.opens).take 16))) ∧
    ((vget s.pulses n).firedAt + 1000 * s.rdE F.TP_CFG_WIDTH n.val ≤ s.stamp → Does (.timedPulseWidthEnd n) s (fun t => t = { s with
      pulses := vmod s.pulses n (fun x => { x with high := false }) }))) ∧
  (∀ (s : State) (n : Fin 16) (rising : Bool), s.fclk = true → s.flag F.CAP_CFG_EN n.val = true →
    (vget s.capIn n = none → Does (.captureEdge n rising) s (fun t => t = { s with
      capIn := vmod s.capIn n (fun _ => some ⟨s.ticks, rising, s.stamp⟩) })) ∧
    (∀ e, vget s.capIn n = some e → e.rising ≠ rising → Does (.captureEdge n rising) s (fun t => t = { s with
      capIn := vmod s.capIn n (fun _ => none) }))) ∧
  (∀ (s : State) (n : Fin 16) (p : CapEdge), vget s.capIn n = some p → p.tick + 10 ≤ s.ticks → s.flag F.CAP_CFG_EN n.val = true →
    let e := s.rd F.CAP_CFG_EDGE n.val
    let t := s.captureTick
    (p.rising = true ∧ (e = 0 ∨ e = 2)) ∨ (p.rising = false ∧ (e = 1 ∨ e = 2)) →
    vget t.capIn n = none ∧ SameMem s t ∧
    ((vget s.caps n).length < 4 → vget t.caps n = vget s.caps n ++ [p.time] ∧
      t.rd F.CAP_CFG_LEVEL n.val = (vget s.caps n).length + 1) ∧
    (4 ≤ (vget s.caps n).length → vget t.caps n = vget s.caps n ∧ t.flag F.CAP_CFG_OVF n.val = true)) ∧
  (∀ (s : State) (n : Fin 16), s.mainClk = true → (vget s.caps n).length ≤ 4 → Does (.captureRead n) s (fun t =>
    vget t.caps n = (vget s.caps n).drop 1 ∧ t.rd F.CAP_CFG_LEVEL n.val = (vget s.caps n).length - 1 ∧ t.mtu = s.mtu ∧
    ((∀ c ∈ s.regs.hi, c.1 ≠ R.CAP_TS.addr n.val 0) → t.resp = ⟨0, leBytes ((vget s.caps n).headD 0 / 2 ^ 32) 4⟩)))

/-- A poll checks the next slot of every enabled sensor, and takes a sample once only; the close of the next cycle reads the block, fixes
the samples and moves on; the release of the oldest closed cycle reports it, with doubt 3 where too many corridor cells conflict,
and clears the counts; EN starts the unit afresh. -/
def Obligations.FusionCycles : Prop :=
  (∀ (s : State) (b : List Byte), s.mainClk = true → s.flag F.GA_CFG_EN = true → s.ga.block = some b →
    Does .samplePoll s (fun t => t.ga.closed = s.ga.closed ∧ t.ga.opens = s.ga.opens ∧ t.ga.next = s.ga.next ∧ t.engines = s.engines ∧
      (∀ n, n ∉ blkOn b → vget t.ga.sensors n = vget s.ga.sensors n) ∧
      ∀ n, (vget t.ga.sensors n).q = (vget s.ga.sensors n).q ∨ (vget t.ga.sensors n).q = (vget s.ga.sensors n).q + 1) ∧
    (∀ n u r k, blkOn b = [n] → s.fabRead gaPort (fieldAt b 0 8 + 512 * n.val + 32 * ((vget s.ga.sensors n).q % 16)) 32 = (u, r) →
      r.st = 0 →
      let z := vget s.ga.sensors n
      let g := fieldAt r.data
      let x : Sample := ⟨g 0 8, g 8 6, g 14 6, g 20 6, g 26 2, s.stamp⟩
      (g 28 4 ≠ z.q % 2 ^ 32 → Does .samplePoll s (fun t => t = u)) ∧
      (g 28 4 = z.q % 2 ^ 32 → x.t ≤ x.at_ + 1000000 → bit (s.rdE F.GA_LIE_LIE) n.val = false → z.masked = false →
        s.cycleAt x.t = some k → s.ga.next ≤ k → Does .samplePoll s (fun t => SameMem s t ∧ vget t.ga.sensors n = { z with
          q := z.q + 1
          held := (k, x) :: z.held.filter (fun h => h.1 != k)
          late := 0 })))) ∧
  (∀ (s : State) (o : Nat × Nat × Nat) (u : State) (r : FabRes), s.mainClk = true → s.flag F.GA_CFG_EN = true →
    s.ga.opens.find? (fun o => o.1 == s.ga.next && decide (o.2.2 ≤ s.stamp)) = some o →
    let s1 := (s.takeEffect R.GA_BLOCK).takeEffect R.GA_LIE
    s1.fabRead gaPort (s1.rdE F.GA_BLOCK_ADDR / 256 * 256) 256 = (u, r) →
    (r.st = 0 → blkOk r.data = true → Does .fusionClose s (fun t => t.ga.next = s.ga.next + 1 ∧ t.ga.block = some r.data ∧
      ∃ z, t.ga.closed = s.ga.closed ++ [z] ∧ z.k = s.ga.next ∧ z.tk = o.2.1 ∧ z.block = r.data)) ∧
    (¬ (r.st = 0 ∧ blkOk r.data = true) → s.ga.block = none → Does .fusionClose s (fun t => t.ga.next = s.ga.next + 1 ∧
      t.flag F.GA_ERR_BLOCK = true ∧ t.ga.closed = s.ga.closed ∧ t.ga.block = none))) ∧
  (∀ (s : State) (z : Closed) (rest : List Closed), s.mainClk = true → s.ga.closed = z :: rest →
    Does .gridRelease s (fun t => t.ga.closed = rest ∧ t.ga.counts = ⟨0, 0, 0, 0, 0, 0, 0⟩ ∧ .irq "GRID_RELEASE" z.k ∈ t.out ∧
      t.rd F.GA_STAT_CYCLE = z.k % 65536 ∧
      (s.flag F.ARB_CFG_EN = true → fieldAt z.block 54 2 ≠ 0xFFFF → fieldAt z.block 54 2 < s.ga.corridor →
        bit (t.rd F.ARB_DOUBT_CUR) 3 = true))) ∧
  (∀ (s : State) (m : Master) (v : Nat), m = .sec ∨ (∃ core, m = .isl core) → s.clkOf m = true → s.pd 61 = true → s.pd 30 = true →
    s.flag F.GA_CFG_EN = false → Does (.gaEnable m v) s (fun t => t.flag F.GA_CFG_EN = true ∧ t.ga = emptyGa ∧
      t.rd F.GA_CFG_TRIG = bits v 26 24 ∧ t.rd F.GA_STAT_LATE_MASK = 0 ∧ SameMem s t))

/-! ### The Cabin Bus controllers and the Body Bridge (12, 13, 19) -/

/-- A received CAN frame that fits and passes a filter goes to the next ring slot, or is counted as lost where the ring is full; requested
buffers are sent in arbitration order, and withdrawn ones are not; a bus-off controller returns by its restart or by AUTO_RECOV. A
LIN frame ends with its checks recorded. A GPIO edge and an expired timer set their interrupt bits; a periodic timer goes on. -/
def Obligations.CabinControllers : Prop :=
  (∀ (s : State) (n : Fin 12), s.islClk = true →
    let state := s.rd F.CAN_STAT_STATE n.val
    let back := fun (t : State) => t.rd F.CAN_STAT_STATE n.val = 0 ∧ t.rd F.CAN_STAT_TEC n.val = 0 ∧ t.rd F.CAN_STAT_REC n.val = 0 ∧
      t.flag F.CAN_CTRL_EN n.val = s.flag F.CAN_CTRL_EN n.val ∧ SameMem s t
    (∀ w l, s.canOn n = true → s.canFits n w l.length = true → s.canAccepts n w = true →
      let len := s.rd F.CAN_RX_LEN_LEN n.val
      let h := s.rd F.CAN_RX_HEAD_HEAD n.val
      (len ≤ (vget s.cans n).fill → Does (.canFrameReceive n w l) s (fun t => SameMem s t ∧
        vget t.cans n = ⟨(vget s.cans n).fill, (vget s.cans n).lost + 1⟩ ∧ t.flag F.CAN_STAT_RX_OVERRUN n.val = true ∧
        t.rd F.CAN_RX_HEAD_HEAD n.val = h ∧ bit (t.rd F.CAN_IRQ_IRQ n.val) 4 = true)) ∧
      ((vget s.cans n).fill < len → ∀ u e,
        s.fabWrite (.can n) (s.rd F.CAN_RX_BASE_V n.val + canSlot n * h) (canRecord s.ituTime w l) = (u, e) →
        Does (.canFrameReceive n w l) s (fun t => t.mem = u.mem ∧
          vget t.cans n = ⟨(vget s.cans n).fill + 1, (vget s.cans n).lost⟩ ∧
          t.rd F.CAN_RX_HEAD_HEAD n.val = (h + 1) % len % 4096 ∧ bit (t.rd F.CAN_IRQ_IRQ n.val) 0 = true))) ∧
    (∀ w l, s.canOn n = false ∨ s.canFits n w l.length = false ∨ s.canAccepts n w = false →
      Does (.canFrameReceive n w l) s (fun t => t = s)) ∧
    (∀ core v, s.pd 3 = true → s.isl.halted = false →
      Does (.canTxReq (.isl core) n v) s (fun t => t.rd F.CAN_TX_REQ_REQ n.val = s.rd F.CAN_TX_REQ_REQ n.val ||| v % 2 ^ 32 ∧
        SameMem s t) ∧
      Does (.canTxAbort (.isl core) n v) s (fun t => SameMem s t ∧
        t.rd F.CAN_TX_REQ_REQ n.val = s.rd F.CAN_TX_REQ_REQ n.val &&& ((2 ^ 32 - 1) ^^^ (v % 2 ^ 32)))) ∧
    (∀ u l b, s.canOn n = true → s.canReady n = (u, l) → canWinner l = some b → b < 32 → Does (.canFrameSent n) s (fun t =>
      bit (t.rd F.CAN_TX_REQ_REQ n.val) b = false ∧ bit (t.rd F.CAN_TX_DONE_DONE n.val) b = true ∧
      bit (t.rd F.CAN_IRQ_IRQ n.val) 1 = true)) ∧
    (∀ b : Fin 32, s.canOn n = true → s.rd F.CAN_TX_REQ_REQ n.val = 2 ^ b.val →
      s.Serves (.can n) false (s.rd F.CAN_TXBUF_ADDR n.val b.val / 16 * 16) 16 → Does (.canFrameSent n) s (fun t =>
      t.rd F.CAN_TX_REQ_REQ n.val = 0 ∧ bit (t.rd F.CAN_TX_DONE_DONE n.val) b.val = true ∧ bit (t.rd F.CAN_IRQ_IRQ n.val) 1 = true)) ∧
    (∀ core, s.pd 3 = true → s.isl.halted = false → state = 2 → Does (.canRestart (.isl core) n) s back) ∧
    (s.canOn n = true → Does (.canBusOff n) s (fun t => t.rd F.CAN_STAT_STATE n.val = 2 ∧ SameMem s t ∧
      bit (t.rd F.CAN_IRQ_IRQ n.val) 3 = true ∧ bit (t.rd F.CAN_IRQ_IRQ n.val) 2 = true)) ∧
    (s.flag F.CAN_CTRL_EN n.val = true → state = 2 → s.flag F.CAN_CTRL_AUTO_RECOV n.val = true →
      Does (.canBusOffRecovery n) s back)) ∧
  (∀ (s : State) (n : Fin 4), s.islClk = true →
    let ended := fun (t : State) => bit t.isl.lin n.val = false ∧ t.out = .irq "LIN" n.val :: s.out ∧ SameMem s t
    (∀ core, s.pd 3 = true → s.isl.halted = false → s.flag F.LIN_CTRL_EN n.val = true → s.flag F.LIN_CTRL_COMMANDER n.val = true →
      Does (.linStart (.isl core) n) s (fun t => bit t.isl.lin n.val = true ∧ SameMem s t ∧ t.out = s.out)) ∧
    (∀ breakOk syncOk pid l chk, s.linBusy n = true →
      let d := l.map (fun b => b.toNat)
      let want := linSum (if s.flag F.LIN_CTRL_ENHANCED n.val then pid % 256 :: d else d)
      Does (.linDone n breakOk syncOk pid l chk) s (fun t => ended t ∧ t.flag F.LIN_STAT_DONE n.val = true ∧
        t.rd F.LIN_PID_PID n.val = pid % 256 ∧ t.rd F.LIN_DATA0_DATA n.val = ofBytes (l.take 4) ∧
        t.rd F.LIN_DATA1_DATA n.val = ofBytes ((l.drop 4).take 4) ∧
        t.flag F.LIN_STAT_BREAK n.val = (s.flag F.LIN_STAT_BREAK n.val || !breakOk) ∧
        t.flag F.LIN_STAT_SYNC n.val = (s.flag F.LIN_STAT_SYNC n.val || !syncOk) ∧
        t.flag F.LIN_STAT_PARITY n.val = (s.flag F.LIN_STAT_PARITY n.val || linPid pid != pid % 256) ∧
        t.flag F.LIN_STAT_CHECKSUM n.val = (s.flag F.LIN_STAT_CHECKSUM n.val || want != chk % 256))) ∧
    (s.linBusy n = true → Does (.linResponseTimeout n) s (fun t => ended t ∧ t.flag F.LIN_STAT_TIMEOUT n.val = true)) ∧
    (s.pd 3 = true → Does (.linWakeUp n) s (fun t => t = { s with out := .irq "LIN_WAKE" n.val :: s.out }))) ∧
  (∀ (s : State) (n : Fin 32) (rising : Bool), s.islClk = true → s.pd 3 = true → bit (s.rd F.GPIO_DIR_V) n.val = false →
    bit (s.rd F.GPIO_IN_V) n.val ≠ rising → Does (.gpioEdge n rising) s (fun t => bit (t.rd F.GPIO_IN_V) n.val = rising ∧
      SameMem s t ∧ (∀ j : Fin 32, j ≠ n → bit (t.rd F.GPIO_IN_V) j.val = bit (s.rd F.GPIO_IN_V) j.val) ∧
      (bit (s.rd (if rising then F.GPIO_RISE_EN_V else F.GPIO_FALL_EN_V)) n.val = true → bit (t.rd F.GPIO_IRQ_V) n.val = true ∧
        t.out = .irq "GPIO" n.val :: s.out) ∧
      (bit (s.rd (if rising then F.GPIO_RISE_EN_V else F.GPIO_FALL_EN_V)) n.val = false → t.rd F.GPIO_IRQ_V = s.rd F.GPIO_IRQ_V ∧
        t.out = s.out))) ∧
  (∀ (s : State) (n : Fin 8), s.islClk = true → s.flag F.TMR_CTRL_EN n.val = true → bit s.isl.timers n.val = false →
    s.rd F.TMR_CMP_CMP n.val ≤ s.itu →
    let period := s.rd F.TMR_PERIOD_PERIOD n.val
    let again := s.flag F.TMR_CTRL_PERIODIC n.val = true ∧ period ≠ 0
    Does (.islandTimerExpire n) s (fun t => t.flag F.TMR_IRQ_IRQ n.val = true ∧ t.out = .irq "TIMER" n.val :: s.out ∧ SameMem s t ∧
      (again → t.rd F.TMR_CMP_CMP n.val = (s.rd F.TMR_CMP_CMP n.val + period) % 2 ^ 64 ∧ bit t.isl.timers n.val = false) ∧
      (¬ again → t.rd F.TMR_CMP_CMP n.val = s.rd F.TMR_CMP_CMP n.val ∧ bit t.isl.timers n.val = true)))

/-- A posted write is accepted while the queue of 32 has room, and performed in order; a non-posted access waits for its master's posted
writes and for the bus, and answers what the Cabin Bus answers, an error as COMPAT_ERR says; an access without a range is refused.
A lock broken frees the bus and is logged; a timed-out access gets an error; an island access beyond the island needs PD61. -/
def Obligations.BodyBridge : Prop :=
  (∀ (s : State) (m : Master) (a : Nat), m.cabin = false → inCabin a = true → s.clkOf m = true →
    (∀ l compat, s.bbRoute m a = some (true, compat) →
      (s.bridge.posted.length < 32 → bbShape a l.length = true → Does (.bbPostedWrite false m a l) s (fun t => t = { s with
        bridge := { s.bridge with posted := s.bridge.posted ++ [(m, a, l)] }
        resp := ⟨0, []⟩ })) ∧
      (32 ≤ s.bridge.posted.length → Does (.bbPostedWrite false m a l) s (fun t => t = s))) ∧
    (∀ write n l, s.bbRoute m a = none → Does (.bbNonpostedAccess m write a n l .free) s (fun t => SameMem s t ∧
      t.bridge = s.bridge ∧ t.resp = ⟨stFABRIC_ERR, []⟩ ∧ (s.pd 61 = true → t.flag F.MEM_ERR_RANGE = true))) ∧
    (∀ posted compat, s.bbRoute m a = some (posted, compat) → s.bridge.posted.all (fun p => p.1 != m) = true →
      s.busServes m = true →
      (∀ n u d e, bbShape a n = true → s.bbRead m (bbParts a n) = (u, d, e) → Does (.bbNonpostedAccess m false a n [] .free) s (fun t =>
        (e = none → t = { u with resp := ⟨0, d⟩ }) ∧ (e ≠ none → t.flag F.BB_ERR_NP_ERR = true ∧
          t.resp = (if compat then ⟨stFABRIC_ERR, []⟩ else ⟨0, d⟩)))) ∧
      (∀ l u e, posted = false → bbShape a l.length = true → s.bbWrite m l a (bbParts a l.length) = (u, e) →
        Does (.bbNonpostedAccess m true a 0 l .free) s (fun t =>
          (e = none → t = { u with resp := ⟨0, []⟩ }) ∧ (e ≠ none → t.flag F.BB_ERR_NP_ERR = true ∧
            t.resp = ⟨if compat then stFABRIC_ERR else 0, []⟩)))) ∧
    (∀ compat, s.islClk = true → s.pd 3 = true → s.bbRoute m a = some (false, compat) →
      Does (.cabinBusTimeout m true a) s (fun t => t.resp = ⟨if compat then stFABRIC_ERR else 0, []⟩ ∧
        t.flag F.BB_ERR_NP_ERR = true ∧ t.flag F.BB_ERR_TIMEOUT = true ∧ .irq "CABIN_MONITOR" a ∈ t.out ∧ SameMem s t))) ∧
  (∀ (s : State) (m : Master) (a : Nat) (l : List Byte) (rest : List (Master × Nat × List Byte)) (u : State)
    (e : Option (Nat × Bool)), s.islClk = true → s.bridge.posted = (m, a, l) :: rest → s.busServes m = true →
    ({ s with bridge := { s.bridge with posted := rest } } : State).bbWrite m l a (bbParts a l.length) = (u, e) →
    ∀ m' a' l', Does (.bbPostedWrite true m' a' l') s (fun t => t.bridge.posted = u.bridge.posted ∧ t.mem = u.mem ∧
      (e = none → t = u) ∧ (e ≠ none → t.flag F.BB_ERR_POSTED_ERR = true))) ∧
  (∀ (s : State) (m : Master) (x : Bool) (a : Nat), s.islClk = true → s.bridge.lock = some (m, x) →
    Does (.bbLockBreak a) s (fun t => t.bridge = { s.bridge with lock := none } ∧ t.flag F.BB_ERR_LOCK_BROKEN = true ∧ SameMem s t ∧
      t.resp = (if x then ⟨0, []⟩ else ⟨stFABRIC_ERR, []⟩))) ∧
  (∀ (s : State) (m : Master) (a n : Nat) (l : List Byte), m.cabin = true → s.clkOf m = true →
    (beyondIsland a = true → s.pd 61 = false → ∀ write, Does (.bbOutboundAccess m write a n l) s (fun t => t = { s with
      resp := ⟨stFABRIC_ERR, []⟩ })) ∧
    (beyondIsland a = true → s.pd 61 = true → (decide (0x40000000 ≤ a) && decide (a < 0x60000000)) = false →
      (∀ u r, s.fabRead m a n = (u, r) → Does (.bbOutboundAccess m false a n l) s (fun t => t = { u with
        resp := ⟨r.st, r.data⟩ })) ∧
      (∀ u st, s.fabWrite m a l = (u, st) → Does (.bbOutboundAccess m true a n l) s (fun t => t = { u with
        resp := ⟨st, []⟩ }))) ∧
    (s.islClk = true → inCabin a = true → s.pd 3 = true → ∀ write, Does (.cabinBusTimeout m write a) s (fun t => t = { s with
      out := .irq "CABIN_MONITOR" a :: s.out
      resp := ⟨stFABRIC_ERR, []⟩ })))

/-! ### The switch, the island MAC and the Trestle link (13, 19) -/

/-- A frame that a port takes is counted, its source learned, and it leaves in its priority's class on every other powered, enabled port
of its VLAN that the forwarding table names, or all where it names none, except where the egress queue is full; a blocked frame and
one of a foreign VLAN leave on none. Table commands read, write, delete and flush entries; keys read 0. A gate list written ahead
becomes operational at its base time. The island MAC's frames go through its rings. -/
def Obligations.SwitchForwardsFrames : Prop :=
  (∀ (s : State) (p : Fin 12) (l : List Byte) (blocked : Bool) (full : BitVec 12), s.mainClk = true →
    (p.val < 10 → s.swPort p.val = false ∨ 9216 < l.length → Does (.switchFrameReceive p l blocked full) s (fun t => t = s)) ∧
    (p.val < 10 → s.swPort p.val = true → l.length ≤ 9216 →
      let f := EthFrame.of l
      let vid := match f.tag with | some (v, _) => (if v = 0 then s.rd F.SW_P_CFG_VID p.val else v) | none => s.rd F.SW_P_CFG_VID p.val
      let prio := match f.tag with | some (_, q) => q | none => s.rd F.SW_P_CFG_PRIO p.val
      let tc := fun (e : Nat) => bits (s.rd F.SW_P_TC_MAP_MAP e) (3 * prio + 2) (3 * prio)
      let member := fun (e : Nat) => bit (s.swMembers vid) e
      let fdb := (s.swLearn f.src vid p.val).sw.fdb
      let mask := match fdb.find? (fun e => fdbMac e.2 == f.dst && fdbVid e.2 == vid) with | some (_, e) => fdbMask e | none => 4095
      let goes := fun (e : Nat) => e != p.val && bit mask e && member e && s.swPort e && !full.getLsbD e
      let bytes := fun (e : Nat) => f.bytes (if s.flag F.SW_CTRL_VLAN_AWARE then (if s.swUntagged vid e then none else some (vid, prio)) else f.tag)
      (blocked = true → Does (.switchFrameReceive p l blocked full) s (fun t => t.sw = s.sw ∧ SameMem s t ∧
        t.rd F.SW_P_CNT_CNT p.val 24 = satInc 32 (s.rd F.SW_P_CNT_CNT p.val 24))) ∧
      (blocked = false → member p.val = false → Does (.switchFrameReceive p l blocked full) s (fun t => t.sw = s.sw ∧ SameMem s t)) ∧
      (blocked = false → member p.val = true → Does (.switchFrameReceive p l blocked full) s (fun t => t.sw.fdb = fdb ∧
        t.engines = s.engines ∧
        t.sw.out = (((List.range 10).filter goes).reverse.map (fun e => (e, tc e, bytes e))) ++ s.sw.out))) ∧
    (p.val = 10 → ∀ u b h, s.ringTake s.fabTx (s.rd F.SW_FAB_TX_TAIL_TAIL) s.stamp = (u, some (b, h)) →
      Does (.switchFrameReceive p l blocked full) s (fun t => t = (u.put0 F.SW_FAB_TX_HEAD_HEAD h).swReceive p b blocked full))) ∧
  (∀ (s : State) (m : Master), s.pd 42 = true → (m = .sec ∧ s.mainClk = true ∨ (∃ c, m = .isl c) ∧ s.islClk = true ∧ s.isl.halted = false ∧ s.pd 61 = true) →
    let other := fun (t : State) => SameMem s t ∧ t.sw.vlan = s.sw.vlan ∧ t.sw.tables = s.sw.tables
    (∀ p : Fin 12, Does (.gclChange m p) s (fun t => bit t.sw.gcl p.val = true ∧ t.flag F.SW_P_GCL_CHANGE_GO p.val = true ∧ other t)) ∧
    (∀ idx, idx < 8192 →
      let entry := ((s.sw.fdb.find? (fun e => e.1 == idx)).map (fun e => e.2)).getD []
      Does (.fdbRead m idx) s (fun t => other t ∧ t.sw.fdb = s.sw.fdb ∧
        ∀ i, i < 4 → t.rd F.SW_FDB_DATA_DATA i = nth 0 entry i % 2 ^ 32) ∧
      Does (.fdbWrite m idx) s (fun t => other t ∧
        t.sw.fdb = (idx, (List.range 4).map (fun i => s.rd F.SW_FDB_DATA_DATA i)) :: s.sw.fdb.filter (fun e => e.1 != idx)) ∧
      Does (.fdbDelete m idx) s (fun t => other t ∧ t.sw.fdb = s.sw.fdb.filter (fun e => e.1 != idx)) ∧
      Does (.fdbFlush m idx) s (fun t => other t ∧ t.sw.fdb = s.sw.fdb.filter (fun e => fdbStatic e.2))) ∧
    (∀ vid, vid < 4096 →
      let sameTables := fun (t : State) => SameMem s t ∧ t.sw.fdb = s.sw.fdb ∧ t.sw.tables = s.sw.tables
      Does (.vlanRead m vid) s (fun t => t.sw = s.sw ∧ SameMem s t ∧
        t.regVal R.SW_VLAN_DATA 0 0 = ((s.sw.vlan.find? (fun e => e.1 == vid)).map (fun e => e.2)).getD 0) ∧
      Does (.vlanWrite m vid) s (fun t => sameTables t ∧
        t.sw.vlan = (vid, s.regVal R.SW_VLAN_DATA 0 0) :: s.sw.vlan.filter (fun e => e.1 != vid)) ∧
      Does (.vlanDelete m vid) s (fun t => sameTables t ∧ t.sw.vlan = s.sw.vlan.filter (fun e => e.1 != vid)) ∧
      Does (.vlanFlush m vid) s (fun t => sameTables t ∧ t.sw.vlan = [])) ∧
    (∀ (k : Fin 5) (op : Fin 4) (idx : Nat), idx < 8192 →
      let r := (swTable k.val).1
      let n := (swTable k.val).2
      let entry := ((s.sw.tables.find? (fun e => e.1 == (k.val, idx))).map (fun e => e.2)).getD []
      Does (.switchTableCommand m k op idx) s (fun t => SameMem s t ∧ t.sw.fdb = s.sw.fdb ∧ t.sw.vlan = s.sw.vlan ∧
        (op.val = 0 → t.sw = s.sw ∧ ∀ i, i < n → t.regVal r i 0 = if keyWord k.val i then 0 else nth 0 entry i) ∧
        (op.val = 1 → t.sw.tables = ((k.val, idx), (List.range n).map (fun i => s.regVal r i 0)) ::
          s.sw.tables.filter (fun e => e.1 != (k.val, idx))) ∧
        (op.val = 2 → t.sw.tables = s.sw.tables.filter (fun e => e.1 != (k.val, idx))) ∧
        (op.val = 3 → t.sw.tables = s.sw.tables.filter (fun e => e.1.1 != k.val))))) ∧
  (∀ (s : State) (p : Fin 12), s.mainClk = true → bit s.sw.gcl p.val = true → s.rd F.SW_P_GCL_BASE_TIME p.val ≤ s.stamp →
    Does (.gclSwitch p) s (fun t => bit t.sw.gcl p.val = false ∧ t.flag F.SW_P_GCL_CHANGE_GO p.val = false ∧ SameMem s t ∧
      ∀ i, i < 256 → t.regVal R.SW_P_GCL_OPER p.val i = s.regVal R.SW_P_GCL_ADMIN p.val i)) ∧
  (∀ (s : State), s.islClk = true →
    (∀ ts l rest, s.sw.toMac = (ts, l) :: rest →
      (s.flag F.ETH_CFG_EN = false ∨ s.ethTakes l = false → Does .ethFrameReceive s (fun t => t = { s with
        sw := { s.sw with toMac := rest } })) ∧
      (s.flag F.ETH_CFG_EN = true → s.ethTakes l = true → ∀ u o,
        ({ s with sw := { s.sw with toMac := rest } } : State).ringPut s.ethRx ts l = (u, o) → Does .ethFrameReceive s (fun t =>
          t.sw.toMac = rest ∧ t.mem = u.mem ∧ (∀ h, o = some h → t.rd F.ETH_RX_HEAD_HEAD = h % 2 ^ 10 ∧ bit (t.rd F.ETH_IRQ_IRQ) 0 = true) ∧
          (o = none → t.rd F.ETH_RX_DROP_CNT = satInc 32 (u.rd F.ETH_RX_DROP_CNT) ∧ bit (t.rd F.ETH_IRQ_IRQ) 2 = true)))) ∧
    (∀ blocked full u b h, s.flag F.ETH_CFG_EN = true → s.ringTake s.ethTx (s.rd F.ETH_TX_TAIL_TAIL) s.stamp = (u, some (b, h)) →
      Does (.ethFrameSend blocked full) s (fun t => t = ((u.put0 F.ETH_TX_HEAD_HEAD h).ethIrq 1).swReceive 11 b blocked full)))

/-- Heartbeats and images carry the next sequence number; a bad frame is asked for again, and the fourth failure takes the link down; the
standby takes over on the partner's FAULT_N, and where the link is down and PARTNER_ALIVE silent; roles follow the partner's role,
PRIMARY and the time without a link; an image that arrives whole becomes the latest. -/
def Obligations.TrestlePartners : Prop :=
  ∀ s : State,
    let up := s.trsUp = true
    let takesOver := fun (t : State) => t.role = 2 ∧ .irq "TRS_TAKEOVER" 0 ∈ t.out
    let sent := fun (f : TrsFrame) (t : State) => t.trs.out = (s.trs.txSeq, f) :: s.trs.out ∧ t.trs.txSeq = s.trs.txSeq + 1
    (s.mainClk = true → s.pd 60 = true → s.flag F.TRS_STAT_LINK_UP = true → Does .trestleHeartbeatSend s (fun t => sent (.heartbeat s.role (s.regVal R.ARB_STATUS 0 0) s.faultNow) t ∧
      t.regs = s.regs ∧ SameMem s t)) ∧
    (up →
      let down := fun (t : State) => t.flag F.TRS_STAT_LINK_UP = false ∧ SameMem s t ∧
        (s.decides = true → s.trs.silent = true → takesOver t) ∧
        (s.decides = true → s.trs.silent = false → t.role = s.role ∧ t.flag F.TRS_STAT_SPLIT = true) ∧
        (s.decides = false → t.role = s.role)
      Does .trestleLinkDown s down ∧ (s.mainClk = true → ∀ seq f,
        (s.trs.fails < 3 → Does (.trestleFrameReceive seq f false) s (fun t => sent (.again seq) t ∧ t.trs.fails = s.trs.fails + 1 ∧
          t.regs = s.regs)) ∧
        (3 ≤ s.trs.fails → Does (.trestleFrameReceive seq f false) s down) ∧
        (seq ≠ s.trs.rxSeq → Does (.trestleFrameReceive seq f true) s (fun t => t = s)) ∧
        (seq = s.trs.rxSeq →
          (∀ role arb fault, f = .heartbeat role arb fault → Does (.trestleFrameReceive seq f true) s (fun t =>
            t.trs.rxSeq = seq + 1 ∧ t.trs.partnerFault = fault ∧ SameMem s t ∧
            (s.decides = true ∧ fault = true → takesOver t) ∧ (¬ (s.decides = true ∧ fault = true) → t.role = s.role))) ∧
          (∀ l, f = .image l → s.role = 1 → s.flag F.TRS_CFG_EN = true → l ≠ [] →
            let old := s.trs.rx.getD []
            old.length + l.length ≤ 2 ^ 20 → ∀ u e,
            (s.modTrs (fun t => { t with
              fails := 0
              rxSeq := t.rxSeq + 1 })).fabWrite (.port 37) (s.rdE F.TRS_RXBUF_ADDR + s.rxHalf * 2 ^ 20 + old.length) l = (u, e) →
            Does (.trestleFrameReceive seq f true) s (fun t => t.trs.rx = some (old ++ l) ∧ t.mem = u.mem ∧ t.trs.rxSeq = seq + 1)) ∧
          (∀ n p, f = .again n → s.trs.out.find? (fun p => p.1 == n) = some p → Does (.trestleFrameReceive seq f true) s (fun t =>
            t.trs.out = p :: s.trs.out ∧ t.trs.rxSeq = seq + 1 ∧ t.regs = s.regs))))) ∧
    (∀ peer : Fin 3, s.pd 60 = true → s.trsEnabled = true → s.flag F.TRS_STAT_LINK_UP = false → Does (.trestleLinkUp peer) s (fun t =>
      t.flag F.TRS_STAT_LINK_UP = true ∧ t.trs.watch = false ∧ SameMem s t ∧
      t.role = (if s.role = 2 then 2 else if peer.val = 2 ∨ s.trs.primary = false then 1 else 2))) ∧
    (s.islClk = true → s.flag F.TRS_STAT_LINK_UP = false → s.trsEnabled = true → s.role = 0 →
      (s.trs.primary = true ∨ s.trs.watch = true → Does .roleDecisionTimeout s (fun t => t.role = 2 ∧
        t.flag F.TRS_STAT_ALONE = true ∧ t.trs.watch = false ∧ SameMem s t)) ∧
      (s.trs.primary = false → s.trs.watch = false → Does .roleDecisionTimeout s (fun t => t = { s with
        trs := { s.trs with watch := true } })) ∧
      (s.trs.watch = true → Does .partnerAliveEdge s (fun t => t.role = 1 ∧ t.flag F.TRS_STAT_SPLIT = true ∧ t.trs.silent = false ∧
        t.trs.watch = false ∧ SameMem s t))) ∧
    (s.islClk = true → s.trs.watch = false → Does .partnerAliveEdge s (fun t => t = { s with
      trs := { s.trs with silent := false } })) ∧
    (s.islClk = true →
      (s.decides = false → Does .partnerSilent s (fun t => t = { s with
        trs := { s.trs with silent := true } })) ∧
      (s.decides = true → ¬ up → Does .partnerSilent s (fun t => takesOver t ∧ t.trs.silent = true)) ∧
      (s.decides = true → up → s.trs.partnerFault = false → Does .partnerSilent s (fun t => t.role = s.role ∧
        t.flag F.TRS_STAT_WIRE = true ∧ t.trs.silent = true))) ∧
    (s.mainClk = true → up → s.role = 2 → s.flag F.TRS_CFG_EN = true → ∀ u r,
      s.fabRead (.port 37) (s.rdE F.TRS_MIRROR_ADDR) 128 = (u, r) → r.st = 0 →
      let es := ((List.range 8).map (fun i => (fieldAt r.data (16 * i) 8, fieldAt r.data (16 * i + 8) 4,
        fieldAt r.data (16 * i + 12) 1))).filter (fun e => e.2.2 != 0)
      let total := (es.map (fun e => if e.2.2 = 4 then 0 else e.2.1)).foldl (· + ·) 0
      (2 ^ 20 < total → Does .mirrorImageSend s (fun t => t.flag F.TRS_STAT_LIST_ERR = true ∧ t.trs = s.trs)) ∧
      (total ≤ 2 ^ 20 → Does .mirrorImageSend s (fun t => SameMem s t ∧ t.role = 2 ∧ ∃ img : List Byte,
        (∀ a n, es = [(a, n, 4)] → img = leBytes (s.regVal R.ARB_STATUS 0 0) 4 ++ leBytes (s.regVal R.ARB_DOUBT 0 0) 4) ∧
        t.trs.txSeq = s.trs.txSeq + cdiv img.length 4096 ∧
        t.trs.out = ((List.range (cdiv img.length 4096)).reverse.map (fun i =>
          (s.trs.txSeq + i, TrsFrame.image ((img.drop (4096 * i)).take 4096)))) ++ s.trs.out))) ∧
    (s.mainClk = true → s.pd 60 = true → s.flag F.TRS_STAT_LINK_UP = true → s.role = 2 → s.flag F.TRS_CFG_EN = true →
      let l := s.rdE F.TRS_MIRROR_ADDR
      s.Serves (.port 37) false l 128 →
      let es := ((List.range 8).map (fun i => (s.mem.readNat (l + 16 * i) 8, s.mem.readNat (l + 16 * i + 8) 4,
        s.mem.readNat (l + 16 * i + 12) 1))).filter (fun e => e.2.2 != 0)
      (es.map (fun e => if e.2.2 = 4 then 0 else e.2.1)).foldl (· + ·) 0 ≤ 2 ^ 20 →
      (∀ e ∈ es, e.2.2 = 4 ∨ e.2.1 = 0 ∨ s.Serves (.port 37) false e.1 e.2.1) →
      let img := es.flatMap (fun e => if e.2.2 = 4 then leBytes (s.regVal R.ARB_STATUS 0 0) 4 ++ leBytes (s.regVal R.ARB_DOUBT 0 0) 4
        else s.mem.readBytes e.1 e.2.1)
      Does .mirrorImageSend s (fun t => SameMem s t ∧ t.trs.out = ((List.range (cdiv img.length 4096)).reverse.map (fun i =>
        (s.trs.txSeq + i, TrsFrame.image ((img.drop (4096 * i)).take 4096)))) ++ s.trs.out)) ∧
    (s.mainClk = true → s.trs.rx.isSome = true → s.role = 1 →
      Does (.mirrorImageComplete true) s (fun t => t.trs.rx = none ∧ t.rd F.TRS_STAT_RX_HALF = 1 - s.rd F.TRS_STAT_RX_HALF ∧
        .irq "TRS_MIRROR" 0 ∈ t.out ∧ SameMem s t) ∧
      Does (.mirrorImageComplete false) s (fun t => t.trs.rx = none ∧ t.rd F.TRS_STAT_RX_HALF = s.rd F.TRS_STAT_RX_HALF ∧
        t.rd F.TRS_STAT_MIRROR_LATE = satInc 16 (s.rd F.TRS_STAT_MIRROR_LATE) ∧ SameMem s t))

/-! ### SEC's mailboxes, services and restarts (14) -/

/-- A mailbox takes its owner's requests, 16 at most; the oldest one is served by the service of its code, which answers with its status
and value; a service that only Secure mailboxes have denies a Normal request; a hung request completes with SERVICE_UNAVAILABLE and its
service restarts alone; while the core restarts Normal requests complete with SERVICE_UNAVAILABLE and Secure ones wait. -/
def Obligations.SecServesRequests : Prop :=
  (∀ (s : State) (m : Master) (n : Fin 8) (a : Nat), s.clkOf m = true →
    (4 ≤ n.val ∨ (∃ h : n.val < 4, s.ownsMbox m ⟨n.val, h⟩ = false) → Does (.secMboxReq m n a) s (fun t => t = s)) ∧
    (∀ h : n.val < 4, s.ownsMbox m ⟨n.val, h⟩ = true →
      let b : Fin 4 := ⟨n.val, h⟩
      let l := vget s.sec.queues b
      (16 ≤ l.length → Does (.secMboxReq m n a) s (fun t => t.flag F.SEC_MBOX_STAT_OVF n.val = true ∧ t.sec = s.sec ∧ SameMem s t)) ∧
      (l.length < 16 → s.Serves (.mbox (mboxWorld b)) false a 64 → Does (.secMboxReq m n a) s (fun t => ∃ u, ReadOnly s u ∧
        t = (u.setQueue b (l ++ [⟨a, s.mem.readBytes a 64⟩])).settleBox b)) ∧
      (l.length < 16 → ∀ u r, s.fabRead (.mbox (mboxWorld b)) a 64 = (u, r) →
        (r.st ≠ 0 → Does (.secMboxReq m n a) s (fun t => t = u)) ∧
        (r.st = 0 → Does (.secMboxReq m n a) s (fun t => t = (u.setQueue b (l ++ [⟨a, r.data⟩])).settleBox b))))) ∧
  (∀ (s : State) (n : Fin 4) (c : Instr) (code : Nat), s.mainClk = true →
    (c, code) ∈ [(.hash n, 1), (.verify n, 2), (.wrap n, 3), (.unwrap n, 4), (.quote n, 5), (.lockerSeal n, 6), (.lockerFree n, 7),
      (.bindCabinet n, 8), (.counterRead n, 9), (.counterCommit n, 10), (.logRead n, 11)] →
    (s.sec.restarting = true ∨ bit s.sec.down code = true ∨ s.flag F.SEC_STATUS_HALTED = true ∨
      (∀ q, (vget s.sec.queues n).head? = some q → q.code ≠ code) → Does c s (fun t => t = s)) ∧
    (∀ q rest, s.sec.restarting = false → bit s.sec.down code = false → s.flag F.SEC_STATUS_HALTED = false →
      vget s.sec.queues n = q :: rest → q.code = code →
      let base := s.setQueue n rest
      let answers := fun (x : SvcRes) (t : State) => t = (x.s.respond n q x.st x.value).settleBox n
      (mboxWorld n = false → code ∈ [3, 4, 6, 7, 8, 10] → Does c s (answers ⟨base, svDENIED_WORLD, 0⟩)) ∧
      (mboxWorld n = true ∨ code ∈ [1, 2, 5, 9, 11] →
        (code = 1 → ∀ u x, base.argRead n (q.arg 0 8) (q.arg 8 4) = (u, x) →
          Does c s (answers (match x with
            | some l => u.result n (q.arg 12 8) (sha512 l) 64
            | none => ⟨u, svBAD_REQUEST, 0⟩))) ∧
        (code = 2 → ∀ u v w key dig sig, base.argRead n (q.arg 0 8) 528 = (u, some key) → u.argRead n (q.arg 8 8) 64 = (v, some dig) →
          v.argRead n (q.arg 16 8) 512 = (w, some sig) →
          Does c s (answers ⟨w, if blobOk key = false then svBAD_REQUEST else if sigOk key dig sig = true then svOK else svVERIFY_FAIL, 0⟩)) ∧
        (code = 3 ∨ code = 4 →
          let len := q.arg 8 4
          let wrong := len = 0 ∨ 4096 < len ∨ (code = 4 ∧ (len % 8 ≠ 0 ∨ len < 16))
          (wrong → Does c s (answers ⟨base, svBAD_REQUEST, 0⟩)) ∧
          (¬ wrong → s.flag F.SEC_STATUS_NO_IDENTITY = true → Does c s (answers ⟨base, svNO_IDENTITY, 0⟩)) ∧
          (¬ wrong → s.flag F.SEC_STATUS_NO_IDENTITY = false → ∀ u v l label,
            base.argRead n (q.arg 0 8) len = (u, some l) → u.argRead n (q.arg 12 8) 32 = (v, some label) →
            Does c s (answers (match (if code = 3 then some (keyWrap (wrapKey label) l) else keyUnwrap (wrapKey label) l) with
              | some o => v.result n (q.arg 20 8) o o.length
              | none => ⟨v, svBAD_REQUEST, 0⟩)))) ∧
        (code = 5 → (s.flag F.SEC_STATUS_NO_IDENTITY = true → Does c s (answers ⟨base, svNO_IDENTITY, 0⟩)) ∧
          (s.flag F.SEC_STATUS_NO_IDENTITY = false → ∀ u nonce, base.argRead n (q.arg 0 8) 32 = (u, some nonce) →
            let m := u.quoteHeader nonce ++ u.logBytes
            let v : State := { u with freeCtr := u.freeCtr + 1 }
            let sig := signWith Config.identityModulus Config.identityExponent (sha512 m) (beBytes (Config.freeRandom u.freeCtr) 64)
            Does c s (answers (if q.arg 16 4 < m.length + 512 then ⟨u, svBUFFER_SHORT, 0⟩
              else v.result n (q.arg 8 8) (m ++ sig) (m.length + 512))))) ∧
        (code = 6 →
          let at_ := q.arg 0 8
          let size := q.arg 8 4
          let part := q.arg 12 4
          (s.lkrOn = false ∨ s.lockerOk at_ size part = false → ∃ st, Does c s (answers ⟨base, st, 0⟩) ∧ st ∈ [svBAD_REQUEST, svLOCKER_FULL]) ∧
          (s.lkrOn = true → (∀ k, k < 16 → s.flag F.SEC_LKR_BASE_VALID k = true) → Does c s (answers ⟨base, svLOCKER_FULL, 0⟩)) ∧
          (s.lkrOn = true → s.lockerOk at_ size part = true → (s.sec.log.length < 256) →
            ∀ l, (List.range 16).find? (fun k => !s.flag F.SEC_LKR_BASE_VALID k) = some l →
            Does c s (fun t => t.flag F.SEC_LKR_BASE_VALID l = true ∧ t.lockerSpan l = (at_, at_ + part * 4096, at_ + size * 4096) ∧
              ∃ d, t.sec.log = s.sec.log ++ [⟨0xF0, l, 0, 0, d⟩]))) ∧
        (code = 7 →
          let l := q.arg 0 4
          (16 ≤ l ∨ s.flag F.SEC_LKR_BASE_VALID l = false → Does c s (answers ⟨base, svBAD_REQUEST, 0⟩)) ∧
          (l < 16 → s.flag F.SEC_LKR_BASE_VALID l = true →
            let bound := ∃ k, k < 8 ∧ s.flag F.SEC_CAB_LKR_VALID k = true ∧ s.rd F.SEC_CAB_LOCKER k = l
            (bound → Does c s (answers ⟨base, svLOCKER_BUSY, 0⟩)) ∧
            (¬ bound → Does c s (answers ⟨(({ base with
              mem := s.mem.wipe (s.lockerSpan l).1 ((s.lockerSpan l).2.2 - (s.lockerSpan l).1) } : State).put F.SEC_LKR_BASE_VALID l 0 0).measureLog
                ⟨0xF1, l, 0, 0, []⟩, svOK, l⟩)))) ∧
        (code = 8 →
          let k := q.arg 0 4
          let ok := n.val = 2 ∧ k < 8 ∧ q.arg 4 4 < 2 ∧ q.arg 8 4 < 2 ∧ q.arg 12 4 < 16
          (¬ ok → Does c s (answers ⟨base, svBAD_REQUEST, 0⟩)) ∧
          (ok → s.flag F.SCH_CAB_CFG_EN k = false → Does c s (fun t => (∃ u, answers ⟨u, svOK, 0⟩ t) ∧ t.rd F.SEC_CAB_SECURE k = q.arg 4 4 ∧
            t.rd F.SEC_CAB_LKR_VALID k = q.arg 8 4 ∧ t.rd F.SEC_CAB_LOCKER k = q.arg 12 4))) ∧
        (code = 9 → Does c s (answers (if s.rpmbOn = true
          then base.result n (q.arg 0 8) ((List.range 32).flatMap (fun k => leBytes (s.mem.readNat (rpmbBase + 4 * k) 4) 4)) 128
          else ⟨base, svNO_RPMB, 0⟩))) ∧
        (code = 10 →
          let k := q.arg 0 4
          (32 ≤ k → Does c s (answers ⟨base, svBAD_REQUEST, 0⟩)) ∧
          (k < 32 → s.rpmbOn = false → Does c s (answers ⟨base, svNO_RPMB, 0⟩)) ∧
          (k < 32 → s.rpmbOn = true → s.commitTo k = none → Does c s (answers ⟨base, svOK, 0⟩)) ∧
          (k < 32 → s.rpmbOn = true → ∀ v, s.commitTo k = some v →
            Does c s (answers ⟨(if s.rollback k < v then { base with mem := s.mem.writeBytes (rpmbBase + 4 * k) (leBytes v 4) } else base),
              svOK, 0⟩))) ∧
        (code = 11 → Does c s (answers (if q.arg 8 4 < s.logBytes.length then ⟨base, svBUFFER_SHORT, 0⟩
          else if s.logBytes.isEmpty = true then ⟨base, svOK, 0⟩
          else base.result n (q.arg 0 8) s.logBytes s.logBytes.length)))))) ∧
  (∀ (s : State) (n : Fin 4) (q : SecReq) (rest : List SecReq),
    let m := Master.mbox (mboxWorld n)
    (Served s n 1 q rest → (q.arg 8 4 = 0 ∨ s.Serves m false (q.arg 0 8) (q.arg 8 4)) → s.Serves m true (q.arg 12 8) 64 →
      Does (.hash n) s (fun t => ∃ v, Stored (runOf (q.arg 12 8) (sha512 (s.mem.readBytes (q.arg 0 8) (q.arg 8 4)))) s v ∧
        Answered n q rest v svOK 64 t)) ∧
    (Served s n 2 q rest → s.Serves m false (q.arg 0 8) 528 → s.Serves m false (q.arg 8 8) 64 → s.Serves m false (q.arg 16 8) 512 →
      blobOk (s.mem.readBytes (q.arg 0 8) 528) = true →
      Does (.verify n) s (fun t => ∃ v, SameMem s v ∧ Answered n q rest v
        (if sigOk (s.mem.readBytes (q.arg 0 8) 528) (s.mem.readBytes (q.arg 8 8) 64) (s.mem.readBytes (q.arg 16 8) 512) = true then svOK
          else svVERIFY_FAIL) 0 t)) ∧
    (s.flag F.SEC_STATUS_NO_IDENTITY = false → 0 < q.arg 8 4 → q.arg 8 4 ≤ 4096 → s.Serves m false (q.arg 0 8) (q.arg 8 4) →
      s.Serves m false (q.arg 12 8) 32 →
      let l := s.mem.readBytes (q.arg 0 8) (q.arg 8 4)
      let key := wrapKey (s.mem.readBytes (q.arg 12 8) 32)
      (Served s n 3 q rest → s.Serves m true (q.arg 20 8) (keyWrap key l).length →
        Does (.wrap n) s (fun t => ∃ v, Stored (runOf (q.arg 20 8) (keyWrap key l)) s v ∧
          Answered n q rest v svOK (keyWrap key l).length t)) ∧
      (Served s n 4 q rest → q.arg 8 4 % 8 = 0 → 16 ≤ q.arg 8 4 → (∀ j, j ≤ 4096 → s.Serves m true (q.arg 20 8) j) →
        Does (.unwrap n) s (fun t => ∃ v,
          (∀ o, keyUnwrap key l = some o → Stored (runOf (q.arg 20 8) o) s v ∧ Answered n q rest v svOK o.length t) ∧
          (keyUnwrap key l = none → SameMem s v ∧ Answered n q rest v svBAD_REQUEST 0 t)))) ∧
    (Served s n 5 q rest → s.flag F.SEC_STATUS_NO_IDENTITY = false → s.Serves m false (q.arg 0 8) 32 →
      let b := s.quoteHeader (s.mem.readBytes (q.arg 0 8) 32) ++ s.logBytes
      b.length + 512 ≤ q.arg 16 4 → s.Serves m true (q.arg 8 8) (b.length + 512) →
      Does (.quote n) s (fun t => ∃ v x, Stored (runOf (q.arg 8 8) (b ++ signWith Config.identityModulus Config.identityExponent (sha512 b)
        (beBytes (Config.freeRandom x) 64))) s v ∧ Answered n q rest v svOK (b.length + 512) t)) ∧
    (Served s n 6 q rest → s.lkrOn = true → s.lockerOk (q.arg 0 8) (q.arg 8 4) (q.arg 12 4) = true → s.sec.log.length < 256 →
      ∀ l, l < 16 → s.flag F.SEC_LKR_BASE_VALID l = false → (∀ k, k < l → s.flag F.SEC_LKR_BASE_VALID k = true) →
      Does (.lockerSeal n) s (fun t => t.flag F.SEC_LKR_BASE_VALID l = true ∧
        t.lockerSpan l = (q.arg 0 8, q.arg 0 8 + q.arg 12 4 * 4096, q.arg 0 8 + q.arg 8 4 * 4096) ∧
        ∃ d, t.sec.log = s.sec.log ++ [⟨0xF0, l, 0, 0, d⟩])) ∧
    (Served s n 7 q rest → q.arg 0 4 < 16 → s.flag F.SEC_LKR_BASE_VALID (q.arg 0 4) = true →
      (∀ k, k < 8 → s.flag F.SEC_CAB_LKR_VALID k = true → s.rd F.SEC_CAB_LOCKER k ≠ q.arg 0 4) →
      Does (.lockerFree n) s (fun t => ∃ v, v.flag F.SEC_LKR_BASE_VALID (q.arg 0 4) = false ∧
        v.mem = s.mem.wipe (s.lockerSpan (q.arg 0 4)).1 ((s.lockerSpan (q.arg 0 4)).2.2 - (s.lockerSpan (q.arg 0 4)).1) ∧
        (s.sec.log.length < 256 → v.sec.log = s.sec.log ++ [⟨0xF1, q.arg 0 4, 0, 0, []⟩]) ∧ Answered n q rest v svOK (q.arg 0 4) t)) ∧
    (Served s n 8 q rest → n.val = 2 → q.arg 0 4 < 8 → q.arg 4 4 < 2 → q.arg 8 4 < 2 → q.arg 12 4 < 16 →
      s.flag F.SCH_CAB_CFG_EN (q.arg 0 4) = false →
      Does (.bindCabinet n) s (fun t => ∃ v, v.rd F.SEC_CAB_SECURE (q.arg 0 4) = q.arg 4 4 ∧ v.rd F.SEC_CAB_LKR_VALID (q.arg 0 4) = q.arg 8 4 ∧
        v.rd F.SEC_CAB_LOCKER (q.arg 0 4) = q.arg 12 4 ∧ SameMem s v ∧ Answered n q rest v svOK 0 t)) ∧
    (s.flag F.SEC_STATUS_ROLLBACK_ABSENT = false → s.flag F.SEC_STATUS_ROLLBACK_FAILED = false →
      (Served s n 9 q rest → s.Serves m true (q.arg 0 8) 128 →
        Does (.counterRead n) s (fun t => ∃ v, Stored (runOf (q.arg 0 8) ((List.range 32).flatMap
          (fun k => leBytes (s.mem.readNat (rpmbBase + 4 * k) 4) 4))) s v ∧ Answered n q rest v svOK 128 t)) ∧
      (Served s n 10 q rest → q.arg 0 4 < 32 →
        ∀ v, (q.arg 0 4 = 31 ∧ s.sec.serial = some v) ∨
          (q.arg 0 4 ≠ 31 ∧ (q.arg 0 4, v) ∈ s.sec.svns ∧ ∀ p ∈ s.sec.svns, p.1 = q.arg 0 4 → v ≤ p.2) →
        Does (.counterCommit n) s (fun t => ∃ w, w.mem = (if s.mem.readNat (rpmbBase + 4 * q.arg 0 4) 4 < v
          then s.mem.writeBytes (rpmbBase + 4 * q.arg 0 4) (leBytes v 4) else s.mem) ∧ Answered n q rest w svOK 0 t))) ∧
    (Served s n 11 q rest → s.sec.log ≠ [] → s.logBytes.length ≤ q.arg 8 4 → s.Serves m true (q.arg 0 8) s.logBytes.length →
      Does (.logRead n) s (fun t => ∃ v, Stored (runOf (q.arg 0 8) s.logBytes) s v ∧ Answered n q rest v svOK s.logBytes.length t))) ∧
  (∀ s : State, s.mainClk = true →
    (∀ n q rest, vget s.sec.queues n = q :: rest → s.sec.restarting = false → bit s.sec.down q.code = false → q.bad = false →
      Does (.serviceHang n) s (fun t => t.flag F.SEC_ERR_SVC_RESTART = true ∧ .irq "SEC_SVC_RESTART" q.code ∈ t.out ∧
        t.sec.restarting = false ∧ t.sec.down = Nat.lor s.sec.down (2 ^ q.code) ∧
        ∀ b, mboxWorld b = false → ∀ p ∈ vget t.sec.queues b, p.code ≠ q.code)) ∧
    (∀ code : Fin 12, (bit s.sec.down code.val = true → s.sec.restarting = false → Does (.serviceRestartDone code) s (fun t =>
        t.sec.down = s.sec.down - 2 ^ code.val ∧ bit t.sec.down code.val = false)) ∧
      (bit s.sec.down code.val = false ∨ s.sec.restarting = true → Does (.serviceRestartDone code) s (fun t => t = s))) ∧
    (∀ busy recent, (s.flag F.SEC_STATUS_HALTED = true → Does (.secCoreWatchdog busy recent) s (fun t => t = s)) ∧
      (s.flag F.SEC_STATUS_HALTED = false → Does (.secCoreWatchdog busy recent) s (fun t =>
        t.flag F.SEC_ERR_CORE_RESTART = true ∧ t.rd F.SEC_STATUS_RESTARTS = satInc 8 (s.rd F.SEC_STATUS_RESTARTS) ∧
        t.sec.restarting = true ∧
        let halts := recent && decide (2 ≤ s.rd F.SEC_STATUS_RESTARTS)
        t.flag F.SEC_STATUS_HALTED = halts ∧ (halts = true → .irq "SEC_HALT" 0 ∈ t.out) ∧
        ∀ b : Fin 4, vget t.sec.queues b = (if halts = true ∨ mboxWorld b = false then []
          else if busy.getLsbD b.val then (vget s.sec.queues b).tail else vget s.sec.queues b)))) ∧
    (s.sec.restarting = true → s.flag F.SEC_STATUS_HALTED = false → Does .secWarmRestartDone s (fun t =>
      t.sec.restarting = false ∧ t.sec.down = 0)) ∧
    (s.sec.restarting = false ∨ s.flag F.SEC_STATUS_HALTED = true → Does .secWarmRestartDone s (fun t => t = s)))

/-! ### Flash and the eMMC (16, 19) -/

/-- The xSPI controller takes commands of SEC and of Secure island cores while it is idle and enabled, never a program or erase of
the key area or the recovery slot; a completed read fills the buffer, a program clears bits, an erase sets the unit to ones. The
eMMC controller takes commands of SEC, SCH and Secure island cores, and RPMB only from SEC; completion moves the blocks. -/
def Obligations.StorageControllers : Prop :=
  ∀ s : State, s.pd 59 = true →
    (∀ (m : Master) (c : Instr) (kind cmd : Nat),
      (m = .sec ∧ s.mainClk = true ∨ (∃ k, m = .isl k) ∧ s.islClk = true ∧ s.isl.halted = false ∧ s.pd 61 = true) →
      (c, kind) ∈ [(.xspiRead m cmd, 0), (.xspiWrite m cmd, 1), (.xspiProgram m cmd, 2), (.xspiErase m cmd, 3)] →
      let a := s.rd F.XSPI_ADDR_ADDR
      let u := 2 ^ s.rd F.XSPI_ERASE_UNIT
      let n := s.rd F.XSPI_LEN_LEN
      let protected_ := (kind = 2 ∧ 0 < n ∧ a < 0x420000 ∧ 0x10000 < a + n) ∨ (kind = 3 ∧ a / u * u < 0x420000 ∧ 0x10000 < a / u * u + u)
      let allowed := m = .sec ∨ ∃ k, m = .isl k ∧ vget s.isl.world k = true
      let idle := s.flag F.XSPI_STAT_BUSY = false ∧ s.flag F.XSPI_CFG_EN = true
      (¬ allowed → Does c s (fun t => t.flag F.XSPI_STAT_REJ_MASTER = true ∧ t.rd F.XSPI_STAT_BUSY = s.rd F.XSPI_STAT_BUSY ∧ SameMem s t)) ∧
      (allowed → ¬ idle → Does c s (fun t => t = s.answer 0 [])) ∧
      (allowed → idle → protected_ → Does c s (fun t => t.flag F.XSPI_STAT_PROT_REJ = true ∧ t.flag F.XSPI_STAT_DONE = true ∧
        t.flag F.XSPI_STAT_BUSY = false ∧ SameMem s t)) ∧
      (allowed → idle → ¬ protected_ → Does c s (fun t => t.flag F.XSPI_STAT_BUSY = true ∧ t.rd F.XSPI_CMD_KIND = kind ∧
        t.rd F.XSPI_CMD_OPCODE = cmd % 256 ∧ SameMem s t))) ∧
    (s.mainClk = true → (s.flag F.XSPI_STAT_BUSY = false → Does .xspiDone s (fun t => t = s)) ∧
      (s.flag F.XSPI_STAT_BUSY = true →
        let a := flashBase + s.rd F.XSPI_ADDR_ADDR % 2 ^ 29
        let n := min 256 (s.rd F.XSPI_LEN_LEN)
        let u := 2 ^ s.rd F.XSPI_ERASE_UNIT
        let e := flashBase + s.rd F.XSPI_ADDR_ADDR % 2 ^ 29 / u * u
        let kind := s.rd F.XSPI_CMD_KIND
        Does .xspiDone s (fun t => t.flag F.XSPI_STAT_BUSY = false ∧ t.flag F.XSPI_STAT_DONE = true ∧
          (kind = 0 → SameMem s t ∧ ∀ i, 4 * i + 4 ≤ n → t.rd F.XSPI_DATA_DATA i = s.mem.readNat (a + 4 * i) 4) ∧
          (kind = 1 → SameMem s t) ∧
          (kind = 2 → SameMemBut (fun x => a ≤ x ∧ x < a + n) s t ∧
            ∀ i, i < n → t.mem.read (a + i) = s.mem.read (a + i) &&& byteOf (s.rd F.XSPI_DATA_DATA (i / 4)) (i % 4)) ∧
          (kind = 3 → SameMemBut (fun x => e ≤ x ∧ x < e + u) s t ∧ ∀ i, i < u → t.mem.read (e + i) = 0xFF)))) ∧
    (∀ (m : Master) (cmd : Nat),
      ((m = .sec ∨ m = .sch) ∧ s.mainClk = true ∨ (∃ k, m = .isl k) ∧ s.islClk = true ∧ s.isl.halted = false ∧ s.pd 61 = true) →
      let allowed := m = .sec ∨ m = .sch ∨ ∃ k, m = .isl k ∧ vget s.isl.world k = true
      let idle := s.flag F.EMMC_STAT_BUSY = false ∧ s.flag F.EMMC_CFG_EN = true
      let rpmb := selectsRpmb (bits cmd 29 24) (s.rd F.EMMC_ARG_ARG) = true ∨ (bit cmd 23 = true ∧ s.boot.part = 3)
      (¬ (allowed ∧ idle) → Does (.emmcCommand m cmd) s (fun t => t = s.answer 0 [])) ∧
      (allowed → idle → m ≠ .sec → rpmb → Does (.emmcCommand m cmd) s (fun t => t.flag F.EMMC_STAT_REJ = true ∧
        t.flag F.EMMC_STAT_BUSY = false ∧ SameMem s t)) ∧
      (allowed → idle → m = .sec ∨ ¬ rpmb → Does (.emmcCommand m cmd) s (fun t => t.flag F.EMMC_STAT_BUSY = true ∧
        t.rd F.EMMC_CMD_INDEX = bits cmd 29 24 ∧ t.rd F.EMMC_CMD_DATA = bits cmd 23 23 ∧ t.rd F.EMMC_CMD_WRITE = bits cmd 22 22 ∧
        SameMem s t))) ∧
    (s.mainClk = true → ∀ timeout cmdCrc dataCrc,
      (s.flag F.EMMC_STAT_BUSY = false → Does (.emmcDone timeout cmdCrc dataCrc) s (fun t => t = s)) ∧
      (s.flag F.EMMC_STAT_BUSY = true →
        let ix := s.rd F.EMMC_CMD_INDEX
        let arg := s.rd F.EMMC_ARG_ARG
        let n := 512 * s.rd F.EMMC_BLKCNT_CNT
        let dma := s.rd F.EMMC_DMA_ADDR / 64 * 64
        let good := timeout = false ∧ cmdCrc = false
        let selects := ix = 6 ∧ bits arg 23 16 = 179
        Does (.emmcDone timeout cmdCrc dataCrc) s (fun t => t.flag F.EMMC_STAT_BUSY = false ∧ t.flag F.EMMC_STAT_DONE = true ∧
          (timeout = true → t.flag F.EMMC_STAT_TIMEOUT = true) ∧ (cmdCrc = true → t.flag F.EMMC_STAT_CMD_CRC = true) ∧
          (dataCrc = true → t.flag F.EMMC_STAT_DATA_CRC = true) ∧
          (¬ good → SameMem s t ∧ t.boot = s.boot) ∧
          (good → selects → t.boot.part = bits arg 10 8 ∧ SameMem s t) ∧
          (good → ¬ selects → t.boot = s.boot ∧ (s.flag F.EMMC_CMD_DATA = false → SameMem s t)) ∧
          (good → s.flag F.EMMC_CMD_DATA = true → s.boot.part = 0 →
            (ix ∈ [24, 25] → s.flag F.EMMC_CMD_WRITE = true → 0 < n →
              (s.region dma ≠ .outbound → (s.fabRead (.port 38) dma n).2.data.length = n → t.mem = s.mem.writeBytes (emmcBase + arg * 512) (s.fabRead (.port 38) dma n).2.data)) ∧
            (ix ∈ [17, 18] → s.flag F.EMMC_CMD_WRITE = false → 0 < n →
              t.mem = (s.fabWrite (.port 38) dma (s.mem.readBytes (emmcBase + arg * 512) n)).1.mem)))))

/-! ### Start-up (16, 17) -/

/-- POWER_GOOD starts SEC: a wrong root key or no candidate that passes halts it at stage 9, else PMC is released for the candidate
under way; the island is released with its images written and its record's values; training brings LPDDR5X or withholds the main
path; each manifest entry launches or is reported; the recovery write checks the host's slot before slot A takes it. -/
def Obligations.StartUpSequence : Prop :=
  ∀ s : State,
    (s.pmc.good = true ∨ s.pmc.hold = true → Does .powerGoodRise s (fun t => t = { s with
      pmc := { s.pmc with good := true } })) ∧
    (s.pmc.good = false → s.pmc.hold = false → s.pmc.run = false →
      (sha512 (s.rootKey.take 516) ≠ beBytes Config.rootKeyDigest 64 → Does .powerGoodRise s (fun t =>
        t.stage = 9 ∧ t.rd F.BOOT_STATUS_FAIL = bfROOT_KEY ∧ t.pmc.good = true ∧ t.pmc.run = false)) ∧
      (sha512 (s.rootKey.take 516) = beBytes Config.rootKeyDigest 64 → Does .powerGoodRise s (fun t => t.pmc.good = true ∧
        ((t.pmc.run = false ∧ t.stage = 9 ∧ t.boot.cur = none) ∨
          (t.pmc.run = true ∧ ∃ c, t.boot.cur = some c ∧ t.rd F.BOOT_STATUS_SLOT = c.slot ∧ c.slot ≤ 2 ∧
            t.stage = (if c.slot = 2 then 8 else 3)))))) ∧
    (s.pmc.good = true → s.pmc.hold = false → Does .pllFLock s (fun t => t.pmc.pllF = true ∧
      (t.fclk = true ↔ s.pd 61 = true ∧ s.pmc.dip = false ∧ bit s.pmc.unlocked 0 = false) ∧ SameMem s t)) ∧
    (s.pmc.good = false ∨ s.pmc.hold = true → Does .pllFLock s (fun t => t = s)) ∧
    (s.mainClk = true → ∀ hyper,
      (s.boot.cur = none ∨ s.stage ≠ 3 ∨ s.pmc.run = false → Does (.islandRelease hyper) s (fun t => t = s)) ∧
      (∀ c, s.boot.cur = some c → s.stage = 3 → c.slot < 2 → s.pmc.run = true →
        let released := fun (t : State) => t.stage = 4 ∧ t.rd F.PMC_CAUSE_SLOT = c.slot ∧ t.boot.open_ = true ∧
          t.flag F.MEM_CFG_EN = true
        (s.boot.fromPark = true → Does (.islandRelease hyper) s (fun t => released t ∧ t.isl = s.isl ∧ SameMem s t)) ∧
        (s.boot.fromPark = false →
          let u := (s.takeImages (flashBase + c.base) flashEnd ((s.slotTable (flashBase + c.base) flashEnd).getD []) [5, 0x12, 0x13]).1
          let code := (s.takeImages (flashBase + c.base) flashEnd ((s.slotTable (flashBase + c.base) flashEnd).getD []) [5, 0x12, 0x13]).2
          (code ≠ 0 → Does (.islandRelease hyper) s (fun t => t = (({ u with
            pmc := { u.pmc with run := false } } : State).bootFail code).tryCands s.boot.cands)) ∧
          (code = 0 → Does (.islandRelease hyper) s (fun t => released t ∧ t.isl.running = true ∧
            t.flag F.ISL_PAIR_STAT_MODE = s.cfgFlag 1 ∧ t.isl.privBase = s.cfg 40 2 ∧
            t.isl.privSize = (if s.cfgFlag 1 = true then 0 else s.cfg 42 2) ∧ t.arb.logBase = s.cfg 36 4 ∧ t.arb.patrolBase = s.cfg 32 4 ∧
            (hyper = false → t.rd F.BOOT_STATUS_FAIL = bfHYPERRAM)))))) ∧
    (s.mainClk = true → s.pmc.run = true → s.pmc.trained = false → s.stage ≠ 8 →
      Does (.lpddr5xTrainingDone true) s (fun t => t.pmc.trained = true ∧ (∀ d, 33 ≤ d → d ≤ 40 → t.pd d = true) ∧ SameMem s t) ∧
      Does (.lpddr5xTrainingDone false) s (fun t => t.rd F.BOOT_STATUS_FAIL = bfLPDDR ∧ t.rd F.ARB_STATUS_STATE = 0 ∧
        t.pmc = { s.pmc with trainFail := true } ∧ SameMem s t)) ∧
    (s.mainClk = true → s.pmc.trained = true → ∀ ok, Does (.lpddr5xTrainingDone ok) s (fun t => t = s)) ∧
    (s.mainClk = true → ∀ emmc,
      let i := s.boot.launched
      let ready := s.boot.open_ = true ∧ i < s.manifestCount ∧ s.mainReleased = true ∧ s.pmc.trained = true ∧ s.pd 31 = true
      (¬ ready → Does (.manifestLaunch emmc) s (fun t => t = s)) ∧
      (ready → emmc = false ∨ s.cfgFlag 6 = false → Does (.manifestLaunch emmc) s (fun t => t.boot.launched = s.manifestCount ∧
        t.rd F.BOOT_STATUS_FAIL = bfEMMC ∧ t.cabs = s.cabs ∧ SameMem s t)) ∧
      (ready → emmc = true → s.cfgFlag 6 = true → i < 8 → (s.launchEntry i).2 = 0 → Does (.manifestLaunch emmc) s (fun t =>
        t.boot.launched = i + 1 ∧ ∃ c, c < 8 ∧ t.rd F.SCH_CAB_CT_TRIG c = fieldAt (s.manifestEntry i) 129 1 % 8 ∧
          t.rd F.SCH_CAB_CT_ENTRIES c = fieldAt (s.manifestEntry i) 130 1 % 128 ∧
          t.rd F.SCH_CAB_CT_ADDR c = fieldAt (s.manifestEntry i) 160 8 % 2 ^ 48)) ∧
      (ready → emmc = true → s.cfgFlag 6 = true → i < 8 → let u := (s.launchEntry i).1
        let st := (s.launchEntry i).2
        Does (.manifestLaunch emmc) s (fun t => t.boot.launched = i + 1 ∧ t.cabs = u.cabs ∧ SameMem u t ∧
        (st ≠ 0 → t.rd F.BOOT_STATUS_FAIL = bfMODEL ∧ t.rd F.BOOT_STATUS_ENTRY = i ∧ .refusal i 0xFF st ∈ t.out)))) ∧
    (s.mainClk = true → ∀ flashOk,
      let b := 0x80000000
      let n := s.rd F.BOOT_RCV_LENGTH * 64
      (s.stage ≠ 8 ∨ s.rd F.BOOT_RCV_RESULT ≠ 1 → Does (.recoveryWrite flashOk) s (fun t => t = s)) ∧
      (s.stage = 8 → s.rd F.BOOT_RCV_RESULT = 1 →
        (s.slotTable b (b + n) = none → Does (.recoveryWrite flashOk) s (fun t => t.rd F.BOOT_RCV_RESULT = 3 ∧ SameMem s t)) ∧
        (∀ table, s.slotTable b (b + n) = some table →
          let code := (s.takeImages b (b + n) table slotTypes).2
          (s.slotComplete b table = false ∨ code ≠ 0 → Does (.recoveryWrite flashOk) s (fun t => t.rd F.BOOT_RCV_RESULT = 3 ∧ SameMem s t)) ∧
          (s.slotComplete b table = true → code = 0 → flashOk = false → Does (.recoveryWrite flashOk) s (fun t =>
            t.rd F.BOOT_RCV_RESULT = 4 ∧ SameMem s t)) ∧
          (s.slotComplete b table = true → code = 0 → flashOk = true →
            let a := match s.dirUsed with | some k => fieldAt (s.dirCopy k) 8 4 | none => 0x420000
            0x2000 ≤ a → Does (.recoveryWrite flashOk) s (fun t => t.rd F.BOOT_RCV_RESULT = 2 ∧
              (∀ k, k < n → t.mem.read (flashBase + a + k) = s.mem.read (b + k)) ∧
              ∃ k, k < 2 ∧ dirOk (t.dirCopy k) = true ∧ fieldAt (t.dirCopy k) 8 4 = a ∧ fieldAt (t.dirCopy k) 16 1 = 0 ∧
                fieldAt (t.dirCopy k) 17 1 = 0xFF)))))

/-! ### Power requests, the ladder and wakes (17) -/

/-- The request at the head is served once PMC has been released: a check that fails refuses it and changes no domain; DOMAIN_ON powers
what the domain needs, DOMAIN_OFF what needs it, once the cabinets there have stored their contexts; STATE moves on the ladder; a
device reset loses LPDDR5X. Wakes and the automatic entry into IDLE follow their enables. -/
def Obligations.PowerRequestsAndWakes : Prop :=
  ∀ s : State,
    (∀ c op, (c, op) ∈ [(Instr.domainOn, 1), (.domainOff, 2), (.state, 3), (.deviceReset, 4)] →
      (s.pmc.run = false ∨ (∀ q, s.pmc.queue.head? = some q → q.op ≠ op) → Does c s (fun t => t = s)) ∧
      (∀ q rest, s.pmc.run = true → s.pmc.queue = q :: rest → q.op = op → s.reqStatus q ≠ 0 → Does c s (fun t =>
        t = (s.reqDone q (s.reqStatus q)).reqSettle 9 ∧ (∀ d, t.pd d = s.pd d) ∧ t.pstate = s.pstate ∧ SameMem s t))) ∧
    (∀ q rest, s.pmc.run = true → s.pmc.queue = q :: rest → s.reqStatus q = 0 →
      (q.op = 1 → s.pstate ≤ 2 →
        ((upSet q.target).contains 33 = false ∨ s.pmc.trained = true → Does .domainOn s (fun t => t.pstate = 0 ∧
          (∀ d ∈ upSet q.target, s.fencedPd d = false → t.pd d = true) ∧ ∀ d, s.pd d = true → t.pd d = true)) ∧
        ((upSet q.target).contains 33 = true → s.pmc.trained = false → Does .domainOn s (fun t => t = s.raise q.who ∧ t.pstate = 0 ∧
          t.pmc.queue = s.pmc.queue))) ∧
      (q.op = 2 →
        let l := s.reqSet q
        let stored := ∀ c ∈ s.cabsOf l, s.residents c = []
        (stored → Does .domainOff s (fun t => ∀ d, d < 64 → t.pd d = (if d ∈ l then false else s.pd d))) ∧
        (¬ stored → Does .domainOff s (fun t => t.pmc = s.pmc ∧ (∀ d, t.pd d = s.pd d) ∧ ∀ c ∈ s.cabsOf l, (t.cab c).resting = true))) ∧
      (q.op = 3 →
        let waits := q.target = 2 ∧ ∃ c, (s.cab c).live = true ∧ (s.cab c).degraded = false ∧ s.residents c ≠ []
        (q.target = s.pstate → Does .state s (fun t => t.pstate = s.pstate ∧ ∀ d, t.pd d = s.pd d)) ∧
        (q.target < s.pstate → s.pstate ≤ 3 → Does .state s (fun t => t.pstate = q.target)) ∧
        (s.pstate < q.target → ¬ waits → Does .state s (fun t => t.pstate = q.target ∧ t.rd F.PMC_STATE_TARGET = q.target ∧
          (∀ d, d < 64 → t.pd d = (if allowed q.target d = true then s.pd d else false)) ∧
          (4 ≤ q.target → ∀ a, 0x100000000 ≤ a → a < 0x4000000000 → t.mem.read a = 0))) ∧
        (s.pstate < q.target → waits → Does .state s (fun t => t.pstate = s.pstate ∧ t.rd F.PMC_STATE_TARGET = q.target ∧ t.pmc = s.pmc ∧
          ∀ d, t.pd d = s.pd d))) ∧
      (q.op = 4 → Does .deviceReset s (fun t => t.pstate = 0 ∧ t.rd F.PMC_CAUSE_RESET = 3 ∧ t.pmc.queue = [] ∧
        vget t.pmc.status q.bank = 0 ∧ ∀ a, 0x100000000 ≤ a → a < 0x4000000000 → t.mem.read a = 0))) ∧
    (let u := (List.finRange 8).foldl (fun (x : State) c => if (x.cab c).live then x.revive c else x) s
     let idle := s.flag F.PMC_CFG_AUTO_IDLE = true ∧ s.pmc.run = true ∧ s.pstate = 0 ∧ u.anyReady = false ∧
       ∀ k : Fin 16, ((u.eng (engId k.val)).st = .stopped ∨ (u.eng (engId k.val)).st = .fenced) ∧ (u.eng (engId k.val)).active = none
     (idle → Does .autoIdleEntry s (fun t => t.pstate = 1 ∧ t.cabs = s.cabs ∧ t.engines = s.engines ∧ (∀ d, t.pd d = s.pd d) ∧ SameMem s t)) ∧
     (¬ idle → Does .autoIdleEntry s (fun t => t = s))) ∧
    (let woken := fun (why : Nat) (t : State) => t.pstate = 0 ∧ t.rd F.PMC_CAUSE_WAKE = why ∧ t.pmc.queue = [] ∧
       t.rd F.PMC_CAUSE_RESET = (if s.pstate = 4 then 8 else 9)
     (∀ n : Fin 12, (4 ≤ s.pstate → bit (s.rd F.PMC_WAKE_CFG_CAN) n.val = true → Does (.canWake n) s (fun t => woken 1 t ∧
         t.rd F.PMC_CAUSE_CAN = n.val)) ∧
       (s.pstate < 4 ∨ bit (s.rd F.PMC_WAKE_CFG_CAN) n.val = false → Does (.canWake n) s (fun t => t = s))) ∧
     (s.flag F.PMC_WAKE_CFG_PIN_EN = true → 4 ≤ s.pstate → Does .wakeNWake s (woken 3)) ∧
     (s.flag F.PMC_WAKE_CFG_PIN_EN = true → s.pstate = 3 → Does .wakeNWake s (fun t => t.pstate = 0 ∧ t.rd F.PMC_CAUSE_RESET = 0x0A ∧
       t.rd F.PMC_CAUSE_WAKE = 3)) ∧
     (s.flag F.PMC_WAKE_CFG_PIN_EN = false ∨ s.pstate < 3 → Does .wakeNWake s (fun t => t = s)) ∧
     (let due := s.pstate = 4 ∧ s.flag F.PMC_WAKE_CFG_ITU_EN = true ∧ s.rd F.PMC_WAKE_ITU_COUNT ≤ s.itu
      (due → Does .ituWake s (woken 2)) ∧ (¬ due → Does .ituWake s (fun t => t = s))))

/-! ### Supply, thermal and clock monitors, and resets (17) -/

/-- Each monitor sets its bit of PMC_MON and raises the interrupt; a dip or a lost PLL gates the clocks it feeds; a failure that the
table names resets the device with its cause, and every reset but the power-on one keeps PD0; AVS moves by at most 10 mV in range. -/
def Obligations.MonitorsAndResets : Prop :=
  ∀ s : State,
    let mon := fun (b : Nat) (t : State) => t.regVal R.PMC_MON 0 0 = s.regVal R.PMC_MON 0 0 ||| 2 ^ b ∧ .irq "PMC_MON" b ∈ t.out ∧ SameMem s t
    let same := fun (t : State) => t = s
    let resets := fun (cause : Nat) (t : State) => t.pstate = 0 ∧ t.rd F.PMC_CAUSE_RESET = cause ∧ t.pmc.queue = [] ∧
      (t.pmc.good = false → ∀ d, 1 ≤ d → d < 64 → t.pd d = false) ∧
      ∀ a, 0x100000000 ≤ a → a < 0x4000000000 → t.mem.read a = 0
    let fresh := fun (t : State) => t.regs = State.reset.regs ∧ t.engines = State.reset.engines ∧ t.cabs = State.reset.cabs ∧
      t.pmc = State.reset.pmc ∧ t.isl = State.reset.isl ∧ ∀ a, a < 2 ^ 40 → t.mem.read a =
        (if (0x60000000 ≤ a ∧ a < 0x70000000) ∨ (0x90000000 ≤ a ∧ a < 0xB0000000) then s.mem.read a else 0)
    (∀ r : Fin 8,
      (railOn s.pstate (railOf r) = true → Does (.warnCrossing r) s (mon r.val)) ∧
      (railOn s.pstate (railOf r) = false → Does (.warnCrossing r) s same) ∧
      (r.val ∈ [0, 1, 3] → railOn s.pstate (railOf r) = true → Does (.brownCrossing r) s (fun t => mon (8 + r.val) t ∧
        t.pmc.brown = Nat.lor s.pmc.brown (2 ^ r.val) ∧ (r.val ≠ 3 → t.fclk = false ∧ t.aclk = false) ∧ (r.val = 3 → t.islClk = false))) ∧
      (¬ r.val ∈ [0, 1, 3] ∨ railOn s.pstate (railOf r) = false → Does (.brownCrossing r) s same) ∧
      (bit s.pmc.brown r.val = true → Does (.brownRecovery r) s (fun t => bit t.pmc.brown r.val = false ∧ SameMem s t ∧
        (∀ b, b ≠ r.val → bit t.pmc.brown b = bit s.pmc.brown b)) ∧ Does (.longDip r) s (resets 4)) ∧
      (bit s.pmc.brown r.val = false → Does (.brownRecovery r) s same ∧ Does (.longDip r) s same) ∧
      (∀ high, (r.val = 2 → Does (.uvOv r high) s fresh) ∧
        (r.val ≠ 2 → railOn s.pstate (railOf r) = true → Does (.uvOv r high) s (resets (if high then 5 else 4))) ∧
        (r.val ≠ 2 → railOn s.pstate (railOf r) = false → Does (.uvOv r high) s same))) ∧
    (∀ tj : Int,
      (s.pd 63 = false → Does (.thermalWarn tj) s same) ∧
      (s.pd 63 = true → Does (.thermalWarn tj) s (fun t => t.rd F.PMC_THERM_TJ = toU 9 tj ∧
        ((s.rd F.PMC_THERM_WARN : Int) ≤ tj → mon 24 t) ∧ (tj < (s.rd F.PMC_THERM_WARN : Int) → t.regVal R.PMC_MON 0 0 = s.regVal R.PMC_MON 0 0))) ∧
      (s.pmc.hold = true ∨ tj < 135 ∨ s.pd 63 = false → Does (.thermalHold tj) s same) ∧
      (s.pmc.hold = false → 135 ≤ tj → s.pd 63 = true → Does (.thermalHold tj) s (fun t => resets 7 t ∧ t.pmc.hold = true ∧ t.pmc.run = false ∧
        ∀ d, 1 ≤ d → d < 64 → t.pd d = false)) ∧
      (s.pmc.hold = false ∨ 120 < tj → Does (.thermalRelease tj) s same) ∧
      (s.pmc.hold = true → tj ≤ 120 → Does (.thermalRelease tj) s (fun t => t.pmc.hold = false ∧
        let u := (s.put0 F.PMC_THERM_TJ (toU 9 tj)).modPmc (fun p => { p with hold := false })
        (s.pmc.good = true → t = u.startUp false) ∧ (s.pmc.good = false → t = u)))) ∧
    (∀ p : Fin 3,
      (3 < s.pstate → Does (.pllLockLoss p) s same) ∧
      (s.pstate ≤ 3 → Does (.pllLockLoss p) s (fun t => t.pmc.unlocked = Nat.lor s.pmc.unlocked (2 ^ p.val) ∧ SameMem s t ∧
        (p.val = 0 → t.fclk = false) ∧ (p.val = 1 → t.aclk = false) ∧ (p.val = 2 → t.islClk = false))) ∧
      (bit s.pmc.unlocked p.val = false → ∀ ok, Does (.pllRelock p ok) s same) ∧
      (bit s.pmc.unlocked p.val = true → Does (.pllRelock p true) s (fun t => mon 25 t ∧ bit t.pmc.unlocked p.val = false) ∧
        Does (.pllRelock p false) s (resets 6))) ∧
    (s.pstate ≤ 3 → s.pmc.good = true → Does .referenceLoss s (resets 6)) ∧
    (3 < s.pstate ∨ s.pmc.good = false → Does .referenceLoss s same) ∧
    Does .xtal32Fail s (mon 26) ∧
    (∀ target ack,
      let v := s.rd F.PMC_VCORE_TARGET
      let ready := s.flag F.PMC_CFG_AVS_EN = true ∧ s.pmc.run = true ∧ s.pmc.avsStop = false ∧ 650 ≤ target ∧ target ≤ 850 ∧
        target ≤ v + 10 ∧ v ≤ target + 10
      (¬ ready → Does (.avsStep target ack) s same) ∧
      (ready → ack = true → Does (.avsStep target ack) s (fun t => t.rd F.PMC_VCORE_TARGET = target ∧ t.pmc = s.pmc ∧ SameMem s t)) ∧
      (ready → ack = false → Does (.avsStep target ack) s (fun t => mon 27 t ∧ t.pmc.avsStop = true ∧ t.rd F.PMC_VCORE_TARGET = v))) ∧
    Does .resetN s (resets 2) ∧
    (s.pmc.good = true → Does .powerGoodFall s (fun t => resets 1 t ∧ t.pmc.good = false)) ∧
    (s.pmc.good = false → Does .powerGoodFall s same) ∧
    Does .powerOnReset s fresh

/-! ### Requests of the host, function pages and doorbells (15, 09) -/

/-- A function answers while its link, interface and domain are up: memory requests go to the fabric, a refused one is a Completer
Abort, an unmapped one an Unsupported Request, its own page takes its writes only; requests to host memory give what the host answers;
an attach checks version, window, host and rings in this order; each doorbell moves its index or sets DB_ERR. -/
def Obligations.HostRequestsAndPages : Prop :=
  (∀ (s : State) (f : Fin 32) (q : Inbound), s.mainClk = true →
    let ur := fun (t : State) => t = s.unsupported f
    (s.linkUp = false → Does (.inboundRequest f q) s (fun t => t = s)) ∧
    (s.linkUp = true → s.fnLive f = false → Does (.inboundRequest f q) s ur) ∧
    (s.fnLive f = true →
      (∀ on, q = .busMaster on → Does (.inboundRequest f q) s (fun t => (vget t.fns (fnOf f)).bme = on ∧ t.host = s.host ∧ SameMem s t)) ∧
      (∀ n, q = .numVfs n → Does (.inboundRequest f q) s (fun t =>
        t.host.numVfs = (if f.val = 0 ∧ n ≤ 31 then n else s.host.numVfs) ∧ t.fns = s.fns)) ∧
      (q = .vfEnable → Does (.inboundRequest f q) s (fun t => t.host.vfEnable = (decide (f.val = 0 ∧ s.stage ≠ 8) || s.host.vfEnable) ∧ t.fns = s.fns)) ∧
      ((vget s.fns (fnOf f)).st = .resetting → ((∃ bar o n, q = .read bar o n) ∨ ∃ bar o l, q = .write bar o l) →
        Does (.inboundRequest f q) s ur) ∧
      (∀ bar o n, q = .read bar o n → bar ≠ 0 → (vget s.fns (fnOf f)).st ≠ .resetting →
        (s.barAddr f bar o n = none → Does (.inboundRequest f q) s ur) ∧
        (∀ a u r, s.barAddr f bar o n = some a → s.fabRead (.pcie f) a n = (u, r) → Does (.inboundRequest f q) s (fun t => SameMem s t ∧
          (r.st = 0 → t = u.answer 0 r.data) ∧ (r.st ≠ 0 → t = (u.answer r.st r.data).completerAbort f)))) ∧
      (∀ bar o l, q = .write bar o l → bar ≠ 0 → (vget s.fns (fnOf f)).st ≠ .resetting →
        (s.barAddr f bar o l.length = none → Does (.inboundRequest f q) s ur) ∧
        (∀ a u st, s.barAddr f bar o l.length = some a → s.fabWrite (.pcie f) a l = (u, st) → Does (.inboundRequest f q) s (fun t =>
          t.mem = u.mem ∧ (st = 0 → t = u.answer 0 []) ∧ (st ≠ 0 → t = (u.answer st []).completerAbort f)))) ∧
      (∀ o n, q = .read 0 o n → (vget s.fns (fnOf f)).st ≠ .resetting →
        (∀ g off, s.bar0At f o = .page g off → (regShape off n = true → ∀ u l,
            s.readWords (.pcie f) (R.HIF_VERSION.addr g 0 + off) (n / 4) = (u, l) → Does (.inboundRequest f q) s (fun t => t = u.answer 0 l)) ∧
          (regShape off n = false → Does (.inboundRequest f q) s (fun t => t = s.completerAbort f))) ∧
        (s.bar0At f o = .zero → Does (.inboundRequest f q) s (fun t => t = s.answer 0 (List.replicate n 0))) ∧
        (s.bar0At f o = .unmapped → Does (.inboundRequest f q) s ur)) ∧
      (∀ o l, q = .write 0 o l → (vget s.fns (fnOf f)).st ≠ .resetting →
        (∀ g off, s.bar0At f o = .page g off → regShape off l.length = true →
          (g ≠ f.val → Does (.inboundRequest f q) s (fun t => t = s.answer 0 [])) ∧
          (g = f.val → Does (.inboundRequest f q) s (fun t =>
            t = (s.writeWords (.pcie f) (R.HIF_VERSION.addr g 0 + off) l).answer 0 []))) ∧
        (s.bar0At f o = .zero → Does (.inboundRequest f q) s (fun t => t = s.answer 0 [])) ∧
        (s.bar0At f o = .unmapped → Does (.inboundRequest f q) s ur)))) ∧
  (∀ (s : State) (m : Master) (a n : Nat) (l : List Byte), s.clkOf m = true →
    (∀ d, s.toDevice m a n = some d → s.region d = .outbound →
      (s.refuse m false d n = none →
        Does (.outboundRequest m false a n l) s (fun t => t.resp = ⟨0, (List.range n).map (fun i => Config.freeByte s.freeCtr (d + i))⟩ ∧
          t.freeCtr = s.freeCtr + 1 ∧ SameMem s t) ∧
        Does (.outboundTimeout m a n) s (fun t => t.resp = ⟨stFABRIC_ERR, []⟩ ∧ .irq "PCIE_TIMEOUT" (s.requester m).val ∈ t.out ∧ SameMem s t)) ∧
      (s.refuse m false d n ≠ none → Does (.outboundRequest m false a n l) s (fun t => t.resp = ⟨stFABRIC_ERR, []⟩ ∧ SameMem s t) ∧
        Does (.outboundTimeout m a n) s (fun t => t = s))) ∧
    (∀ d, s.toDevice m a l.length = some d → s.region d = .outbound →
      (s.refuse m true d l.length = none → Does (.outboundRequest m true a n l) s (fun t => t.resp = ⟨0, []⟩ ∧
        t.hostOut = ((s.requester m).val, d - 0x4000000000, l) :: s.hostOut ∧
        ((vget s.fns (s.requester m)).dirty = none → SameMem s t))) ∧
      (s.refuse m true d l.length ≠ none → Does (.outboundRequest m true a n l) s (fun t => t.resp = ⟨stFABRIC_ERR, []⟩ ∧ t.hostOut = s.hostOut ∧
        SameMem s t)))) ∧
  (∀ (s : State) (f : Fin 33) (core : Fin 2), s.mainClk = true → s.pd 31 = true →
    ((∃ h : f.val < 32, s.fnLive ⟨f.val, h⟩ = true ∧ s.stage ≠ 8 ∧ (vget s.fns f).st ≠ .resetting) ∨
      (f.val = 32 ∧ s.pd 61 = true ∧ vget s.isl.world core = true ∧ s.islClk = true ∧ s.isl.halted = false)) →
    let x := vget s.fns f
    (∀ a, a < 2 ^ 48 →
      let refused := fun (why : Nat) => Does (.hifAttach f core a) s (fun t => (vget t.fns f).st = .refused ∧ (vget t.fns f).reason = why ∧
        t.cabs = s.cabs ∧ t.host = s.host)
      let vf := f.val ≠ 0 ∧ f.val ≠ 32
      let version := s.rd F.HIF_VERSION_DRV_MAJOR f.val = s.rd F.HIF_VERSION_FW_MAJOR f.val ∧
        s.rd F.HIF_VERSION_DRV_MINOR f.val ≤ s.rd F.HIF_VERSION_FW_MINOR f.val
      (x.st = .open_ ∨ x.st = .quiesced → Does (.hifAttach f core a) s (fun t => t.fns = s.fns ∧ t.host = s.host ∧ SameMem s t)) ∧
      (x.st ≠ .open_ → x.st ≠ .quiesced →
        (¬ version → refused rsVERSION) ∧
        (version → vf → x.win = none → refused rsNO_WINDOW) ∧
        (version → vf → x.win ≠ none → s.host.lostAt ≠ none → refused rsHOST_LOST) ∧
        (version → ¬ (vf ∧ (x.win = none ∨ s.host.lostAt ≠ none)) → s.host.lostAt = none → a % 64 = 0 → ∀ d, s.fnAddr f a 64 = some d →
          s.Serves .sch false d 64 →
          let l := s.mem.readBytes d 64
          s.ringsOk f l = true → Does (.hifAttach f core a) s (fun t => (vget t.fns f).st = .open_ ∧
            (vget t.fns f).sq = ⟨fieldAt l 0 8, fieldAt l 24 1, 0, 0, true⟩ ∧ (vget t.fns f).cq = ⟨fieldAt l 8 8, fieldAt l 25 1, 0, 0, true⟩ ∧
            (vget t.fns f).eq.base = fieldAt l 16 8 ∧ (vget t.fns f).eq.log2 = fieldAt l 26 1)) ∧
        (version → ¬ (vf ∧ (x.win = none ∨ s.host.lostAt ≠ none)) →
          (s.fnAddr f a 64 = none → refused rsBAD_RINGS) ∧
          (∀ d u r, s.fnAddr f a 64 = some d → s.fabRead .sch d 64 = (u, r) →
            (r.st ≠ 0 ∨ a % 64 ≠ 0 ∨ s.ringsOk f r.data = false → refused rsBAD_RINGS) ∧
            (r.st = 0 → a % 64 = 0 → s.ringsOk f r.data = true → Does (.hifAttach f core a) s (fun t =>
              let y := vget t.fns f
              y.st = .open_ ∧ y.reason = 0 ∧ y.sq = ⟨fieldAt r.data 0 8, fieldAt r.data 24 1, 0, 0, true⟩ ∧
              y.cq = ⟨fieldAt r.data 8 8, fieldAt r.data 25 1, 0, 0, true⟩ ∧ y.eq.base = fieldAt r.data 16 8 ∧
              y.eq.log2 = fieldAt r.data 26 1 ∧ y.owed = false ∧ (f.val = 0 → t.host.lostAt = none))))))) ∧
    Does (.hifDetach f core) s (fun t => (vget t.fns f).st = .detached ∧ (vget t.fns f).reason = 0 ∧ (vget t.fns f).cmd = [] ∧
      t.host.monitored = (s.host.monitored && decide (f.val ≠ 0))) ∧
    (let beat := f.val = 0 ∧ x.st = .open_ ∧ s.host.lostAt = none
     Does (.heartbeat f core) s (fun t => t.host = (if beat then { s.host with monitored := true } else s.host) ∧ t.fns = s.fns)) ∧
    (∀ c kind idx, (c, kind) ∈ [(Instr.submissionTail f core idx, 0), (.completionHead f core idx, 1), (.eventHead f core idx, 2)] → idx < 4096 →
      (x.st = .quiesced → Does c s (fun t => (vget t.fns f).doorbells = x.doorbells ++ [kind * 2 ^ 30 + idx] ∧ (vget t.fns f).sq = x.sq)) ∧
      (x.st ≠ .open_ → x.st ≠ .quiesced → Does c s (fun t => t.fns = s.fns ∧ SameMem s t)) ∧
      (x.st = .open_ →
        let wrong := (kind = 0 ∧ (2 ^ x.sq.log2 ≤ idx ∨ 2 ^ x.sq.log2 ≤ x.sq.used + (idx + 2 ^ x.sq.log2 - x.sq.tail) % 2 ^ x.sq.log2)) ∨
          (kind = 1 ∧ (2 ^ x.cq.log2 ≤ idx ∨ x.cq.used < (idx + 2 ^ x.cq.log2 - x.cq.head) % 2 ^ x.cq.log2)) ∨
          (kind = 2 ∧ (2 ^ x.eq.log2 ≤ idx ∨ x.eq.used < (idx + 2 ^ x.eq.log2 - x.eq.head) % 2 ^ x.eq.log2))
        (wrong → Does c s (fun t => t.flag F.HIF_STATUS_DB_ERR f.val = true ∧ t.fns = s.fns ∧ SameMem s t)) ∧
        (¬ wrong → Does c s (fun t => (kind = 0 → (vget t.fns f).sq.tail = idx) ∧ (kind = 1 → (vget t.fns f).cq.head = idx) ∧
          (kind = 2 → (vget t.fns f).eq.head = idx) ∧ t.pstate = (if s.pstate = 2 then 0 else s.pstate))))))

/-! ### Commands of the host and the island (15, 09) -/

/-- Firmware takes the entry at the head of an open ring and runs it by its code; a bad entry completes with BAD_COMMAND. Creating,
destroying, submitting and aborting act on the cabinets of their function and complete at once or when the contexts are gone; requests
for SEC and PMC are relayed and complete with their answer. -/
def Obligations.HostCommandsRun : Prop :=
  ∀ (s : State) (f : Fin 33),
    (∀ (c : Instr) (opc n : Nat) (image : VfImage),
      (c, opc, n) ∈ [(.cmdNop f, 0, 0), (.cabinetCreate f, 1, 1), (.cabinetDestroy f, 2, 1), (.contextCreate f, 3, 2), (.contextDestroy f, 4, 2),
        (.jobSubmit f, 5, 2), (.abort f, 6, 2), (.setVfWindow f, 0x10, 2), (.logDirtyStart f, 0x11, 4), (.logDirtySync f, 0x12, 1),
        (.logDirtyStop f, 0x13, 1), (.vfQuiesce f, 0x14, 1), (.vfUnquiesce f, 0x15, 1), (.saveVfState f, 0x16, 3),
        (.restoreVfState f image, 0x17, 4), (.secService f, 0x20, 1), (.powerRequest f, 0x21, 1), (.cabinetStop f, 0x30, 1),
        (.cabinetStart f, 0x31, 1), (.cabinetRestart f, 0x32, 1)] →
      (s.cmdOn f = false → s.takesCmd f = false → Does c s (fun t => t = s)) ∧
      (s.cmdOn f = true → fieldAt (vget s.fns f).cmd 0 1 ≠ opc → Does c s (fun t => t = s)) ∧
      (s.cmdOn f = false → s.takesCmd f = true → ∀ u l, s.headEntry f = (u, l) →
        (fieldAt l 0 1 ≠ opc → Does c s (fun t => t = s)) ∧
        (fieldAt l 0 1 = opc → knownOpc f opc = false ∨ entryBad l n = true → Does c s (Completed f l u csBAD_COMMAND 0 0)))) ∧
    (∀ u l, Heads s f 0 0 l u → Does (.cmdNop f) s (Completed f l u 0 0 0)) ∧
    (∀ u l, Heads s f 1 1 l u →
      (f.val ≠ 0 → Does (.cabinetCreate f) s (Completed f l u csDENIED_AUTHORITY 0 0)) ∧
      (f.val = 0 →
        let waits := s.sec.restarting = true ∧ s.flag F.SEC_STATUS_HALTED = false
        (waits → Does (.cabinetCreate f) s (fun t => t = u)) ∧
        (¬ waits → u.argAddr f none (argOf l 0) 128 = none → Does (.cabinetCreate f) s (Completed f l u csWINDOW 0 0)) ∧
        (¬ waits → ∀ a v r, u.argAddr f none (argOf l 0) 128 = some a → u.fabRead .sch a 128 = (v, r) →
          (r.st ≠ 0 → Does (.cabinetCreate f) s (Completed f l v csWINDOW 0 0)) ∧
          (r.st = 0 → v.createStatus r.data none false ≠ 0 →
            Does (.cabinetCreate f) s (Completed f l v (v.createStatus r.data none false) 0 0)) ∧
          (r.st = 0 → v.createStatus r.data none false = 0 → ∃ c : CabId, (v.cab c).live = false ∧ v.manifestCount ≤ c.val ∧
            Does (.cabinetCreate f) s (fun t => Completed f l (v.makeCab c r.data none false false 0) 0 c.val 0 t ∧ (t.cab c).live = true ∧
              (t.cab c).body = r.data ∧ (t.cab c).fn = fieldAt r.data 0 1 ∧ t.flag F.SCH_CAB_CFG_EN c.val = true))))) ∧
    (∀ u l, Heads s f 2 1 l u →
      let n := argOf l 0
      let st := if 8 ≤ n then csBAD_COMMAND else if f.val ≠ 0 then csDENIED_AUTHORITY else s.cabArg f n true
      (st ≠ 0 → Does (.cabinetDestroy f) s (Completed f l u st 0 0)) ∧
      (st = 0 →
        let w := u.destroyCab (cabId n)
        ((w.cab (cabId n)).after ≠ .destroy → Does (.cabinetDestroy f) s (fun t => Completed f l w 0 0 0 t ∧
          (t.cab (cabId n)).live = false)) ∧
        ((w.cab (cabId n)).after = .destroy → Does (.cabinetDestroy f) s (Begun f l w)))) ∧
    (∀ l, UnderWay s f 2 l → l ≠ [] →
      let c := cabId (argOf l 0)
      ((s.cab c).after ≠ .destroy → Does (.cabinetDestroy f) s (Completed f l s 0 0 0)) ∧
      ((s.cab c).after = .destroy → Does (.cabinetDestroy f) s (Begun f l s))) ∧
    (∀ u l, Heads s f 3 2 l u → (s.cabArg f (argOf l 0) false ≠ 0 →
        Does (.contextCreate f) s (Completed f l u (s.cabArg f (argOf l 0) false) 0 0)) ∧
      (s.cabArg f (argOf l 0) false = 0 → ∀ v st x, u.createContext (cabId (argOf l 0)) (argOf l 1) = (v, st, x) →
        Does (.contextCreate f) s (Completed f l v st x 0))) ∧
    (∀ u l opc c, (opc, c) ∈ [(4, Instr.contextDestroy f), (6, .abort f)] → Heads s f opc 2 l u →
      let cab := cabId (argOf l 0)
      let all := opc = 6 ∧ argOf l 1 = 0xFF
      let here := all ∨ ∃ x, s.ctx? cab (ctxId (argOf l 1)) = some x ∧ x.st ≠ .aborting
      let arg := s.cabArg f (argOf l 0) (opc == 6)
      let x := if all then none else some (ctxId (argOf l 1))
      (¬ all → 72 ≤ argOf l 1 → Does c s (Completed f l u csBAD_COMMAND 0 0)) ∧
      (all ∨ argOf l 1 < 72 → arg ≠ 0 → Does c s (Completed f l u arg 0 0)) ∧
      (all ∨ argOf l 1 < 72 → arg = 0 → ¬ here → Does c s (Completed f l u csNOT_FOUND 0 0)) ∧
      (all ∨ argOf l 1 < 72 → arg = 0 → here →
        let w := u.abort cab x
        ((s.cab cab).lost ≠ [] → Does c s (Completed f l u csFENCED 0 0)) ∧
        ((s.cab cab).lost = [] → (w.abortedAll cab x = true → Does c s (Completed f l w 0 0 0)) ∧
          (w.abortedAll cab x = false → Does c s (Begun f l w))))) ∧
    (∀ l opc c, (opc, c) ∈ [(4, Instr.contextDestroy f), (6, .abort f)] → UnderWay s f opc l →
      let cab := cabId (argOf l 0)
      let x := if opc = 6 ∧ argOf l 1 = 0xFF then none else some (ctxId (argOf l 1))
      ((s.cab cab).lost ≠ [] → Does c s (Completed f l s csFENCED 0 0)) ∧
      ((s.cab cab).lost = [] → (s.abortedAll cab x = true → Does c s (Completed f l s 0 0 0)) ∧
        (s.abortedAll cab x = false → Does c s (Begun f l s)))) ∧
    (∀ u l, Heads s f 5 2 l u →
      let cab := cabId (argOf l 0)
      let arg := s.cabArg f (argOf l 0) false
      (arg ≠ 0 → Does (.jobSubmit f) s (Completed f l u arg 0 0)) ∧
      (arg = 0 → s.argAddr f (some cab) (argOf l 1) 64 = none → Does (.jobSubmit f) s (Completed f l u csWINDOW 0 0)) ∧
      (arg = 0 → s.argAddr f (some cab) (argOf l 1) 64 ≠ none → ∀ v st n, u.submit cab (argOf l 1) none = (v, st, n) →
        (st ≠ 0 → Does (.jobSubmit f) s (Completed f l v st 0 0)) ∧
        (st = 0 → Does (.jobSubmit f) s (Completed f l ((v.evictLog cab).wakeReady.wakeCab cab) 0 n 0)))) ∧
    (∀ u l, Heads s f 0x20 1 l u → (f.val ≠ 0 → Does (.secService f) s (Completed f l u csDENIED_AUTHORITY 0 0)) ∧
      (f.val = 0 → (s.argAddr f none (argOf l 0) 64 = none → Does (.secService f) s (Completed f l u csWINDOW 0 0)) ∧
        (s.argAddr f none (argOf l 0) 64 ≠ none → 16 ≤ (vget s.sec.queues 3).length → Does (.secService f) s (fun t => t = u)) ∧
        (s.argAddr f none (argOf l 0) 64 ≠ none → (vget s.sec.queues 3).length < 16 →
          Does (.secService f) s (Begun f l (u.enqueue 3 (argOf l 0)))))) ∧
    (∀ l, UnderWay s f 0x20 l →
      let waits := ∃ q ∈ vget s.sec.queues 3, q.addr = argOf l 0
      (waits → Does (.secService f) s (Begun f l s)) ∧
      (¬ waits → ∀ v r w q, s.readOrFree (.mbox false) (argOf l 0) 64 = (v, r) → v.readOrFree (.mbox false) (fieldAt r 8 8) 16 = (w, q) →
        Does (.secService f) s (Completed f l w (if fieldAt q 4 1 = svUNAVAILABLE then csSERVICE_UNAVAILABLE else 0) (fieldAt q 4 1) 0))) ∧
    (∀ u l, Heads s f 0x21 1 l u →
      let w := u.pmcSubmit 4 (argOf l 0) (some f)
      (s.bankBusy 4 = true → Does (.powerRequest f) s (fun t => t = u)) ∧
      (s.bankBusy 4 = false → w.bankBusy 4 = true → Does (.powerRequest f) s (Begun f l w)) ∧
      (s.bankBusy 4 = false → w.bankBusy 4 = false → Does (.powerRequest f) s (Completed f l w (vget w.pmc.status 4) 0 0))) ∧
    (∀ l, UnderWay s f 0x21 l →
      (s.bankBusy 4 = true → Does (.powerRequest f) s (Begun f l s)) ∧
      (s.bankBusy 4 = false → Does (.powerRequest f) s (Completed f l s (vget s.pmc.status 4) 0 0))) ∧
    (∀ l, Queued s f 0 0 l → Does (.cmdNop f) s (fun t => ∃ u, ReadOnly s u ∧ Completed f l u 0 0 0 t)) ∧
    (∀ l a, Queued s f 1 1 l → f.val = 0 → s.sec.restarting = false → s.argAddr f none (argOf l 0) 128 = some a → s.Serves .sch false a 128 →
      s.createStatus (s.mem.readBytes a 128) none false = 0 → Does (.cabinetCreate f) s (fun t => ∃ u, ∃ c : CabId,
        Completed f l u 0 c.val 0 t ∧ (s.cab c).live = false ∧ (t.cab c).live = true ∧ (t.cab c).body = s.mem.readBytes a 128 ∧
        t.flag F.SCH_CAB_CFG_EN c.val = true)) ∧
    (∀ l, Queued s f 2 1 l → f.val = 0 → argOf l 0 < 8 →
      let c := cabId (argOf l 0)
      (s.cab c).live = true → (s.cab c).flash = false → (s.cab c).aborting = [] → (∀ x, s.ctx? c x = none) →
      Does (.cabinetDestroy f) s (fun t => (∃ u, Completed f l u 0 0 0 t) ∧ (t.cab c).live = false ∧ t.flag F.SCH_CAB_CFG_EN c.val = false)) ∧
    (∀ l y, Queued s f 3 2 l → argOf l 0 < 8 →
      let c := cabId (argOf l 0)
      s.Owns f c → f.val ≠ 32 → (s.cab c).lost = [] → s.ctxFull c = false → (s.readContext c (argOf l 1) none).2 = (0, some y) →
      Does (.contextCreate f) s (fun t => ∃ u, ∃ x : CtxId, Completed f l u 0 x.val 0 t ∧ s.ctx? c x = none ∧
        t.ctxIs c x (fun z => z.record = y.record ∧ z.rt = y.rt ∧ z.jobs = []))) ∧
    (∀ l opc i, (opc = 4 ∧ i = Instr.contextDestroy f) ∨ (opc = 6 ∧ i = .abort f) → Queued s f opc 2 l → argOf l 0 < 8 → argOf l 1 < 72 →
      let c := cabId (argOf l 0)
      let x := ctxId (argOf l 1)
      s.Owns f c → (opc = 4 → f.val ≠ 32) → (s.cab c).lost = [] → s.ctxIs c x (fun y => y.drawer = none ∧ y.st ≠ .aborting) →
      (∀ p ∈ (s.cab c).aborting, p.1 ≠ x) → s.committing c = false →
      Does i s (fun t => (∃ u, Completed f l u 0 0 0 t) ∧ t.ctx? c x = none)) ∧
    (∀ l d j y, Queued s f 5 2 l → argOf l 0 < 8 →
      let c := cabId (argOf l 0)
      let q := s.mem.readBytes d 64
      s.Owns f c → s.argAddr f (some c) (argOf l 1) 64 ≠ none → s.cabAddr c (argOf l 1) 64 = some d → s.Serves .sch false d 64 →
      fieldAt q 0 1 < 72 → s.ctx? c (ctxId (fieldAt q 0 1)) = some y → y.st ≠ .aborting → y.jobs.length < 16 → (s.cab c).degraded = false →
      jobOf q (argOf l 1) (s.cab c).qctMax s.itu none = some j →
      Does (.jobSubmit f) s (fun t => (∃ u, Completed f l u 0 (y.jobs.length + 1) 0 t) ∧
        t.ctxIs c (ctxId (fieldAt q 0 1)) (fun z => z.jobs = y.jobs ++ [j] ∧ z.st = (if y.st = .idle then .ready else y.st)))) ∧
    (∀ l, Queued s f 0x20 1 l → f.val = 0 → s.argAddr f none (argOf l 0) 64 ≠ none → (vget s.sec.queues 3).length < 16 →
      Does (.secService f) s (fun t => ∃ u, ReadOnly s u ∧ Begun f l (u.enqueue 3 (argOf l 0)) t)) ∧
    (∀ l, Going s f 0x20 l → (∀ q ∈ vget s.sec.queues 3, q.addr ≠ argOf l 0) → s.Serves (.mbox false) false (argOf l 0) 64 →
      let b := fieldAt (s.mem.readBytes (argOf l 0) 64) 8 8
      let st := fieldAt (s.mem.readBytes b 16) 4 1
      s.Serves (.mbox false) false b 16 → Does (.secService f) s (fun t => ∃ u, ReadOnly s u ∧
        Completed f l u (if st = svUNAVAILABLE then csSERVICE_UNAVAILABLE else 0) st 0 t)) ∧
    (∀ l, Going s f 0x21 l → (∀ q ∈ s.pmc.queue, q.bank.val ≠ 4) →
      Does (.powerRequest f) s (Completed f l s (vget s.pmc.status 4) 0 0))

/-- The PF gives a VF its window, logs its writes, quiesces it once every context is stored, lets it go on with the recorded
doorbells, saves it and restores it; island software stops, starts and restarts flash-launched cabinets. -/
def Obligations.VfAndIslandCommandsRun : Prop :=
  (∀ (s : State) (f : Fin 33) (image : VfImage) (c : Instr) (opc n : Nat),
    (c, opc, n) ∈ [(.setVfWindow f, 0x10, 2), (.logDirtyStart f, 0x11, 4), (.logDirtySync f, 0x12, 1), (.logDirtyStop f, 0x13, 1),
      (.vfQuiesce f, 0x14, 1), (.vfUnquiesce f, 0x15, 1), (.saveVfState f, 0x16, 3), (.restoreVfState f image, 0x17, 4)] →
    ∀ u l, Heads s f opc n l u →
      let k := argOf l 0
      let v := fnId k
      let x := vget s.fns v
      (k = 0 ∨ 31 < k → Does c s (Completed f l u csBAD_COMMAND 0 0)) ∧
      (1 ≤ k → k ≤ 31 → f.val ≠ 0 → Does c s (Completed f l u csDENIED_AUTHORITY 0 0)) ∧
      (1 ≤ k → k ≤ 31 → f.val = 0 → s.fnExists k = false → Does c s (Completed f l u csNOT_FOUND 0 0)) ∧
      (1 ≤ k → k ≤ 31 → f.val = 0 → s.fnExists k = true → x.st = .resetting → Does c s (fun t => t = u)) ∧
      (1 ≤ k → k ≤ 31 → f.val = 0 → s.fnExists k = true → x.st ≠ .resetting →
        (opc = 0x10 →
          let a := argOf l 1
          let size := 2 ^ s.winLog2
          let fits_ := a % size = 0 ∧ 0x100000000 ≤ a ∧ a + size ≤ s.lpddrEnd ∧ s.secureAddr a = false ∧
            ∀ g : Fin 33, g.val ≠ 32 → g ≠ v → ∀ w, (vget s.fns g).win = some w → a + size ≤ w ∨ w + size ≤ a
          (a = 0 → Does c s (Completed f l (u.modFn v (fun y => { y with win := none })) 0 0 0)) ∧
          (a ≠ 0 → fits_ → Does c s (Completed f l (u.modFn v (fun y => { y with win := some a })) 0 0 0)) ∧
          (a ≠ 0 → ¬ fits_ → Does c s (Completed f l u csWINDOW 0 0))) ∧
        (opc = 0x11 →
          let span := argOf l 3
          let bad := span % 32768 ≠ 0 ∨ 2 ^ 38 < span ∨ argOf l 1 % 4096 ≠ 0 ∨ argOf l 2 % 4096 ≠ 0
          let inReach := s.reach 0 (argOf l 1) (span / 32768) = true ∧ s.reach 0 (argOf l 2) (span / 32768) = true
          (bad → Does c s (Completed f l u csBAD_COMMAND 0 0)) ∧
          (¬ bad → ¬ inReach → Does c s (Completed f l u csWINDOW 0 0)) ∧
          (¬ bad → inReach → Does c s (Completed f l (u.modFn v (fun y => { y with
            dirty := some ⟨argOf l 1, argOf l 2, span, false, 0⟩ })) 0 0 0))) ∧
        (opc = 0x12 ∨ opc = 0x13 → x.dirty = none → Does c s (Completed f l u csVF_STATE 0 0)) ∧
        (∀ d, x.dirty = some d →
          (opc = 0x12 → Does c s (Completed f l (u.modFn v (fun y => { y with
            dirty := some { d with active1 := !d.active1 } })) 0 d.active d.beyond)) ∧
          (opc = 0x13 → Does c s (Completed f l (u.modFn v (fun y => { y with dirty := none })) 0 d.active 0))) ∧
        (opc = 0x14 → (x.st ≠ .open_ → Does c s (Completed f l u csVF_STATE 0 0)) ∧
          (x.st = .open_ →
            let w := u.setFn v .quiesced 0
            let stored := ∀ b ∈ s.fnCabs v, s.storedAll b = true
            (stored → Does c s (Completed f l w 0 0 0)) ∧ (¬ stored → Does c s (Begun f l w)))) ∧
        (opc = 0x15 → (x.st ≠ .quiesced → Does c s (Completed f l u csVF_STATE 0 0)) ∧
          (x.st = .quiesced → Does c s (Completed f l (x.doorbells.foldl (fun (y : State) d => y.doorbell v (d / 2 ^ 30) (d % 4096))
            ((u.modFn v (fun y => { y with doorbells := [] })).setFn v .open_ 0)) 0 0 0))) ∧
        (opc = 0x16 → (x.st ≠ .quiesced → Does c s (Completed f l u csVF_STATE 0 0)) ∧ (x.st = .quiesced → Does c s (Begun f l u))) ∧
        (opc = 0x17 →
          let free := x.st = .detached ∧ x.win ≠ none ∧ s.fnCabs v = []
          (¬ free → Does c s (Completed f l u csVF_STATE 0 0)) ∧ (free → Does c s (Begun f l u))))) ∧
  (∀ (s : State) (f : Fin 33) (l : List Byte),
    let v := fnId (argOf l 0)
    let stored := ∀ b ∈ s.fnCabs v, s.storedAll b = true
    let away := 2 ^ 38 < argOf l 1 + argOf l 2 ∨ (vget s.fns 0).bme = false ∨ s.linkUp = false
    (UnderWay s f 0x14 l → (stored → Does (.vfQuiesce f) s (Completed f l s 0 0 0)) ∧ (¬ stored → Does (.vfQuiesce f) s (Begun f l s))) ∧
    (UnderWay s f 0x16 l → ∀ w m, s.vfImage v = (w, m) →
      (away → Does (.saveVfState f) s (Completed f l s csWINDOW 0 0)) ∧
      (¬ away → argOf l 2 < m.size → Does (.saveVfState f) s (Completed f l w csBUFFER_SHORT m.size 0)) ∧
      (¬ away → m.size ≤ argOf l 2 → Does (.saveVfState f) s (fun t => ∃ y, Completed f l y 0 m.size 0 t ∧
        y.host.images = (argOf l 1, m) :: s.host.images ∧ y.fns = s.fns ∧ y.cabs = s.cabs ∧ SameMem s y ∧
        ∃ bytes, bytes.length = m.size ∧ y.hostOut = (0, argOf l 1, bytes) :: s.hostOut))) ∧
    (UnderWay s f 0x17 l → ∀ image : VfImage,
      let x := vget s.fns v
      (s.argAddr 0 none (argOf l 3) (16 * image.cabs.length) = none → Does (.restoreVfState f image) s (Completed f l s csWINDOW 0 0)) ∧
      (∀ a u list, s.argAddr 0 none (argOf l 3) (16 * image.cabs.length) = some a →
        s.readOrFree .sch a (16 * image.cabs.length) = (u, list) →
        let es := (List.range image.cabs.length).map (fun i => (list.drop (16 * i)).take 16)
        let good := es.all (fun e => fieldAt e 4 4 == 0) = true
        let matches_ := image.major = s.rd F.HIF_VERSION_FW_MAJOR v.val ∧ image.winLog2 = s.winLog2 ∧
          ∀ p ∈ image.cabs.zip es, (recEngines p.1.body).length = (recEngines (overlay p.1.body 8 (p.2.take 2))).length
        (away → Does (.restoreVfState f image) s (Completed f l u csWINDOW 0 0)) ∧
        (¬ away → ¬ good → Does (.restoreVfState f image) s (Completed f l u csBAD_COMMAND 0 0)) ∧
        (¬ away → good → ¬ matches_ → Does (.restoreVfState f image) s (Completed f l u csMIGRATE_MISMATCH 0 0)) ∧
        (¬ away → good → matches_ → argOf l 2 < image.size →
          Does (.restoreVfState f image) s (Completed f l u csBUFFER_SHORT image.size 0)) ∧
        (¬ away → good → matches_ → image.size ≤ argOf l 2 →
          let b := (u.modFn v (fun y => { y with
            sq := image.sq
            cq := image.cq
            eq := image.eq
            evLost := image.evLost
            lostNext := image.lostNext
            doorbells := image.doorbells })).setFn v .quiesced 0
          ∀ w st, b.restoreCabs v image.win (x.win.getD 0) (image.cabs.zip es) = (w, st) →
          (st ≠ 0 → Does (.restoreVfState f image) s (Completed f l u st 0 0)) ∧
          (st = 0 → Does (.restoreVfState f image) s (Completed f l (w.put { reg := R.HIF_VERSION, hi := 15, lo := 0 } v.val 0 image.drv)
            0 0 0)))))) ∧
  (∀ (s : State) (f : Fin 33) (c : Instr) (opc : Nat),
    (c, opc) ∈ [(.cabinetStop f, 0x30), (.cabinetStart f, 0x31), (.cabinetRestart f, 0x32)] →
    (∀ u l, Heads s f opc 1 l u →
      let n := argOf l 0
      let b := cabId n
      let st := if 8 ≤ n then csBAD_COMMAND else if f.val ≠ 32 then csDENIED_AUTHORITY else s.cabArg f n false
      (st ≠ 0 → Does c s (Completed f l u st 0 0)) ∧
      (st = 0 →
        (opc = 0x30 →
          let w := u.modCab b (fun y => { y with stopped := true })
          (s.storedAll b = true → Does c s (Completed f l w 0 0 0)) ∧ (s.storedAll b = false → Does c s (Begun f l w))) ∧
        (opc = 0x31 → ((s.cab b).stopped = false → Does c s (Completed f l u 0 0 0)) ∧
          ((s.cab b).stopped = true → Does c s (fun t => ∃ w, Completed f l w 0 0 0 t ∧ (w.cab b).stopped = false ∧ (w.cab b).due = [] ∧
            SameCabsBut b s w ∧ SameMem u w ∧ ∀ x y, w.ctx? b x = some y → ∀ j ∈ y.jobs, j.origin = s.itu))) ∧
        (opc = 0x32 →
          let w := u.abort b none
          ((w.cab b).aborting = [] → ∀ r st, w.rebuildCab b = (r, st) → Does c s (Completed f l r st 0 0)) ∧
          ((w.cab b).aborting ≠ [] → Does c s (Begun f l w))))) ∧
    (∀ l, UnderWay s f opc l →
      let b := cabId (argOf l 0)
      (opc = 0x30 → (s.storedAll b = true → Does c s (Completed f l s 0 0 0)) ∧ (s.storedAll b = false → Does c s (Begun f l s))) ∧
      (opc = 0x32 → ((s.cab b).aborting = [] → ∀ r st, s.rebuildCab b = (r, st) → Does c s (Completed f l r st 0 0)) ∧
        ((s.cab b).aborting ≠ [] → Does c s (Begun f l s))))) ∧
  (∀ (s : State) (f : Fin 33) (l : List Byte),
    let k := argOf l 0
    let v := fnId k
    let x := vget s.fns v
    let a := argOf l 1
    let done := fun (g : State → State) (value detail : Nat) (t : State) => ∃ u, ReadOnly s u ∧ Completed f l (g u) 0 value detail t
    (f.val = 0 → 1 ≤ k → k ≤ 31 → s.fnExists k = true → x.st ≠ .resetting →
      (Queued s f 0x10 2 l → a % 2 ^ s.winLog2 = 0 → 0x100000000 ≤ a → a + 2 ^ s.winLog2 ≤ s.lpddrEnd → s.secureAddr a = false →
        (∀ g : Fin 33, g.val ≠ 32 → g ≠ v → ∀ w, (vget s.fns g).win = some w → a + 2 ^ s.winLog2 ≤ w ∨ w + 2 ^ s.winLog2 ≤ a) →
        Does (.setVfWindow f) s (done (fun u => u.modFn v (fun y => { y with win := some a })) 0 0)) ∧
      (Queued s f 0x11 4 l → argOf l 3 % 32768 = 0 → argOf l 3 ≤ 2 ^ 38 → a % 4096 = 0 → argOf l 2 % 4096 = 0 →
        s.reach 0 a (argOf l 3 / 32768) = true → s.reach 0 (argOf l 2) (argOf l 3 / 32768) = true →
        Does (.logDirtyStart f) s (done (fun u => u.modFn v (fun y => { y with dirty := some ⟨a, argOf l 2, argOf l 3, false, 0⟩ })) 0 0)) ∧
      (∀ d, x.dirty = some d →
        (Queued s f 0x12 1 l → Does (.logDirtySync f) s (done (fun u => u.modFn v (fun y => { y with
          dirty := some { d with active1 := !d.active1 } })) (b2n d.active1) d.beyond)) ∧
        (Queued s f 0x13 1 l → Does (.logDirtyStop f) s (done (fun u => u.modFn v (fun y => { y with dirty := none })) (b2n d.active1) 0))) ∧
      (Queued s f 0x14 1 l → x.st = .open_ → (∀ c y z, s.cabOfFn v c = true → s.ctx? c y = some z → z.drawer = none) →
        Does (.vfQuiesce f) s (done (fun u => u.setFn v .quiesced 0) 0 0)) ∧
      (Queued s f 0x15 1 l → x.st = .quiesced → x.doorbells = [] →
        Does (.vfUnquiesce f) s (done (fun u => (u.modFn v (fun y => { y with doorbells := [] })).setFn v .open_ 0) 0 0))) ∧
    (argOf l 1 + argOf l 2 ≤ 2 ^ 38 → (vget s.fns 0).bme = true → s.linkUp = true →
      (Going s f 0x16 l → (s.vfImage v).2.size ≤ argOf l 2 → Does (.saveVfState f) s (fun t => ∃ u, SameMem s u ∧ u.cabs = s.cabs ∧
        u.host.images = (a, (s.vfImage v).2) :: s.host.images ∧ Completed f l u 0 (s.vfImage v).2.size 0 t)) ∧
      (∀ image : VfImage, Going s f 0x17 l → image.cabs = [] → s.argAddr 0 none (argOf l 3) 0 ≠ none →
        image.major = s.rd F.HIF_VERSION_FW_MAJOR v.val → image.winLog2 = s.winLog2 → image.size ≤ argOf l 2 →
        Does (.restoreVfState f image) s (fun t => ∃ u, Completed f l u 0 0 0 t ∧ (vget u.fns v).st = .quiesced ∧
          (vget u.fns v).sq = image.sq ∧ (vget u.fns v).cq = image.cq ∧ (vget u.fns v).eq = image.eq ∧
          (vget u.fns v).doorbells = image.doorbells))) ∧
    (f.val = 32 → k < 8 →
      let b := cabId k
      s.Owns f b →
      (Queued s f 0x30 1 l → (∀ y z, s.ctx? b y = some z → z.drawer = none) →
        Does (.cabinetStop f) s (done (fun u => u.modCab b (fun y => { y with stopped := true })) 0 0)) ∧
      (Queued s f 0x31 1 l → (s.cab b).stopped = true → Does (.cabinetStart f) s (fun t => (∃ u, Completed f l u 0 0 0 t) ∧
        (t.cab b).stopped = false ∧ (t.cab b).due = [] ∧ ∀ y z, t.ctx? b y = some z → ∀ j ∈ z.jobs, j.origin = s.itu)) ∧
      (Queued s f 0x32 1 l → (s.cab b).aborting = [] → (∀ y, s.ctx? b y = none) →
        (∀ i, (s.cab b).manifest = some i → fieldAt (s.manifestEntry i) 176 2 = 0) →
        Does (.cabinetRestart f) s (fun t => ∃ u, Completed f l u 0 0 0 t ∧ (u.cab b).sems = Vector.replicate 64 0 ∧
          ∀ q : Fin 32, s.flag F.SN_Q_CFG_EN q.val = true → s.rd F.SN_Q_CFG_CABINET q.val = b.val → vget u.sn.queues q = ⟨[], 0, [], none⟩))))

/-! ### Losing the host, and the resets of functions (15, 17) -/

/-- A lost heartbeat or link brings HOST_LOST once: open functions read LOST, every function is suspended and owes a loss report. After
10 s the state of the suspended functions is discarded. An FLR of a VF clears its page and, once the aborts of its contexts are over, its
cabinets' state, and keeps cabinets and window; one of the PF, or VF Enable cleared, discards the VFs. -/
def Obligations.HostLossAndFunctionResets : Prop :=
  ∀ s : State,
    let same := fun (t : State) => t = s
    let lost := fun (t : State) => (s.host.lostAt = none → t.host.lostAt = some s.stamp ∧ t.host.monitored = false ∧
        ∀ f : Fin 33, f.val ≠ 32 → (vget t.fns f).suspended = true ∧ (vget t.fns f).owed = true ∧ (vget t.fns f).gone = false ∧
          (let st := (vget s.fns f).st
           (st = .open_ ∨ st = .quiesced → (vget t.fns f).st = .lost ∧ (vget t.fns f).reason = rsHOST_LOST) ∧
           (st ≠ .open_ → st ≠ .quiesced → (vget t.fns f).st = st))) ∧
      (s.host.lostAt ≠ none → t.host = s.host ∧ t.fns = s.fns) ∧ t.cabs = s.cabs ∧ SameMem s t
    let quiet := fun (c : CabId) => (s.cab c).aborting = [] ∧ (∀ x y, s.ctx? c x = some y → y.drawer = none) ∧ s.committing c = false
    let gone := fun (f : Fin 33) (t : State) => (∀ c, s.cabOfFn f c = true →
        ((t.cab c).live = false ∨ ((t.cab c).after = .destroy ∧ (t.cab c).aborting ≠ [])) ∧ (quiet c → (t.cab c).live = false)) ∧
      (vget t.fns f).st = .detached ∧
      (vget t.fns f).win = none ∧ (vget t.fns f).dirty = none
    (s.mainClk = true → (s.host.monitored = true → Does .heartbeatTimeout s lost) ∧ (s.host.monitored = false → Does .heartbeatTimeout s same)) ∧
    (s.linkUp = true → Does .pcieLinkDown s (fun t => lost t ∧ t.linkUp = false)) ∧
    (s.linkUp = false → Does .pcieLinkDown s same) ∧
    (s.mainClk = true → Does .hostStateDiscard s (fun t => t.host = s.host ∧ ∀ f : Fin 33, f.val ≠ 32 →
      ((vget s.fns f).suspended = true → gone f t ∧ (vget t.fns f).gone = true ∧ (vget t.fns f).suspended = false) ∧
      ((vget s.fns f).suspended = false → (vget t.fns f).st = (vget s.fns f).st ∧ (vget t.fns f).win = (vget s.fns f).win ∧
        ∀ c, s.cabOfFn f c = true → (t.cab c).live = true))) ∧
    (∀ f : Fin 33,
      (f.val = 0 → Does (.vfFlr f) s same) ∧
      (1 ≤ f.val → f.val ≤ 31 → s.fnExists f.val = true →
        let cmd := (vget s.fns 0).cmd
        let ends := cmd ≠ [] ∧ (fieldAt cmd 0 1 = 0x16 ∨ fieldAt cmd 0 1 = 0x17) ∧ argOf cmd 0 = f.val
        Does (.vfFlr f) s (fun t =>
          (vget t.fns f).st = (if ∃ c, (t.cab c).fn = f.val ∧ (t.cab c).aborting ≠ [] then .resetting else .detached) ∧
          ((∀ c, (s.cab c).fn = f.val → quiet c) → (vget t.fns f).st = .detached) ∧ (vget t.fns f).win = (vget s.fns f).win ∧
          (vget t.fns f).dirty = (vget s.fns f).dirty ∧ (vget t.fns f).cmd = [] ∧ t.host = s.host ∧
          (∀ c, s.cabOfFn f c = true → (s.cab c).after ≠ .destroy → (t.cab c).live = true ∧
            ((t.cab c).aborting = [] → (t.cab c).sems = Vector.replicate 64 0) ∧ ((t.cab c).aborting ≠ [] → (t.cab c).after = .flr)) ∧
          (ends → (vget t.fns 0).cmd = [] ∧ (vget t.fns 0).sq.tail = (vget s.fns 0).sq.tail) ∧
          (¬ ends → (vget t.fns 0).cmd = cmd ∧ ∀ a, a < 16 → t.msixByte f (16 * a + 12) = 1)))) ∧
    Does .pfFlr s (fun t => t.host.vfEnable = false ∧ t.host.numVfs = 0 ∧ t.host.lostAt ≠ none ∧ (vget t.fns 0).st = .detached ∧
      (vget t.fns 0).bme = false ∧ (∀ c, s.cabOfFn 0 c = true → (t.cab c).live = true) ∧
      ∀ f : Fin 33, 1 ≤ f.val → f.val ≤ 31 → gone f t) ∧
    (s.host.vfEnable = false → Does .vfEnableClear s same) ∧
    (s.host.vfEnable = true → Does .vfEnableClear s (fun t => t.host.vfEnable = false ∧ t.host.numVfs = s.host.numVfs ∧
      (vget t.fns 0).st = (vget s.fns 0).st ∧ ∀ f : Fin 33, 1 ≤ f.val → f.val ≤ 31 → gone f t)) ∧
    (s.pd 41 = true → Does .perstNDeassert s (fun t => t = { s with linkUp := true })) ∧
    (s.pd 41 = false → Does .perstNDeassert s same)

/-! ### Register accesses (00 R5 to R13; 19 R610 to R615) and performance counters (18) -/

/-- Pairs of words (00 R5): a word access that is not naturally aligned gets an error response and changes no register of the pair's block.
Where copy (i, j) of a register of 64 bits lies at `a`, a read of its low word returns the low half of its value and latches the
high half, which a read of the high word returns at any later time while the latch stands, whatever the register holds then.
A write of its low word changes no register's value; a write of the high word at any later time, while the low word stands, has the
effect of a write of the whole value. -/
def Obligations.WideRegistersAreWordPairs : Prop :=
  ∀ (s : State) (m : Master) (a : Nat), s.clkOf m = true → regReach m a = true →
    (a % 4 ≠ 0 → ∀ l, l.length = 4 →
      Does (.lowWordRead m a) s (fun t => t.resp = ⟨stFABRIC_ERR, []⟩ ∧ t.regs.lo = s.regs.lo ∧ t.regs.hi = s.regs.hi) ∧
      Does (.registerWrite m a l) s (fun t => t.resp = ⟨stFABRIC_ERR, []⟩ ∧ t.regs.lo = s.regs.lo ∧ t.regs.eff = s.regs.eff ∧
        SameRegsBut (fun x => 0x40040000 ≤ x ∧ x < 0x40050000) s t)) ∧
    (∀ (r : RegDef) (i j : Nat), s.regRefusal m a 4 = none → findReg a = some (r, i, j, false) →
      findReg (a + 4) = some (r, i, j, true) → r.wide = true → r.is R.PMC_VCORE = false →
      (∀ v, v = s.readReg m r i j →
        Does (.lowWordRead m a) s (fun t => t.resp = ⟨stOK, leBytes (v % 2 ^ 32) 4⟩ ∧
          ∀ u : State, u.regs.hi = t.regs.hi → u.clkOf m = true → u.regRefusal m (a + 4) 4 = none →
            Does (.lowWordRead m (a + 4)) u (fun x => x.resp = ⟨stOK, leBytes (v / 2 ^ 32) 4⟩))) ∧
      (s.mayWriteAny m r i = true → ∀ lo hi : List Byte, lo.length = 4 → hi.length = 4 →
        Does (.registerWrite m a lo) s (fun t => t.resp = ⟨stOK, []⟩ ∧ t.regs.val = s.regs.val ∧ t.regs.eff = s.regs.eff ∧
          t = { s with
            regs := { s.regs with lo := t.regs.lo }
            resp := t.resp } ∧
          ∀ u : State, u.regs.lo = t.regs.lo → u.clkOf m = true → u.regRefusal m (a + 4) 4 = none → u.mayWriteAny m r i = true →
            u.pairOf m r i j = s.pairOf m r i j → Does (.registerWrite m (a + 4) hi) u (fun x =>
              ∃ y : State, y = { u with regs := { u.regs with lo := y.regs.lo } } ∧
                lookupN (2 ^ 32) (u.pairOf m r i j) y.regs.lo = 2 ^ 32 ∧
                x = (y.writeReg m r i j (ofBytes hi * 2 ^ 32 + ofBytes lo)).answer stOK []))))

/-- A write to TE_DRW_IB of a drawer whose BASE_BLK plus BLKS exceeds 32 is ignored as a whole (04 R118), whichever master makes it and
whether or not the drawer is idle: it completes, and every register, the engines and memory stand. -/
def Obligations.AllotmentsStayInside : Prop :=
  ∀ (s : State) (m : Master) (k : EngineId) (d : Fin 8) (l : List Byte), s.clkOf m = true → l.length = 4 →
    (k.val = 16 → d.val = 0) →
    let a := R.TE_DRW_IB.addr k.val d.val
    let v := ofBytes l
    regReach m a = true → s.regRefusal m a 4 = none → 32 < bits v 4 0 + bits v 13 8 →
    Does (.registerWrite m a l) s (fun t => t = s.answer stOK [] ∧
      t.rd F.TE_DRW_IB_BASE_BLK k.val d.val = s.rd F.TE_DRW_IB_BASE_BLK k.val d.val ∧
      t.rd F.TE_DRW_IB_BLKS k.val d.val = s.rd F.TE_DRW_IB_BLKS k.val d.val)

/-- A counter of an engine or of a shared unit that runs at its last value wraps to 0 and sets its OVF bit; where the counter is the
trigger of precise sampling, the next instruction is tagged, or TE_PSB_LOST counts where one is under way or the buffer is full; a
counter that is stopped stands. PERF_FREEZE stops every counter, and lets them run again. A narrow register takes its write at
once; a write that the block's writer rule refuses completes and has no effect; an offset without a register reads 0 and
takes no write. -/
def Obligations.CountersAndPlainRegisters : Prop :=
  (∀ (s : State) (k : Nat) (n : Fin 8), s.mainClk = true → k < 16 →
    let e := engId k
    let wraps := fun (t : State) => t.rd F.TE_PERF_CNT_COUNT k n.val = 0 ∧ bit (t.rd F.TE_PERF_STAT_OVF k) n.val = true ∧ SameMem s t ∧
      SameRegsBut (perfBlock e) s t ∧ SameEnginesBut e s t
    let trig := (s.flag F.TE_PSB_CFG_EN k && s.rd F.TE_PSB_CFG_TRIG k == n.val) = true
    (bit (s.rd F.TE_PERF_CTL_EN k) n.val = true → s.perfFrozen e = false → s.rd F.TE_PERF_CNT_COUNT k n.val = 2 ^ 48 - 1 →
      Does (.counterOverflow false k n) s wraps ∧
      (trig → s.psbUsed e ≠ 256 → s.tagOpen e = false → Does (.counterOverflow false k n) s (fun t => wraps t ∧
        (t.eng e).tagNext = true ∧ t.rd F.TE_PSB_LOST_LOST k = s.rd F.TE_PSB_LOST_LOST k)) ∧
      (trig → (s.psbUsed e = 256 ∨ s.tagOpen e = true) → Does (.counterOverflow false k n) s (fun t => wraps t ∧
        (t.eng e).tagNext = (s.eng e).tagNext ∧ t.rd F.TE_PSB_LOST_LOST k = satInc 32 (s.rd F.TE_PSB_LOST_LOST k)))) ∧
    ((bit (s.rd F.TE_PERF_CTL_EN k) n.val = false ∨ s.perfFrozen e = true) → Does (.counterOverflow false k n) s (fun t => t = s))) ∧
  (∀ (s : State) (u : Nat) (n : Fin 8), s.mainClk = true → u < 4 → n.val < 4 →
    (bit (s.rd F.PERF_CTL_EN u) n.val = true → s.flag F.PERF_FREEZE_FREEZE = false → s.flag F.PERF_CTL_FREEZE u = false →
      s.rd F.PERF_CNT_COUNT u n.val = 2 ^ 48 - 1 → Does (.counterOverflow true u n) s (fun t =>
        t.rd F.PERF_CNT_COUNT u n.val = 0 ∧ bit (t.rd F.PERF_STAT_OVF u) n.val = true ∧ t.engines = s.engines ∧ t.mem = s.mem ∧
        SameRegsBut unitBlock s t)) ∧
    ((bit (s.rd F.PERF_CTL_EN u) n.val = false ∨ s.flag F.PERF_FREEZE_FREEZE = true ∨ s.flag F.PERF_CTL_FREEZE u = true) →
      Does (.counterOverflow true u n) s (fun t => t = s))) ∧
  (∀ (s : State) (m : Master) (on : Bool), s.clkOf m = true → s.pd 61 = true → m ∈ [Master.sch, .pcie 0, .isl 0, .isl 1] →
    Does (.perfFreeze m on) s (fun t => t.flag F.PERF_FREEZE_FREEZE = on ∧ t.engines = s.engines ∧ t.mem = s.mem ∧
      SameRegsBut (fun x => x = R.PERF_FREEZE.addr 0 0) s t ∧ (on = true → ∀ k, t.perfFrozen k = true))) ∧
  (∀ (s : State) (m : Master) (a : Nat) (l : List Byte), s.clkOf m = true → regReach m a = true → s.regRefusal m a 4 = none →
    l.length = 4 →
    (∀ r i j, findReg a = some (r, i, j, false) → r.wide = false → r.is R.PMC_VCORE = false → r.is R.SW_PTP_TS = false →
      Does (.lowWordRead m a) s (fun t => t = s.answer stOK (leBytes (s.readReg m r i j % 2 ^ 32) 4)) ∧
      (s.mayWriteAny m r i = true → Does (.registerWrite m a l) s (fun t => t = (s.writeReg m r i j (ofBytes l)).answer stOK []))) ∧
    (∀ r i j b, findReg a = some (r, i, j, b) → s.mayWriteAny m r i = false → r.blk ≠ .xspi →
      Does (.registerWrite m a l) s (fun t => t = s.answer stOK [])) ∧
    (findReg a = none → Does (.registerWrite m a l) s (fun t => t = s.answer stOK []) ∧
      ((∀ k : EngineId, k.val < 16 → ¬ (0x40109000 + 0x10000 * k.val ≤ a ∧ a < 0x4010A000 + 0x10000 * k.val)) →
        Does (.lowWordRead m a) s (fun t => t = s.answer stOK (leBytes 0 4)))))
end

