-- ==== Sys2Proof/Laws/State.lean ====
section
/-! SUPPORT. What the named updates of State leave alone: one lemma per field and update, each by definition. -/

namespace Sys2Proof.Machine

/-! `State.setReg` -/

@[simp] theorem State.setReg_mem (s : State) (r : RegDef) (i j v : Nat) : (s.setReg r i j v).mem = s.mem := rfl
@[simp] theorem State.setReg_engines (s : State) (r : RegDef) (i j v : Nat) : (s.setReg r i j v).engines = s.engines := rfl
@[simp] theorem State.setReg_sn (s : State) (r : RegDef) (i j v : Nat) : (s.setReg r i j v).sn = s.sn := rfl
@[simp] theorem State.setReg_shares (s : State) (r : RegDef) (i j v : Nat) : (s.setReg r i j v).shares = s.shares := rfl
@[simp] theorem State.setReg_ppus (s : State) (r : RegDef) (i j v : Nat) : (s.setReg r i j v).ppus = s.ppus := rfl
@[simp] theorem State.setReg_cabs (s : State) (r : RegDef) (i j v : Nat) : (s.setReg r i j v).cabs = s.cabs := rfl
@[simp] theorem State.setReg_runClock (s : State) (r : RegDef) (i j v : Nat) : (s.setReg r i j v).runClock = s.runClock := rfl
@[simp] theorem State.setReg_ticks (s : State) (r : RegDef) (i j v : Nat) : (s.setReg r i j v).ticks = s.ticks := rfl
@[simp] theorem State.setReg_mtu (s : State) (r : RegDef) (i j v : Nat) : (s.setReg r i j v).mtu = s.mtu := rfl
@[simp] theorem State.setReg_itu (s : State) (r : RegDef) (i j v : Nat) : (s.setReg r i j v).itu = s.itu := rfl
@[simp] theorem State.setReg_ituBase (s : State) (r : RegDef) (i j v : Nat) : (s.setReg r i j v).ituBase = s.ituBase := rfl
@[simp] theorem State.setReg_fclk (s : State) (r : RegDef) (i j v : Nat) : (s.setReg r i j v).fclk = s.fclk := rfl
@[simp] theorem State.setReg_aclk (s : State) (r : RegDef) (i j v : Nat) : (s.setReg r i j v).aclk = s.aclk := rfl
@[simp] theorem State.setReg_islClk (s : State) (r : RegDef) (i j v : Nat) : (s.setReg r i j v).islClk = s.islClk := rfl
@[simp] theorem State.setReg_pmc (s : State) (r : RegDef) (i j v : Nat) : (s.setReg r i j v).pmc = s.pmc := rfl
@[simp] theorem State.setReg_boot (s : State) (r : RegDef) (i j v : Nat) : (s.setReg r i j v).boot = s.boot := rfl
@[simp] theorem State.setReg_slots (s : State) (r : RegDef) (i j v : Nat) : (s.setReg r i j v).slots = s.slots := rfl
@[simp] theorem State.setReg_outs (s : State) (r : RegDef) (i j v : Nat) : (s.setReg r i j v).outs = s.outs := rfl
@[simp] theorem State.setReg_pulses (s : State) (r : RegDef) (i j v : Nat) : (s.setReg r i j v).pulses = s.pulses := rfl
@[simp] theorem State.setReg_caps (s : State) (r : RegDef) (i j v : Nat) : (s.setReg r i j v).caps = s.caps := rfl
@[simp] theorem State.setReg_capIn (s : State) (r : RegDef) (i j v : Nat) : (s.setReg r i j v).capIn = s.capIn := rfl
@[simp] theorem State.setReg_ga (s : State) (r : RegDef) (i j v : Nat) : (s.setReg r i j v).ga = s.ga := rfl
@[simp] theorem State.setReg_cans (s : State) (r : RegDef) (i j v : Nat) : (s.setReg r i j v).cans = s.cans := rfl
@[simp] theorem State.setReg_sw (s : State) (r : RegDef) (i j v : Nat) : (s.setReg r i j v).sw = s.sw := rfl
@[simp] theorem State.setReg_trs (s : State) (r : RegDef) (i j v : Nat) : (s.setReg r i j v).trs = s.trs := rfl
@[simp] theorem State.setReg_bridge (s : State) (r : RegDef) (i j v : Nat) : (s.setReg r i j v).bridge = s.bridge := rfl
@[simp] theorem State.setReg_isl (s : State) (r : RegDef) (i j v : Nat) : (s.setReg r i j v).isl = s.isl := rfl
@[simp] theorem State.setReg_sec (s : State) (r : RegDef) (i j v : Nat) : (s.setReg r i j v).sec = s.sec := rfl
@[simp] theorem State.setReg_arb (s : State) (r : RegDef) (i j v : Nat) : (s.setReg r i j v).arb = s.arb := rfl
@[simp] theorem State.setReg_fns (s : State) (r : RegDef) (i j v : Nat) : (s.setReg r i j v).fns = s.fns := rfl
@[simp] theorem State.setReg_host (s : State) (r : RegDef) (i j v : Nat) : (s.setReg r i j v).host = s.host := rfl
@[simp] theorem State.setReg_linkUp (s : State) (r : RegDef) (i j v : Nat) : (s.setReg r i j v).linkUp = s.linkUp := rfl
@[simp] theorem State.setReg_winLog2 (s : State) (r : RegDef) (i j v : Nat) : (s.setReg r i j v).winLog2 = s.winLog2 := rfl
@[simp] theorem State.setReg_inj (s : State) (r : RegDef) (i j v : Nat) : (s.setReg r i j v).inj = s.inj := rfl
@[simp] theorem State.setReg_ms (s : State) (r : RegDef) (i j v : Nat) : (s.setReg r i j v).ms = s.ms := rfl
@[simp] theorem State.setReg_hostOut (s : State) (r : RegDef) (i j v : Nat) : (s.setReg r i j v).hostOut = s.hostOut := rfl
@[simp] theorem State.setReg_out (s : State) (r : RegDef) (i j v : Nat) : (s.setReg r i j v).out = s.out := rfl
@[simp] theorem State.setReg_resp (s : State) (r : RegDef) (i j v : Nat) : (s.setReg r i j v).resp = s.resp := rfl
@[simp] theorem State.setReg_freeCtr (s : State) (r : RegDef) (i j v : Nat) : (s.setReg r i j v).freeCtr = s.freeCtr := rfl
@[simp] theorem State.setReg_pending (s : State) (r : RegDef) (i j v : Nat) : (s.setReg r i j v).pending = s.pending := rfl

/-! `State.put` -/

@[simp] theorem State.put_mem (s : State) (f : Fld) (i j v : Nat) : (s.put f i j v).mem = s.mem := rfl
@[simp] theorem State.put_engines (s : State) (f : Fld) (i j v : Nat) : (s.put f i j v).engines = s.engines := rfl
@[simp] theorem State.put_sn (s : State) (f : Fld) (i j v : Nat) : (s.put f i j v).sn = s.sn := rfl
@[simp] theorem State.put_shares (s : State) (f : Fld) (i j v : Nat) : (s.put f i j v).shares = s.shares := rfl
@[simp] theorem State.put_ppus (s : State) (f : Fld) (i j v : Nat) : (s.put f i j v).ppus = s.ppus := rfl
@[simp] theorem State.put_cabs (s : State) (f : Fld) (i j v : Nat) : (s.put f i j v).cabs = s.cabs := rfl
@[simp] theorem State.put_runClock (s : State) (f : Fld) (i j v : Nat) : (s.put f i j v).runClock = s.runClock := rfl
@[simp] theorem State.put_ticks (s : State) (f : Fld) (i j v : Nat) : (s.put f i j v).ticks = s.ticks := rfl
@[simp] theorem State.put_mtu (s : State) (f : Fld) (i j v : Nat) : (s.put f i j v).mtu = s.mtu := rfl
@[simp] theorem State.put_itu (s : State) (f : Fld) (i j v : Nat) : (s.put f i j v).itu = s.itu := rfl
@[simp] theorem State.put_ituBase (s : State) (f : Fld) (i j v : Nat) : (s.put f i j v).ituBase = s.ituBase := rfl
@[simp] theorem State.put_fclk (s : State) (f : Fld) (i j v : Nat) : (s.put f i j v).fclk = s.fclk := rfl
@[simp] theorem State.put_aclk (s : State) (f : Fld) (i j v : Nat) : (s.put f i j v).aclk = s.aclk := rfl
@[simp] theorem State.put_islClk (s : State) (f : Fld) (i j v : Nat) : (s.put f i j v).islClk = s.islClk := rfl
@[simp] theorem State.put_pmc (s : State) (f : Fld) (i j v : Nat) : (s.put f i j v).pmc = s.pmc := rfl
@[simp] theorem State.put_boot (s : State) (f : Fld) (i j v : Nat) : (s.put f i j v).boot = s.boot := rfl
@[simp] theorem State.put_slots (s : State) (f : Fld) (i j v : Nat) : (s.put f i j v).slots = s.slots := rfl
@[simp] theorem State.put_outs (s : State) (f : Fld) (i j v : Nat) : (s.put f i j v).outs = s.outs := rfl
@[simp] theorem State.put_pulses (s : State) (f : Fld) (i j v : Nat) : (s.put f i j v).pulses = s.pulses := rfl
@[simp] theorem State.put_caps (s : State) (f : Fld) (i j v : Nat) : (s.put f i j v).caps = s.caps := rfl
@[simp] theorem State.put_capIn (s : State) (f : Fld) (i j v : Nat) : (s.put f i j v).capIn = s.capIn := rfl
@[simp] theorem State.put_ga (s : State) (f : Fld) (i j v : Nat) : (s.put f i j v).ga = s.ga := rfl
@[simp] theorem State.put_cans (s : State) (f : Fld) (i j v : Nat) : (s.put f i j v).cans = s.cans := rfl
@[simp] theorem State.put_sw (s : State) (f : Fld) (i j v : Nat) : (s.put f i j v).sw = s.sw := rfl
@[simp] theorem State.put_trs (s : State) (f : Fld) (i j v : Nat) : (s.put f i j v).trs = s.trs := rfl
@[simp] theorem State.put_bridge (s : State) (f : Fld) (i j v : Nat) : (s.put f i j v).bridge = s.bridge := rfl
@[simp] theorem State.put_isl (s : State) (f : Fld) (i j v : Nat) : (s.put f i j v).isl = s.isl := rfl
@[simp] theorem State.put_sec (s : State) (f : Fld) (i j v : Nat) : (s.put f i j v).sec = s.sec := rfl
@[simp] theorem State.put_arb (s : State) (f : Fld) (i j v : Nat) : (s.put f i j v).arb = s.arb := rfl
@[simp] theorem State.put_fns (s : State) (f : Fld) (i j v : Nat) : (s.put f i j v).fns = s.fns := rfl
@[simp] theorem State.put_host (s : State) (f : Fld) (i j v : Nat) : (s.put f i j v).host = s.host := rfl
@[simp] theorem State.put_linkUp (s : State) (f : Fld) (i j v : Nat) : (s.put f i j v).linkUp = s.linkUp := rfl
@[simp] theorem State.put_winLog2 (s : State) (f : Fld) (i j v : Nat) : (s.put f i j v).winLog2 = s.winLog2 := rfl
@[simp] theorem State.put_inj (s : State) (f : Fld) (i j v : Nat) : (s.put f i j v).inj = s.inj := rfl
@[simp] theorem State.put_ms (s : State) (f : Fld) (i j v : Nat) : (s.put f i j v).ms = s.ms := rfl
@[simp] theorem State.put_hostOut (s : State) (f : Fld) (i j v : Nat) : (s.put f i j v).hostOut = s.hostOut := rfl
@[simp] theorem State.put_out (s : State) (f : Fld) (i j v : Nat) : (s.put f i j v).out = s.out := rfl
@[simp] theorem State.put_resp (s : State) (f : Fld) (i j v : Nat) : (s.put f i j v).resp = s.resp := rfl
@[simp] theorem State.put_freeCtr (s : State) (f : Fld) (i j v : Nat) : (s.put f i j v).freeCtr = s.freeCtr := rfl
@[simp] theorem State.put_pending (s : State) (f : Fld) (i j v : Nat) : (s.put f i j v).pending = s.pending := rfl

/-! `State.put0` -/

@[simp] theorem State.put0_mem (s : State) (f : Fld) (v : Nat) : (s.put0 f v).mem = s.mem := rfl
@[simp] theorem State.put0_engines (s : State) (f : Fld) (v : Nat) : (s.put0 f v).engines = s.engines := rfl
@[simp] theorem State.put0_sn (s : State) (f : Fld) (v : Nat) : (s.put0 f v).sn = s.sn := rfl
@[simp] theorem State.put0_shares (s : State) (f : Fld) (v : Nat) : (s.put0 f v).shares = s.shares := rfl
@[simp] theorem State.put0_ppus (s : State) (f : Fld) (v : Nat) : (s.put0 f v).ppus = s.ppus := rfl
@[simp] theorem State.put0_cabs (s : State) (f : Fld) (v : Nat) : (s.put0 f v).cabs = s.cabs := rfl
@[simp] theorem State.put0_runClock (s : State) (f : Fld) (v : Nat) : (s.put0 f v).runClock = s.runClock := rfl
@[simp] theorem State.put0_ticks (s : State) (f : Fld) (v : Nat) : (s.put0 f v).ticks = s.ticks := rfl
@[simp] theorem State.put0_mtu (s : State) (f : Fld) (v : Nat) : (s.put0 f v).mtu = s.mtu := rfl
@[simp] theorem State.put0_itu (s : State) (f : Fld) (v : Nat) : (s.put0 f v).itu = s.itu := rfl
@[simp] theorem State.put0_ituBase (s : State) (f : Fld) (v : Nat) : (s.put0 f v).ituBase = s.ituBase := rfl
@[simp] theorem State.put0_fclk (s : State) (f : Fld) (v : Nat) : (s.put0 f v).fclk = s.fclk := rfl
@[simp] theorem State.put0_aclk (s : State) (f : Fld) (v : Nat) : (s.put0 f v).aclk = s.aclk := rfl
@[simp] theorem State.put0_islClk (s : State) (f : Fld) (v : Nat) : (s.put0 f v).islClk = s.islClk := rfl
@[simp] theorem State.put0_pmc (s : State) (f : Fld) (v : Nat) : (s.put0 f v).pmc = s.pmc := rfl
@[simp] theorem State.put0_boot (s : State) (f : Fld) (v : Nat) : (s.put0 f v).boot = s.boot := rfl
@[simp] theorem State.put0_slots (s : State) (f : Fld) (v : Nat) : (s.put0 f v).slots = s.slots := rfl
@[simp] theorem State.put0_outs (s : State) (f : Fld) (v : Nat) : (s.put0 f v).outs = s.outs := rfl
@[simp] theorem State.put0_pulses (s : State) (f : Fld) (v : Nat) : (s.put0 f v).pulses = s.pulses := rfl
@[simp] theorem State.put0_caps (s : State) (f : Fld) (v : Nat) : (s.put0 f v).caps = s.caps := rfl
@[simp] theorem State.put0_capIn (s : State) (f : Fld) (v : Nat) : (s.put0 f v).capIn = s.capIn := rfl
@[simp] theorem State.put0_ga (s : State) (f : Fld) (v : Nat) : (s.put0 f v).ga = s.ga := rfl
@[simp] theorem State.put0_cans (s : State) (f : Fld) (v : Nat) : (s.put0 f v).cans = s.cans := rfl
@[simp] theorem State.put0_sw (s : State) (f : Fld) (v : Nat) : (s.put0 f v).sw = s.sw := rfl
@[simp] theorem State.put0_trs (s : State) (f : Fld) (v : Nat) : (s.put0 f v).trs = s.trs := rfl
@[simp] theorem State.put0_bridge (s : State) (f : Fld) (v : Nat) : (s.put0 f v).bridge = s.bridge := rfl
@[simp] theorem State.put0_isl (s : State) (f : Fld) (v : Nat) : (s.put0 f v).isl = s.isl := rfl
@[simp] theorem State.put0_sec (s : State) (f : Fld) (v : Nat) : (s.put0 f v).sec = s.sec := rfl
@[simp] theorem State.put0_arb (s : State) (f : Fld) (v : Nat) : (s.put0 f v).arb = s.arb := rfl
@[simp] theorem State.put0_fns (s : State) (f : Fld) (v : Nat) : (s.put0 f v).fns = s.fns := rfl
@[simp] theorem State.put0_host (s : State) (f : Fld) (v : Nat) : (s.put0 f v).host = s.host := rfl
@[simp] theorem State.put0_linkUp (s : State) (f : Fld) (v : Nat) : (s.put0 f v).linkUp = s.linkUp := rfl
@[simp] theorem State.put0_winLog2 (s : State) (f : Fld) (v : Nat) : (s.put0 f v).winLog2 = s.winLog2 := rfl
@[simp] theorem State.put0_inj (s : State) (f : Fld) (v : Nat) : (s.put0 f v).inj = s.inj := rfl
@[simp] theorem State.put0_ms (s : State) (f : Fld) (v : Nat) : (s.put0 f v).ms = s.ms := rfl
@[simp] theorem State.put0_hostOut (s : State) (f : Fld) (v : Nat) : (s.put0 f v).hostOut = s.hostOut := rfl
@[simp] theorem State.put0_out (s : State) (f : Fld) (v : Nat) : (s.put0 f v).out = s.out := rfl
@[simp] theorem State.put0_resp (s : State) (f : Fld) (v : Nat) : (s.put0 f v).resp = s.resp := rfl
@[simp] theorem State.put0_freeCtr (s : State) (f : Fld) (v : Nat) : (s.put0 f v).freeCtr = s.freeCtr := rfl
@[simp] theorem State.put0_pending (s : State) (f : Fld) (v : Nat) : (s.put0 f v).pending = s.pending := rfl

/-! `State.takeEffect` -/

@[simp] theorem State.takeEffect_mem (s : State) (r : RegDef) (i j : Nat) : (s.takeEffect r i j).mem = s.mem := rfl
@[simp] theorem State.takeEffect_engines (s : State) (r : RegDef) (i j : Nat) : (s.takeEffect r i j).engines = s.engines := rfl
@[simp] theorem State.takeEffect_sn (s : State) (r : RegDef) (i j : Nat) : (s.takeEffect r i j).sn = s.sn := rfl
@[simp] theorem State.takeEffect_shares (s : State) (r : RegDef) (i j : Nat) : (s.takeEffect r i j).shares = s.shares := rfl
@[simp] theorem State.takeEffect_ppus (s : State) (r : RegDef) (i j : Nat) : (s.takeEffect r i j).ppus = s.ppus := rfl
@[simp] theorem State.takeEffect_cabs (s : State) (r : RegDef) (i j : Nat) : (s.takeEffect r i j).cabs = s.cabs := rfl
@[simp] theorem State.takeEffect_runClock (s : State) (r : RegDef) (i j : Nat) : (s.takeEffect r i j).runClock = s.runClock := rfl
@[simp] theorem State.takeEffect_ticks (s : State) (r : RegDef) (i j : Nat) : (s.takeEffect r i j).ticks = s.ticks := rfl
@[simp] theorem State.takeEffect_mtu (s : State) (r : RegDef) (i j : Nat) : (s.takeEffect r i j).mtu = s.mtu := rfl
@[simp] theorem State.takeEffect_itu (s : State) (r : RegDef) (i j : Nat) : (s.takeEffect r i j).itu = s.itu := rfl
@[simp] theorem State.takeEffect_ituBase (s : State) (r : RegDef) (i j : Nat) : (s.takeEffect r i j).ituBase = s.ituBase := rfl
@[simp] theorem State.takeEffect_fclk (s : State) (r : RegDef) (i j : Nat) : (s.takeEffect r i j).fclk = s.fclk := rfl
@[simp] theorem State.takeEffect_aclk (s : State) (r : RegDef) (i j : Nat) : (s.takeEffect r i j).aclk = s.aclk := rfl
@[simp] theorem State.takeEffect_islClk (s : State) (r : RegDef) (i j : Nat) : (s.takeEffect r i j).islClk = s.islClk := rfl
@[simp] theorem State.takeEffect_pmc (s : State) (r : RegDef) (i j : Nat) : (s.takeEffect r i j).pmc = s.pmc := rfl
@[simp] theorem State.takeEffect_boot (s : State) (r : RegDef) (i j : Nat) : (s.takeEffect r i j).boot = s.boot := rfl
@[simp] theorem State.takeEffect_slots (s : State) (r : RegDef) (i j : Nat) : (s.takeEffect r i j).slots = s.slots := rfl
@[simp] theorem State.takeEffect_outs (s : State) (r : RegDef) (i j : Nat) : (s.takeEffect r i j).outs = s.outs := rfl
@[simp] theorem State.takeEffect_pulses (s : State) (r : RegDef) (i j : Nat) : (s.takeEffect r i j).pulses = s.pulses := rfl
@[simp] theorem State.takeEffect_caps (s : State) (r : RegDef) (i j : Nat) : (s.takeEffect r i j).caps = s.caps := rfl
@[simp] theorem State.takeEffect_capIn (s : State) (r : RegDef) (i j : Nat) : (s.takeEffect r i j).capIn = s.capIn := rfl
@[simp] theorem State.takeEffect_ga (s : State) (r : RegDef) (i j : Nat) : (s.takeEffect r i j).ga = s.ga := rfl
@[simp] theorem State.takeEffect_cans (s : State) (r : RegDef) (i j : Nat) : (s.takeEffect r i j).cans = s.cans := rfl
@[simp] theorem State.takeEffect_sw (s : State) (r : RegDef) (i j : Nat) : (s.takeEffect r i j).sw = s.sw := rfl
@[simp] theorem State.takeEffect_trs (s : State) (r : RegDef) (i j : Nat) : (s.takeEffect r i j).trs = s.trs := rfl
@[simp] theorem State.takeEffect_bridge (s : State) (r : RegDef) (i j : Nat) : (s.takeEffect r i j).bridge = s.bridge := rfl
@[simp] theorem State.takeEffect_isl (s : State) (r : RegDef) (i j : Nat) : (s.takeEffect r i j).isl = s.isl := rfl
@[simp] theorem State.takeEffect_sec (s : State) (r : RegDef) (i j : Nat) : (s.takeEffect r i j).sec = s.sec := rfl
@[simp] theorem State.takeEffect_arb (s : State) (r : RegDef) (i j : Nat) : (s.takeEffect r i j).arb = s.arb := rfl
@[simp] theorem State.takeEffect_fns (s : State) (r : RegDef) (i j : Nat) : (s.takeEffect r i j).fns = s.fns := rfl
@[simp] theorem State.takeEffect_host (s : State) (r : RegDef) (i j : Nat) : (s.takeEffect r i j).host = s.host := rfl
@[simp] theorem State.takeEffect_linkUp (s : State) (r : RegDef) (i j : Nat) : (s.takeEffect r i j).linkUp = s.linkUp := rfl
@[simp] theorem State.takeEffect_winLog2 (s : State) (r : RegDef) (i j : Nat) : (s.takeEffect r i j).winLog2 = s.winLog2 := rfl
@[simp] theorem State.takeEffect_inj (s : State) (r : RegDef) (i j : Nat) : (s.takeEffect r i j).inj = s.inj := rfl
@[simp] theorem State.takeEffect_ms (s : State) (r : RegDef) (i j : Nat) : (s.takeEffect r i j).ms = s.ms := rfl
@[simp] theorem State.takeEffect_hostOut (s : State) (r : RegDef) (i j : Nat) : (s.takeEffect r i j).hostOut = s.hostOut := rfl
@[simp] theorem State.takeEffect_out (s : State) (r : RegDef) (i j : Nat) : (s.takeEffect r i j).out = s.out := rfl
@[simp] theorem State.takeEffect_resp (s : State) (r : RegDef) (i j : Nat) : (s.takeEffect r i j).resp = s.resp := rfl
@[simp] theorem State.takeEffect_freeCtr (s : State) (r : RegDef) (i j : Nat) : (s.takeEffect r i j).freeCtr = s.freeCtr := rfl
@[simp] theorem State.takeEffect_pending (s : State) (r : RegDef) (i j : Nat) : (s.takeEffect r i j).pending = s.pending := rfl

/-! `State.resetRegs` -/

@[simp] theorem State.resetRegs_mem (s : State) (a n : Nat) : (s.resetRegs a n).mem = s.mem := rfl
@[simp] theorem State.resetRegs_engines (s : State) (a n : Nat) : (s.resetRegs a n).engines = s.engines := rfl
@[simp] theorem State.resetRegs_sn (s : State) (a n : Nat) : (s.resetRegs a n).sn = s.sn := rfl
@[simp] theorem State.resetRegs_shares (s : State) (a n : Nat) : (s.resetRegs a n).shares = s.shares := rfl
@[simp] theorem State.resetRegs_ppus (s : State) (a n : Nat) : (s.resetRegs a n).ppus = s.ppus := rfl
@[simp] theorem State.resetRegs_cabs (s : State) (a n : Nat) : (s.resetRegs a n).cabs = s.cabs := rfl
@[simp] theorem State.resetRegs_runClock (s : State) (a n : Nat) : (s.resetRegs a n).runClock = s.runClock := rfl
@[simp] theorem State.resetRegs_ticks (s : State) (a n : Nat) : (s.resetRegs a n).ticks = s.ticks := rfl
@[simp] theorem State.resetRegs_mtu (s : State) (a n : Nat) : (s.resetRegs a n).mtu = s.mtu := rfl
@[simp] theorem State.resetRegs_itu (s : State) (a n : Nat) : (s.resetRegs a n).itu = s.itu := rfl
@[simp] theorem State.resetRegs_ituBase (s : State) (a n : Nat) : (s.resetRegs a n).ituBase = s.ituBase := rfl
@[simp] theorem State.resetRegs_fclk (s : State) (a n : Nat) : (s.resetRegs a n).fclk = s.fclk := rfl
@[simp] theorem State.resetRegs_aclk (s : State) (a n : Nat) : (s.resetRegs a n).aclk = s.aclk := rfl
@[simp] theorem State.resetRegs_islClk (s : State) (a n : Nat) : (s.resetRegs a n).islClk = s.islClk := rfl
@[simp] theorem State.resetRegs_pmc (s : State) (a n : Nat) : (s.resetRegs a n).pmc = s.pmc := rfl
@[simp] theorem State.resetRegs_boot (s : State) (a n : Nat) : (s.resetRegs a n).boot = s.boot := rfl
@[simp] theorem State.resetRegs_slots (s : State) (a n : Nat) : (s.resetRegs a n).slots = s.slots := rfl
@[simp] theorem State.resetRegs_outs (s : State) (a n : Nat) : (s.resetRegs a n).outs = s.outs := rfl
@[simp] theorem State.resetRegs_pulses (s : State) (a n : Nat) : (s.resetRegs a n).pulses = s.pulses := rfl
@[simp] theorem State.resetRegs_caps (s : State) (a n : Nat) : (s.resetRegs a n).caps = s.caps := rfl
@[simp] theorem State.resetRegs_capIn (s : State) (a n : Nat) : (s.resetRegs a n).capIn = s.capIn := rfl
@[simp] theorem State.resetRegs_ga (s : State) (a n : Nat) : (s.resetRegs a n).ga = s.ga := rfl
@[simp] theorem State.resetRegs_cans (s : State) (a n : Nat) : (s.resetRegs a n).cans = s.cans := rfl
@[simp] theorem State.resetRegs_sw (s : State) (a n : Nat) : (s.resetRegs a n).sw = s.sw := rfl
@[simp] theorem State.resetRegs_trs (s : State) (a n : Nat) : (s.resetRegs a n).trs = s.trs := rfl
@[simp] theorem State.resetRegs_bridge (s : State) (a n : Nat) : (s.resetRegs a n).bridge = s.bridge := rfl
@[simp] theorem State.resetRegs_isl (s : State) (a n : Nat) : (s.resetRegs a n).isl = s.isl := rfl
@[simp] theorem State.resetRegs_sec (s : State) (a n : Nat) : (s.resetRegs a n).sec = s.sec := rfl
@[simp] theorem State.resetRegs_arb (s : State) (a n : Nat) : (s.resetRegs a n).arb = s.arb := rfl
@[simp] theorem State.resetRegs_fns (s : State) (a n : Nat) : (s.resetRegs a n).fns = s.fns := rfl
@[simp] theorem State.resetRegs_host (s : State) (a n : Nat) : (s.resetRegs a n).host = s.host := rfl
@[simp] theorem State.resetRegs_linkUp (s : State) (a n : Nat) : (s.resetRegs a n).linkUp = s.linkUp := rfl
@[simp] theorem State.resetRegs_winLog2 (s : State) (a n : Nat) : (s.resetRegs a n).winLog2 = s.winLog2 := rfl
@[simp] theorem State.resetRegs_inj (s : State) (a n : Nat) : (s.resetRegs a n).inj = s.inj := rfl
@[simp] theorem State.resetRegs_ms (s : State) (a n : Nat) : (s.resetRegs a n).ms = s.ms := rfl
@[simp] theorem State.resetRegs_hostOut (s : State) (a n : Nat) : (s.resetRegs a n).hostOut = s.hostOut := rfl
@[simp] theorem State.resetRegs_out (s : State) (a n : Nat) : (s.resetRegs a n).out = s.out := rfl
@[simp] theorem State.resetRegs_resp (s : State) (a n : Nat) : (s.resetRegs a n).resp = s.resp := rfl
@[simp] theorem State.resetRegs_freeCtr (s : State) (a n : Nat) : (s.resetRegs a n).freeCtr = s.freeCtr := rfl
@[simp] theorem State.resetRegs_pending (s : State) (a n : Nat) : (s.resetRegs a n).pending = s.pending := rfl

/-! `State.teErr` -/

@[simp] theorem State.teErr_mem (s : State) (k : EngineId) (f : Fld) : (s.teErr k f).mem = s.mem := rfl
@[simp] theorem State.teErr_engines (s : State) (k : EngineId) (f : Fld) : (s.teErr k f).engines = s.engines := rfl
@[simp] theorem State.teErr_sn (s : State) (k : EngineId) (f : Fld) : (s.teErr k f).sn = s.sn := rfl
@[simp] theorem State.teErr_shares (s : State) (k : EngineId) (f : Fld) : (s.teErr k f).shares = s.shares := rfl
@[simp] theorem State.teErr_ppus (s : State) (k : EngineId) (f : Fld) : (s.teErr k f).ppus = s.ppus := rfl
@[simp] theorem State.teErr_cabs (s : State) (k : EngineId) (f : Fld) : (s.teErr k f).cabs = s.cabs := rfl
@[simp] theorem State.teErr_runClock (s : State) (k : EngineId) (f : Fld) : (s.teErr k f).runClock = s.runClock := rfl
@[simp] theorem State.teErr_ticks (s : State) (k : EngineId) (f : Fld) : (s.teErr k f).ticks = s.ticks := rfl
@[simp] theorem State.teErr_mtu (s : State) (k : EngineId) (f : Fld) : (s.teErr k f).mtu = s.mtu := rfl
@[simp] theorem State.teErr_itu (s : State) (k : EngineId) (f : Fld) : (s.teErr k f).itu = s.itu := rfl
@[simp] theorem State.teErr_ituBase (s : State) (k : EngineId) (f : Fld) : (s.teErr k f).ituBase = s.ituBase := rfl
@[simp] theorem State.teErr_fclk (s : State) (k : EngineId) (f : Fld) : (s.teErr k f).fclk = s.fclk := rfl
@[simp] theorem State.teErr_aclk (s : State) (k : EngineId) (f : Fld) : (s.teErr k f).aclk = s.aclk := rfl
@[simp] theorem State.teErr_islClk (s : State) (k : EngineId) (f : Fld) : (s.teErr k f).islClk = s.islClk := rfl
@[simp] theorem State.teErr_pmc (s : State) (k : EngineId) (f : Fld) : (s.teErr k f).pmc = s.pmc := rfl
@[simp] theorem State.teErr_boot (s : State) (k : EngineId) (f : Fld) : (s.teErr k f).boot = s.boot := rfl
@[simp] theorem State.teErr_slots (s : State) (k : EngineId) (f : Fld) : (s.teErr k f).slots = s.slots := rfl
@[simp] theorem State.teErr_outs (s : State) (k : EngineId) (f : Fld) : (s.teErr k f).outs = s.outs := rfl
@[simp] theorem State.teErr_pulses (s : State) (k : EngineId) (f : Fld) : (s.teErr k f).pulses = s.pulses := rfl
@[simp] theorem State.teErr_caps (s : State) (k : EngineId) (f : Fld) : (s.teErr k f).caps = s.caps := rfl
@[simp] theorem State.teErr_capIn (s : State) (k : EngineId) (f : Fld) : (s.teErr k f).capIn = s.capIn := rfl
@[simp] theorem State.teErr_ga (s : State) (k : EngineId) (f : Fld) : (s.teErr k f).ga = s.ga := rfl
@[simp] theorem State.teErr_cans (s : State) (k : EngineId) (f : Fld) : (s.teErr k f).cans = s.cans := rfl
@[simp] theorem State.teErr_sw (s : State) (k : EngineId) (f : Fld) : (s.teErr k f).sw = s.sw := rfl
@[simp] theorem State.teErr_trs (s : State) (k : EngineId) (f : Fld) : (s.teErr k f).trs = s.trs := rfl
@[simp] theorem State.teErr_bridge (s : State) (k : EngineId) (f : Fld) : (s.teErr k f).bridge = s.bridge := rfl
@[simp] theorem State.teErr_isl (s : State) (k : EngineId) (f : Fld) : (s.teErr k f).isl = s.isl := rfl
@[simp] theorem State.teErr_sec (s : State) (k : EngineId) (f : Fld) : (s.teErr k f).sec = s.sec := rfl
@[simp] theorem State.teErr_arb (s : State) (k : EngineId) (f : Fld) : (s.teErr k f).arb = s.arb := rfl
@[simp] theorem State.teErr_fns (s : State) (k : EngineId) (f : Fld) : (s.teErr k f).fns = s.fns := rfl
@[simp] theorem State.teErr_host (s : State) (k : EngineId) (f : Fld) : (s.teErr k f).host = s.host := rfl
@[simp] theorem State.teErr_linkUp (s : State) (k : EngineId) (f : Fld) : (s.teErr k f).linkUp = s.linkUp := rfl
@[simp] theorem State.teErr_winLog2 (s : State) (k : EngineId) (f : Fld) : (s.teErr k f).winLog2 = s.winLog2 := rfl
@[simp] theorem State.teErr_inj (s : State) (k : EngineId) (f : Fld) : (s.teErr k f).inj = s.inj := rfl
@[simp] theorem State.teErr_ms (s : State) (k : EngineId) (f : Fld) : (s.teErr k f).ms = s.ms := rfl
@[simp] theorem State.teErr_hostOut (s : State) (k : EngineId) (f : Fld) : (s.teErr k f).hostOut = s.hostOut := rfl
@[simp] theorem State.teErr_out (s : State) (k : EngineId) (f : Fld) : (s.teErr k f).out = s.out := rfl
@[simp] theorem State.teErr_resp (s : State) (k : EngineId) (f : Fld) : (s.teErr k f).resp = s.resp := rfl
@[simp] theorem State.teErr_freeCtr (s : State) (k : EngineId) (f : Fld) : (s.teErr k f).freeCtr = s.freeCtr := rfl
@[simp] theorem State.teErr_pending (s : State) (k : EngineId) (f : Fld) : (s.teErr k f).pending = s.pending := rfl

/-! `State.modEng` -/

@[simp] theorem State.modEng_mem (s : State) (k : EngineId) (f : Engine → Engine) : (s.modEng k f).mem = s.mem := rfl
@[simp] theorem State.modEng_regs (s : State) (k : EngineId) (f : Engine → Engine) : (s.modEng k f).regs = s.regs := rfl
@[simp] theorem State.modEng_sn (s : State) (k : EngineId) (f : Engine → Engine) : (s.modEng k f).sn = s.sn := rfl
@[simp] theorem State.modEng_shares (s : State) (k : EngineId) (f : Engine → Engine) : (s.modEng k f).shares = s.shares := rfl
@[simp] theorem State.modEng_ppus (s : State) (k : EngineId) (f : Engine → Engine) : (s.modEng k f).ppus = s.ppus := rfl
@[simp] theorem State.modEng_cabs (s : State) (k : EngineId) (f : Engine → Engine) : (s.modEng k f).cabs = s.cabs := rfl
@[simp] theorem State.modEng_runClock (s : State) (k : EngineId) (f : Engine → Engine) : (s.modEng k f).runClock = s.runClock := rfl
@[simp] theorem State.modEng_ticks (s : State) (k : EngineId) (f : Engine → Engine) : (s.modEng k f).ticks = s.ticks := rfl
@[simp] theorem State.modEng_mtu (s : State) (k : EngineId) (f : Engine → Engine) : (s.modEng k f).mtu = s.mtu := rfl
@[simp] theorem State.modEng_itu (s : State) (k : EngineId) (f : Engine → Engine) : (s.modEng k f).itu = s.itu := rfl
@[simp] theorem State.modEng_ituBase (s : State) (k : EngineId) (f : Engine → Engine) : (s.modEng k f).ituBase = s.ituBase := rfl
@[simp] theorem State.modEng_fclk (s : State) (k : EngineId) (f : Engine → Engine) : (s.modEng k f).fclk = s.fclk := rfl
@[simp] theorem State.modEng_aclk (s : State) (k : EngineId) (f : Engine → Engine) : (s.modEng k f).aclk = s.aclk := rfl
@[simp] theorem State.modEng_islClk (s : State) (k : EngineId) (f : Engine → Engine) : (s.modEng k f).islClk = s.islClk := rfl
@[simp] theorem State.modEng_pmc (s : State) (k : EngineId) (f : Engine → Engine) : (s.modEng k f).pmc = s.pmc := rfl
@[simp] theorem State.modEng_boot (s : State) (k : EngineId) (f : Engine → Engine) : (s.modEng k f).boot = s.boot := rfl
@[simp] theorem State.modEng_slots (s : State) (k : EngineId) (f : Engine → Engine) : (s.modEng k f).slots = s.slots := rfl
@[simp] theorem State.modEng_outs (s : State) (k : EngineId) (f : Engine → Engine) : (s.modEng k f).outs = s.outs := rfl
@[simp] theorem State.modEng_pulses (s : State) (k : EngineId) (f : Engine → Engine) : (s.modEng k f).pulses = s.pulses := rfl
@[simp] theorem State.modEng_caps (s : State) (k : EngineId) (f : Engine → Engine) : (s.modEng k f).caps = s.caps := rfl
@[simp] theorem State.modEng_capIn (s : State) (k : EngineId) (f : Engine → Engine) : (s.modEng k f).capIn = s.capIn := rfl
@[simp] theorem State.modEng_ga (s : State) (k : EngineId) (f : Engine → Engine) : (s.modEng k f).ga = s.ga := rfl
@[simp] theorem State.modEng_cans (s : State) (k : EngineId) (f : Engine → Engine) : (s.modEng k f).cans = s.cans := rfl
@[simp] theorem State.modEng_sw (s : State) (k : EngineId) (f : Engine → Engine) : (s.modEng k f).sw = s.sw := rfl
@[simp] theorem State.modEng_trs (s : State) (k : EngineId) (f : Engine → Engine) : (s.modEng k f).trs = s.trs := rfl
@[simp] theorem State.modEng_bridge (s : State) (k : EngineId) (f : Engine → Engine) : (s.modEng k f).bridge = s.bridge := rfl
@[simp] theorem State.modEng_isl (s : State) (k : EngineId) (f : Engine → Engine) : (s.modEng k f).isl = s.isl := rfl
@[simp] theorem State.modEng_sec (s : State) (k : EngineId) (f : Engine → Engine) : (s.modEng k f).sec = s.sec := rfl
@[simp] theorem State.modEng_arb (s : State) (k : EngineId) (f : Engine → Engine) : (s.modEng k f).arb = s.arb := rfl
@[simp] theorem State.modEng_fns (s : State) (k : EngineId) (f : Engine → Engine) : (s.modEng k f).fns = s.fns := rfl
@[simp] theorem State.modEng_host (s : State) (k : EngineId) (f : Engine → Engine) : (s.modEng k f).host = s.host := rfl
@[simp] theorem State.modEng_linkUp (s : State) (k : EngineId) (f : Engine → Engine) : (s.modEng k f).linkUp = s.linkUp := rfl
@[simp] theorem State.modEng_winLog2 (s : State) (k : EngineId) (f : Engine → Engine) : (s.modEng k f).winLog2 = s.winLog2 := rfl
@[simp] theorem State.modEng_inj (s : State) (k : EngineId) (f : Engine → Engine) : (s.modEng k f).inj = s.inj := rfl
@[simp] theorem State.modEng_ms (s : State) (k : EngineId) (f : Engine → Engine) : (s.modEng k f).ms = s.ms := rfl
@[simp] theorem State.modEng_hostOut (s : State) (k : EngineId) (f : Engine → Engine) : (s.modEng k f).hostOut = s.hostOut := rfl
@[simp] theorem State.modEng_out (s : State) (k : EngineId) (f : Engine → Engine) : (s.modEng k f).out = s.out := rfl
@[simp] theorem State.modEng_resp (s : State) (k : EngineId) (f : Engine → Engine) : (s.modEng k f).resp = s.resp := rfl
@[simp] theorem State.modEng_freeCtr (s : State) (k : EngineId) (f : Engine → Engine) : (s.modEng k f).freeCtr = s.freeCtr := rfl
@[simp] theorem State.modEng_pending (s : State) (k : EngineId) (f : Engine → Engine) : (s.modEng k f).pending = s.pending := rfl

/-! `State.modDrw` -/

@[simp] theorem State.modDrw_mem (s : State) (k : EngineId) (d : Fin 8) (f : Drawer → Drawer) : (s.modDrw k d f).mem = s.mem := rfl
@[simp] theorem State.modDrw_regs (s : State) (k : EngineId) (d : Fin 8) (f : Drawer → Drawer) : (s.modDrw k d f).regs = s.regs := rfl
@[simp] theorem State.modDrw_sn (s : State) (k : EngineId) (d : Fin 8) (f : Drawer → Drawer) : (s.modDrw k d f).sn = s.sn := rfl
@[simp] theorem State.modDrw_shares (s : State) (k : EngineId) (d : Fin 8) (f : Drawer → Drawer) : (s.modDrw k d f).shares = s.shares := rfl
@[simp] theorem State.modDrw_ppus (s : State) (k : EngineId) (d : Fin 8) (f : Drawer → Drawer) : (s.modDrw k d f).ppus = s.ppus := rfl
@[simp] theorem State.modDrw_cabs (s : State) (k : EngineId) (d : Fin 8) (f : Drawer → Drawer) : (s.modDrw k d f).cabs = s.cabs := rfl
@[simp] theorem State.modDrw_runClock (s : State) (k : EngineId) (d : Fin 8) (f : Drawer → Drawer) : (s.modDrw k d f).runClock = s.runClock := rfl
@[simp] theorem State.modDrw_ticks (s : State) (k : EngineId) (d : Fin 8) (f : Drawer → Drawer) : (s.modDrw k d f).ticks = s.ticks := rfl
@[simp] theorem State.modDrw_mtu (s : State) (k : EngineId) (d : Fin 8) (f : Drawer → Drawer) : (s.modDrw k d f).mtu = s.mtu := rfl
@[simp] theorem State.modDrw_itu (s : State) (k : EngineId) (d : Fin 8) (f : Drawer → Drawer) : (s.modDrw k d f).itu = s.itu := rfl
@[simp] theorem State.modDrw_ituBase (s : State) (k : EngineId) (d : Fin 8) (f : Drawer → Drawer) : (s.modDrw k d f).ituBase = s.ituBase := rfl
@[simp] theorem State.modDrw_fclk (s : State) (k : EngineId) (d : Fin 8) (f : Drawer → Drawer) : (s.modDrw k d f).fclk = s.fclk := rfl
@[simp] theorem State.modDrw_aclk (s : State) (k : EngineId) (d : Fin 8) (f : Drawer → Drawer) : (s.modDrw k d f).aclk = s.aclk := rfl
@[simp] theorem State.modDrw_islClk (s : State) (k : EngineId) (d : Fin 8) (f : Drawer → Drawer) : (s.modDrw k d f).islClk = s.islClk := rfl
@[simp] theorem State.modDrw_pmc (s : State) (k : EngineId) (d : Fin 8) (f : Drawer → Drawer) : (s.modDrw k d f).pmc = s.pmc := rfl
@[simp] theorem State.modDrw_boot (s : State) (k : EngineId) (d : Fin 8) (f : Drawer → Drawer) : (s.modDrw k d f).boot = s.boot := rfl
@[simp] theorem State.modDrw_slots (s : State) (k : EngineId) (d : Fin 8) (f : Drawer → Drawer) : (s.modDrw k d f).slots = s.slots := rfl
@[simp] theorem State.modDrw_outs (s : State) (k : EngineId) (d : Fin 8) (f : Drawer → Drawer) : (s.modDrw k d f).outs = s.outs := rfl
@[simp] theorem State.modDrw_pulses (s : State) (k : EngineId) (d : Fin 8) (f : Drawer → Drawer) : (s.modDrw k d f).pulses = s.pulses := rfl
@[simp] theorem State.modDrw_caps (s : State) (k : EngineId) (d : Fin 8) (f : Drawer → Drawer) : (s.modDrw k d f).caps = s.caps := rfl
@[simp] theorem State.modDrw_capIn (s : State) (k : EngineId) (d : Fin 8) (f : Drawer → Drawer) : (s.modDrw k d f).capIn = s.capIn := rfl
@[simp] theorem State.modDrw_ga (s : State) (k : EngineId) (d : Fin 8) (f : Drawer → Drawer) : (s.modDrw k d f).ga = s.ga := rfl
@[simp] theorem State.modDrw_cans (s : State) (k : EngineId) (d : Fin 8) (f : Drawer → Drawer) : (s.modDrw k d f).cans = s.cans := rfl
@[simp] theorem State.modDrw_sw (s : State) (k : EngineId) (d : Fin 8) (f : Drawer → Drawer) : (s.modDrw k d f).sw = s.sw := rfl
@[simp] theorem State.modDrw_trs (s : State) (k : EngineId) (d : Fin 8) (f : Drawer → Drawer) : (s.modDrw k d f).trs = s.trs := rfl
@[simp] theorem State.modDrw_bridge (s : State) (k : EngineId) (d : Fin 8) (f : Drawer → Drawer) : (s.modDrw k d f).bridge = s.bridge := rfl
@[simp] theorem State.modDrw_isl (s : State) (k : EngineId) (d : Fin 8) (f : Drawer → Drawer) : (s.modDrw k d f).isl = s.isl := rfl
@[simp] theorem State.modDrw_sec (s : State) (k : EngineId) (d : Fin 8) (f : Drawer → Drawer) : (s.modDrw k d f).sec = s.sec := rfl
@[simp] theorem State.modDrw_arb (s : State) (k : EngineId) (d : Fin 8) (f : Drawer → Drawer) : (s.modDrw k d f).arb = s.arb := rfl
@[simp] theorem State.modDrw_fns (s : State) (k : EngineId) (d : Fin 8) (f : Drawer → Drawer) : (s.modDrw k d f).fns = s.fns := rfl
@[simp] theorem State.modDrw_host (s : State) (k : EngineId) (d : Fin 8) (f : Drawer → Drawer) : (s.modDrw k d f).host = s.host := rfl
@[simp] theorem State.modDrw_linkUp (s : State) (k : EngineId) (d : Fin 8) (f : Drawer → Drawer) : (s.modDrw k d f).linkUp = s.linkUp := rfl
@[simp] theorem State.modDrw_winLog2 (s : State) (k : EngineId) (d : Fin 8) (f : Drawer → Drawer) : (s.modDrw k d f).winLog2 = s.winLog2 := rfl
@[simp] theorem State.modDrw_inj (s : State) (k : EngineId) (d : Fin 8) (f : Drawer → Drawer) : (s.modDrw k d f).inj = s.inj := rfl
@[simp] theorem State.modDrw_ms (s : State) (k : EngineId) (d : Fin 8) (f : Drawer → Drawer) : (s.modDrw k d f).ms = s.ms := rfl
@[simp] theorem State.modDrw_hostOut (s : State) (k : EngineId) (d : Fin 8) (f : Drawer → Drawer) : (s.modDrw k d f).hostOut = s.hostOut := rfl
@[simp] theorem State.modDrw_out (s : State) (k : EngineId) (d : Fin 8) (f : Drawer → Drawer) : (s.modDrw k d f).out = s.out := rfl
@[simp] theorem State.modDrw_resp (s : State) (k : EngineId) (d : Fin 8) (f : Drawer → Drawer) : (s.modDrw k d f).resp = s.resp := rfl
@[simp] theorem State.modDrw_freeCtr (s : State) (k : EngineId) (d : Fin 8) (f : Drawer → Drawer) : (s.modDrw k d f).freeCtr = s.freeCtr := rfl
@[simp] theorem State.modDrw_pending (s : State) (k : EngineId) (d : Fin 8) (f : Drawer → Drawer) : (s.modDrw k d f).pending = s.pending := rfl

/-! `State.modEnt` -/

@[simp] theorem State.modEnt_mem (s : State) (k : EngineId) (d : Fin 8) (e : Nat) (f : SbEntry → SbEntry) : (s.modEnt k d e f).mem = s.mem := rfl
@[simp] theorem State.modEnt_regs (s : State) (k : EngineId) (d : Fin 8) (e : Nat) (f : SbEntry → SbEntry) : (s.modEnt k d e f).regs = s.regs := rfl
@[simp] theorem State.modEnt_sn (s : State) (k : EngineId) (d : Fin 8) (e : Nat) (f : SbEntry → SbEntry) : (s.modEnt k d e f).sn = s.sn := rfl
@[simp] theorem State.modEnt_shares (s : State) (k : EngineId) (d : Fin 8) (e : Nat) (f : SbEntry → SbEntry) : (s.modEnt k d e f).shares = s.shares := rfl
@[simp] theorem State.modEnt_ppus (s : State) (k : EngineId) (d : Fin 8) (e : Nat) (f : SbEntry → SbEntry) : (s.modEnt k d e f).ppus = s.ppus := rfl
@[simp] theorem State.modEnt_cabs (s : State) (k : EngineId) (d : Fin 8) (e : Nat) (f : SbEntry → SbEntry) : (s.modEnt k d e f).cabs = s.cabs := rfl
@[simp] theorem State.modEnt_runClock (s : State) (k : EngineId) (d : Fin 8) (e : Nat) (f : SbEntry → SbEntry) : (s.modEnt k d e f).runClock = s.runClock := rfl
@[simp] theorem State.modEnt_ticks (s : State) (k : EngineId) (d : Fin 8) (e : Nat) (f : SbEntry → SbEntry) : (s.modEnt k d e f).ticks = s.ticks := rfl
@[simp] theorem State.modEnt_mtu (s : State) (k : EngineId) (d : Fin 8) (e : Nat) (f : SbEntry → SbEntry) : (s.modEnt k d e f).mtu = s.mtu := rfl
@[simp] theorem State.modEnt_itu (s : State) (k : EngineId) (d : Fin 8) (e : Nat) (f : SbEntry → SbEntry) : (s.modEnt k d e f).itu = s.itu := rfl
@[simp] theorem State.modEnt_ituBase (s : State) (k : EngineId) (d : Fin 8) (e : Nat) (f : SbEntry → SbEntry) : (s.modEnt k d e f).ituBase = s.ituBase := rfl
@[simp] theorem State.modEnt_fclk (s : State) (k : EngineId) (d : Fin 8) (e : Nat) (f : SbEntry → SbEntry) : (s.modEnt k d e f).fclk = s.fclk := rfl
@[simp] theorem State.modEnt_aclk (s : State) (k : EngineId) (d : Fin 8) (e : Nat) (f : SbEntry → SbEntry) : (s.modEnt k d e f).aclk = s.aclk := rfl
@[simp] theorem State.modEnt_islClk (s : State) (k : EngineId) (d : Fin 8) (e : Nat) (f : SbEntry → SbEntry) : (s.modEnt k d e f).islClk = s.islClk := rfl
@[simp] theorem State.modEnt_pmc (s : State) (k : EngineId) (d : Fin 8) (e : Nat) (f : SbEntry → SbEntry) : (s.modEnt k d e f).pmc = s.pmc := rfl
@[simp] theorem State.modEnt_boot (s : State) (k : EngineId) (d : Fin 8) (e : Nat) (f : SbEntry → SbEntry) : (s.modEnt k d e f).boot = s.boot := rfl
@[simp] theorem State.modEnt_slots (s : State) (k : EngineId) (d : Fin 8) (e : Nat) (f : SbEntry → SbEntry) : (s.modEnt k d e f).slots = s.slots := rfl
@[simp] theorem State.modEnt_outs (s : State) (k : EngineId) (d : Fin 8) (e : Nat) (f : SbEntry → SbEntry) : (s.modEnt k d e f).outs = s.outs := rfl
@[simp] theorem State.modEnt_pulses (s : State) (k : EngineId) (d : Fin 8) (e : Nat) (f : SbEntry → SbEntry) : (s.modEnt k d e f).pulses = s.pulses := rfl
@[simp] theorem State.modEnt_caps (s : State) (k : EngineId) (d : Fin 8) (e : Nat) (f : SbEntry → SbEntry) : (s.modEnt k d e f).caps = s.caps := rfl
@[simp] theorem State.modEnt_capIn (s : State) (k : EngineId) (d : Fin 8) (e : Nat) (f : SbEntry → SbEntry) : (s.modEnt k d e f).capIn = s.capIn := rfl
@[simp] theorem State.modEnt_ga (s : State) (k : EngineId) (d : Fin 8) (e : Nat) (f : SbEntry → SbEntry) : (s.modEnt k d e f).ga = s.ga := rfl
@[simp] theorem State.modEnt_cans (s : State) (k : EngineId) (d : Fin 8) (e : Nat) (f : SbEntry → SbEntry) : (s.modEnt k d e f).cans = s.cans := rfl
@[simp] theorem State.modEnt_sw (s : State) (k : EngineId) (d : Fin 8) (e : Nat) (f : SbEntry → SbEntry) : (s.modEnt k d e f).sw = s.sw := rfl
@[simp] theorem State.modEnt_trs (s : State) (k : EngineId) (d : Fin 8) (e : Nat) (f : SbEntry → SbEntry) : (s.modEnt k d e f).trs = s.trs := rfl
@[simp] theorem State.modEnt_bridge (s : State) (k : EngineId) (d : Fin 8) (e : Nat) (f : SbEntry → SbEntry) : (s.modEnt k d e f).bridge = s.bridge := rfl
@[simp] theorem State.modEnt_isl (s : State) (k : EngineId) (d : Fin 8) (e : Nat) (f : SbEntry → SbEntry) : (s.modEnt k d e f).isl = s.isl := rfl
@[simp] theorem State.modEnt_sec (s : State) (k : EngineId) (d : Fin 8) (e : Nat) (f : SbEntry → SbEntry) : (s.modEnt k d e f).sec = s.sec := rfl
@[simp] theorem State.modEnt_arb (s : State) (k : EngineId) (d : Fin 8) (e : Nat) (f : SbEntry → SbEntry) : (s.modEnt k d e f).arb = s.arb := rfl
@[simp] theorem State.modEnt_fns (s : State) (k : EngineId) (d : Fin 8) (e : Nat) (f : SbEntry → SbEntry) : (s.modEnt k d e f).fns = s.fns := rfl
@[simp] theorem State.modEnt_host (s : State) (k : EngineId) (d : Fin 8) (e : Nat) (f : SbEntry → SbEntry) : (s.modEnt k d e f).host = s.host := rfl
@[simp] theorem State.modEnt_linkUp (s : State) (k : EngineId) (d : Fin 8) (e : Nat) (f : SbEntry → SbEntry) : (s.modEnt k d e f).linkUp = s.linkUp := rfl
@[simp] theorem State.modEnt_winLog2 (s : State) (k : EngineId) (d : Fin 8) (e : Nat) (f : SbEntry → SbEntry) : (s.modEnt k d e f).winLog2 = s.winLog2 := rfl
@[simp] theorem State.modEnt_inj (s : State) (k : EngineId) (d : Fin 8) (e : Nat) (f : SbEntry → SbEntry) : (s.modEnt k d e f).inj = s.inj := rfl
@[simp] theorem State.modEnt_ms (s : State) (k : EngineId) (d : Fin 8) (e : Nat) (f : SbEntry → SbEntry) : (s.modEnt k d e f).ms = s.ms := rfl
@[simp] theorem State.modEnt_hostOut (s : State) (k : EngineId) (d : Fin 8) (e : Nat) (f : SbEntry → SbEntry) : (s.modEnt k d e f).hostOut = s.hostOut := rfl
@[simp] theorem State.modEnt_out (s : State) (k : EngineId) (d : Fin 8) (e : Nat) (f : SbEntry → SbEntry) : (s.modEnt k d e f).out = s.out := rfl
@[simp] theorem State.modEnt_resp (s : State) (k : EngineId) (d : Fin 8) (e : Nat) (f : SbEntry → SbEntry) : (s.modEnt k d e f).resp = s.resp := rfl
@[simp] theorem State.modEnt_freeCtr (s : State) (k : EngineId) (d : Fin 8) (e : Nat) (f : SbEntry → SbEntry) : (s.modEnt k d e f).freeCtr = s.freeCtr := rfl
@[simp] theorem State.modEnt_pending (s : State) (k : EngineId) (d : Fin 8) (e : Nat) (f : SbEntry → SbEntry) : (s.modEnt k d e f).pending = s.pending := rfl

/-! `State.modCab` -/

@[simp] theorem State.modCab_mem (s : State) (c : CabId) (f : Cabinet → Cabinet) : (s.modCab c f).mem = s.mem := rfl
@[simp] theorem State.modCab_regs (s : State) (c : CabId) (f : Cabinet → Cabinet) : (s.modCab c f).regs = s.regs := rfl
@[simp] theorem State.modCab_engines (s : State) (c : CabId) (f : Cabinet → Cabinet) : (s.modCab c f).engines = s.engines := rfl
@[simp] theorem State.modCab_sn (s : State) (c : CabId) (f : Cabinet → Cabinet) : (s.modCab c f).sn = s.sn := rfl
@[simp] theorem State.modCab_shares (s : State) (c : CabId) (f : Cabinet → Cabinet) : (s.modCab c f).shares = s.shares := rfl
@[simp] theorem State.modCab_ppus (s : State) (c : CabId) (f : Cabinet → Cabinet) : (s.modCab c f).ppus = s.ppus := rfl
@[simp] theorem State.modCab_runClock (s : State) (c : CabId) (f : Cabinet → Cabinet) : (s.modCab c f).runClock = s.runClock := rfl
@[simp] theorem State.modCab_ticks (s : State) (c : CabId) (f : Cabinet → Cabinet) : (s.modCab c f).ticks = s.ticks := rfl
@[simp] theorem State.modCab_mtu (s : State) (c : CabId) (f : Cabinet → Cabinet) : (s.modCab c f).mtu = s.mtu := rfl
@[simp] theorem State.modCab_itu (s : State) (c : CabId) (f : Cabinet → Cabinet) : (s.modCab c f).itu = s.itu := rfl
@[simp] theorem State.modCab_ituBase (s : State) (c : CabId) (f : Cabinet → Cabinet) : (s.modCab c f).ituBase = s.ituBase := rfl
@[simp] theorem State.modCab_fclk (s : State) (c : CabId) (f : Cabinet → Cabinet) : (s.modCab c f).fclk = s.fclk := rfl
@[simp] theorem State.modCab_aclk (s : State) (c : CabId) (f : Cabinet → Cabinet) : (s.modCab c f).aclk = s.aclk := rfl
@[simp] theorem State.modCab_islClk (s : State) (c : CabId) (f : Cabinet → Cabinet) : (s.modCab c f).islClk = s.islClk := rfl
@[simp] theorem State.modCab_pmc (s : State) (c : CabId) (f : Cabinet → Cabinet) : (s.modCab c f).pmc = s.pmc := rfl
@[simp] theorem State.modCab_boot (s : State) (c : CabId) (f : Cabinet → Cabinet) : (s.modCab c f).boot = s.boot := rfl
@[simp] theorem State.modCab_slots (s : State) (c : CabId) (f : Cabinet → Cabinet) : (s.modCab c f).slots = s.slots := rfl
@[simp] theorem State.modCab_outs (s : State) (c : CabId) (f : Cabinet → Cabinet) : (s.modCab c f).outs = s.outs := rfl
@[simp] theorem State.modCab_pulses (s : State) (c : CabId) (f : Cabinet → Cabinet) : (s.modCab c f).pulses = s.pulses := rfl
@[simp] theorem State.modCab_caps (s : State) (c : CabId) (f : Cabinet → Cabinet) : (s.modCab c f).caps = s.caps := rfl
@[simp] theorem State.modCab_capIn (s : State) (c : CabId) (f : Cabinet → Cabinet) : (s.modCab c f).capIn = s.capIn := rfl
@[simp] theorem State.modCab_ga (s : State) (c : CabId) (f : Cabinet → Cabinet) : (s.modCab c f).ga = s.ga := rfl
@[simp] theorem State.modCab_cans (s : State) (c : CabId) (f : Cabinet → Cabinet) : (s.modCab c f).cans = s.cans := rfl
@[simp] theorem State.modCab_sw (s : State) (c : CabId) (f : Cabinet → Cabinet) : (s.modCab c f).sw = s.sw := rfl
@[simp] theorem State.modCab_trs (s : State) (c : CabId) (f : Cabinet → Cabinet) : (s.modCab c f).trs = s.trs := rfl
@[simp] theorem State.modCab_bridge (s : State) (c : CabId) (f : Cabinet → Cabinet) : (s.modCab c f).bridge = s.bridge := rfl
@[simp] theorem State.modCab_isl (s : State) (c : CabId) (f : Cabinet → Cabinet) : (s.modCab c f).isl = s.isl := rfl
@[simp] theorem State.modCab_sec (s : State) (c : CabId) (f : Cabinet → Cabinet) : (s.modCab c f).sec = s.sec := rfl
@[simp] theorem State.modCab_arb (s : State) (c : CabId) (f : Cabinet → Cabinet) : (s.modCab c f).arb = s.arb := rfl
@[simp] theorem State.modCab_fns (s : State) (c : CabId) (f : Cabinet → Cabinet) : (s.modCab c f).fns = s.fns := rfl
@[simp] theorem State.modCab_host (s : State) (c : CabId) (f : Cabinet → Cabinet) : (s.modCab c f).host = s.host := rfl
@[simp] theorem State.modCab_linkUp (s : State) (c : CabId) (f : Cabinet → Cabinet) : (s.modCab c f).linkUp = s.linkUp := rfl
@[simp] theorem State.modCab_winLog2 (s : State) (c : CabId) (f : Cabinet → Cabinet) : (s.modCab c f).winLog2 = s.winLog2 := rfl
@[simp] theorem State.modCab_inj (s : State) (c : CabId) (f : Cabinet → Cabinet) : (s.modCab c f).inj = s.inj := rfl
@[simp] theorem State.modCab_ms (s : State) (c : CabId) (f : Cabinet → Cabinet) : (s.modCab c f).ms = s.ms := rfl
@[simp] theorem State.modCab_hostOut (s : State) (c : CabId) (f : Cabinet → Cabinet) : (s.modCab c f).hostOut = s.hostOut := rfl
@[simp] theorem State.modCab_out (s : State) (c : CabId) (f : Cabinet → Cabinet) : (s.modCab c f).out = s.out := rfl
@[simp] theorem State.modCab_resp (s : State) (c : CabId) (f : Cabinet → Cabinet) : (s.modCab c f).resp = s.resp := rfl
@[simp] theorem State.modCab_freeCtr (s : State) (c : CabId) (f : Cabinet → Cabinet) : (s.modCab c f).freeCtr = s.freeCtr := rfl
@[simp] theorem State.modCab_pending (s : State) (c : CabId) (f : Cabinet → Cabinet) : (s.modCab c f).pending = s.pending := rfl

/-! `State.modCtx` -/

@[simp] theorem State.modCtx_mem (s : State) (c : CabId) (x : CtxId) (f : Ctx → Ctx) : (s.modCtx c x f).mem = s.mem := rfl
@[simp] theorem State.modCtx_regs (s : State) (c : CabId) (x : CtxId) (f : Ctx → Ctx) : (s.modCtx c x f).regs = s.regs := rfl
@[simp] theorem State.modCtx_engines (s : State) (c : CabId) (x : CtxId) (f : Ctx → Ctx) : (s.modCtx c x f).engines = s.engines := rfl
@[simp] theorem State.modCtx_sn (s : State) (c : CabId) (x : CtxId) (f : Ctx → Ctx) : (s.modCtx c x f).sn = s.sn := rfl
@[simp] theorem State.modCtx_shares (s : State) (c : CabId) (x : CtxId) (f : Ctx → Ctx) : (s.modCtx c x f).shares = s.shares := rfl
@[simp] theorem State.modCtx_ppus (s : State) (c : CabId) (x : CtxId) (f : Ctx → Ctx) : (s.modCtx c x f).ppus = s.ppus := rfl
@[simp] theorem State.modCtx_runClock (s : State) (c : CabId) (x : CtxId) (f : Ctx → Ctx) : (s.modCtx c x f).runClock = s.runClock := rfl
@[simp] theorem State.modCtx_ticks (s : State) (c : CabId) (x : CtxId) (f : Ctx → Ctx) : (s.modCtx c x f).ticks = s.ticks := rfl
@[simp] theorem State.modCtx_mtu (s : State) (c : CabId) (x : CtxId) (f : Ctx → Ctx) : (s.modCtx c x f).mtu = s.mtu := rfl
@[simp] theorem State.modCtx_itu (s : State) (c : CabId) (x : CtxId) (f : Ctx → Ctx) : (s.modCtx c x f).itu = s.itu := rfl
@[simp] theorem State.modCtx_ituBase (s : State) (c : CabId) (x : CtxId) (f : Ctx → Ctx) : (s.modCtx c x f).ituBase = s.ituBase := rfl
@[simp] theorem State.modCtx_fclk (s : State) (c : CabId) (x : CtxId) (f : Ctx → Ctx) : (s.modCtx c x f).fclk = s.fclk := rfl
@[simp] theorem State.modCtx_aclk (s : State) (c : CabId) (x : CtxId) (f : Ctx → Ctx) : (s.modCtx c x f).aclk = s.aclk := rfl
@[simp] theorem State.modCtx_islClk (s : State) (c : CabId) (x : CtxId) (f : Ctx → Ctx) : (s.modCtx c x f).islClk = s.islClk := rfl
@[simp] theorem State.modCtx_pmc (s : State) (c : CabId) (x : CtxId) (f : Ctx → Ctx) : (s.modCtx c x f).pmc = s.pmc := rfl
@[simp] theorem State.modCtx_boot (s : State) (c : CabId) (x : CtxId) (f : Ctx → Ctx) : (s.modCtx c x f).boot = s.boot := rfl
@[simp] theorem State.modCtx_slots (s : State) (c : CabId) (x : CtxId) (f : Ctx → Ctx) : (s.modCtx c x f).slots = s.slots := rfl
@[simp] theorem State.modCtx_outs (s : State) (c : CabId) (x : CtxId) (f : Ctx → Ctx) : (s.modCtx c x f).outs = s.outs := rfl
@[simp] theorem State.modCtx_pulses (s : State) (c : CabId) (x : CtxId) (f : Ctx → Ctx) : (s.modCtx c x f).pulses = s.pulses := rfl
@[simp] theorem State.modCtx_caps (s : State) (c : CabId) (x : CtxId) (f : Ctx → Ctx) : (s.modCtx c x f).caps = s.caps := rfl
@[simp] theorem State.modCtx_capIn (s : State) (c : CabId) (x : CtxId) (f : Ctx → Ctx) : (s.modCtx c x f).capIn = s.capIn := rfl
@[simp] theorem State.modCtx_ga (s : State) (c : CabId) (x : CtxId) (f : Ctx → Ctx) : (s.modCtx c x f).ga = s.ga := rfl
@[simp] theorem State.modCtx_cans (s : State) (c : CabId) (x : CtxId) (f : Ctx → Ctx) : (s.modCtx c x f).cans = s.cans := rfl
@[simp] theorem State.modCtx_sw (s : State) (c : CabId) (x : CtxId) (f : Ctx → Ctx) : (s.modCtx c x f).sw = s.sw := rfl
@[simp] theorem State.modCtx_trs (s : State) (c : CabId) (x : CtxId) (f : Ctx → Ctx) : (s.modCtx c x f).trs = s.trs := rfl
@[simp] theorem State.modCtx_bridge (s : State) (c : CabId) (x : CtxId) (f : Ctx → Ctx) : (s.modCtx c x f).bridge = s.bridge := rfl
@[simp] theorem State.modCtx_isl (s : State) (c : CabId) (x : CtxId) (f : Ctx → Ctx) : (s.modCtx c x f).isl = s.isl := rfl
@[simp] theorem State.modCtx_sec (s : State) (c : CabId) (x : CtxId) (f : Ctx → Ctx) : (s.modCtx c x f).sec = s.sec := rfl
@[simp] theorem State.modCtx_arb (s : State) (c : CabId) (x : CtxId) (f : Ctx → Ctx) : (s.modCtx c x f).arb = s.arb := rfl
@[simp] theorem State.modCtx_fns (s : State) (c : CabId) (x : CtxId) (f : Ctx → Ctx) : (s.modCtx c x f).fns = s.fns := rfl
@[simp] theorem State.modCtx_host (s : State) (c : CabId) (x : CtxId) (f : Ctx → Ctx) : (s.modCtx c x f).host = s.host := rfl
@[simp] theorem State.modCtx_linkUp (s : State) (c : CabId) (x : CtxId) (f : Ctx → Ctx) : (s.modCtx c x f).linkUp = s.linkUp := rfl
@[simp] theorem State.modCtx_winLog2 (s : State) (c : CabId) (x : CtxId) (f : Ctx → Ctx) : (s.modCtx c x f).winLog2 = s.winLog2 := rfl
@[simp] theorem State.modCtx_inj (s : State) (c : CabId) (x : CtxId) (f : Ctx → Ctx) : (s.modCtx c x f).inj = s.inj := rfl
@[simp] theorem State.modCtx_ms (s : State) (c : CabId) (x : CtxId) (f : Ctx → Ctx) : (s.modCtx c x f).ms = s.ms := rfl
@[simp] theorem State.modCtx_hostOut (s : State) (c : CabId) (x : CtxId) (f : Ctx → Ctx) : (s.modCtx c x f).hostOut = s.hostOut := rfl
@[simp] theorem State.modCtx_out (s : State) (c : CabId) (x : CtxId) (f : Ctx → Ctx) : (s.modCtx c x f).out = s.out := rfl
@[simp] theorem State.modCtx_resp (s : State) (c : CabId) (x : CtxId) (f : Ctx → Ctx) : (s.modCtx c x f).resp = s.resp := rfl
@[simp] theorem State.modCtx_freeCtr (s : State) (c : CabId) (x : CtxId) (f : Ctx → Ctx) : (s.modCtx c x f).freeCtr = s.freeCtr := rfl
@[simp] theorem State.modCtx_pending (s : State) (c : CabId) (x : CtxId) (f : Ctx → Ctx) : (s.modCtx c x f).pending = s.pending := rfl

/-! `State.tell` -/

@[simp] theorem State.tell_mem (s : State) (r : Report) : (s.tell r).mem = s.mem := rfl
@[simp] theorem State.tell_regs (s : State) (r : Report) : (s.tell r).regs = s.regs := rfl
@[simp] theorem State.tell_engines (s : State) (r : Report) : (s.tell r).engines = s.engines := rfl
@[simp] theorem State.tell_sn (s : State) (r : Report) : (s.tell r).sn = s.sn := rfl
@[simp] theorem State.tell_shares (s : State) (r : Report) : (s.tell r).shares = s.shares := rfl
@[simp] theorem State.tell_ppus (s : State) (r : Report) : (s.tell r).ppus = s.ppus := rfl
@[simp] theorem State.tell_cabs (s : State) (r : Report) : (s.tell r).cabs = s.cabs := rfl
@[simp] theorem State.tell_runClock (s : State) (r : Report) : (s.tell r).runClock = s.runClock := rfl
@[simp] theorem State.tell_ticks (s : State) (r : Report) : (s.tell r).ticks = s.ticks := rfl
@[simp] theorem State.tell_mtu (s : State) (r : Report) : (s.tell r).mtu = s.mtu := rfl
@[simp] theorem State.tell_itu (s : State) (r : Report) : (s.tell r).itu = s.itu := rfl
@[simp] theorem State.tell_ituBase (s : State) (r : Report) : (s.tell r).ituBase = s.ituBase := rfl
@[simp] theorem State.tell_fclk (s : State) (r : Report) : (s.tell r).fclk = s.fclk := rfl
@[simp] theorem State.tell_aclk (s : State) (r : Report) : (s.tell r).aclk = s.aclk := rfl
@[simp] theorem State.tell_islClk (s : State) (r : Report) : (s.tell r).islClk = s.islClk := rfl
@[simp] theorem State.tell_pmc (s : State) (r : Report) : (s.tell r).pmc = s.pmc := rfl
@[simp] theorem State.tell_boot (s : State) (r : Report) : (s.tell r).boot = s.boot := rfl
@[simp] theorem State.tell_slots (s : State) (r : Report) : (s.tell r).slots = s.slots := rfl
@[simp] theorem State.tell_outs (s : State) (r : Report) : (s.tell r).outs = s.outs := rfl
@[simp] theorem State.tell_pulses (s : State) (r : Report) : (s.tell r).pulses = s.pulses := rfl
@[simp] theorem State.tell_caps (s : State) (r : Report) : (s.tell r).caps = s.caps := rfl
@[simp] theorem State.tell_capIn (s : State) (r : Report) : (s.tell r).capIn = s.capIn := rfl
@[simp] theorem State.tell_ga (s : State) (r : Report) : (s.tell r).ga = s.ga := rfl
@[simp] theorem State.tell_cans (s : State) (r : Report) : (s.tell r).cans = s.cans := rfl
@[simp] theorem State.tell_sw (s : State) (r : Report) : (s.tell r).sw = s.sw := rfl
@[simp] theorem State.tell_trs (s : State) (r : Report) : (s.tell r).trs = s.trs := rfl
@[simp] theorem State.tell_bridge (s : State) (r : Report) : (s.tell r).bridge = s.bridge := rfl
@[simp] theorem State.tell_isl (s : State) (r : Report) : (s.tell r).isl = s.isl := rfl
@[simp] theorem State.tell_sec (s : State) (r : Report) : (s.tell r).sec = s.sec := rfl
@[simp] theorem State.tell_arb (s : State) (r : Report) : (s.tell r).arb = s.arb := rfl
@[simp] theorem State.tell_fns (s : State) (r : Report) : (s.tell r).fns = s.fns := rfl
@[simp] theorem State.tell_host (s : State) (r : Report) : (s.tell r).host = s.host := rfl
@[simp] theorem State.tell_linkUp (s : State) (r : Report) : (s.tell r).linkUp = s.linkUp := rfl
@[simp] theorem State.tell_winLog2 (s : State) (r : Report) : (s.tell r).winLog2 = s.winLog2 := rfl
@[simp] theorem State.tell_inj (s : State) (r : Report) : (s.tell r).inj = s.inj := rfl
@[simp] theorem State.tell_ms (s : State) (r : Report) : (s.tell r).ms = s.ms := rfl
@[simp] theorem State.tell_hostOut (s : State) (r : Report) : (s.tell r).hostOut = s.hostOut := rfl
@[simp] theorem State.tell_resp (s : State) (r : Report) : (s.tell r).resp = s.resp := rfl
@[simp] theorem State.tell_freeCtr (s : State) (r : Report) : (s.tell r).freeCtr = s.freeCtr := rfl
@[simp] theorem State.tell_pending (s : State) (r : Report) : (s.tell r).pending = s.pending := rfl

end Sys2Proof.Machine
end

