-- ==== Sys2Proof/Laws/Registers.lean ====
section
/-! SUPPORT. Bit fields and registers: what a read returns after a write, and what a write leaves alone; the parts of the engines
and cabinets after a change. -/

namespace Sys2Proof.Machine

/-! ### Bit fields -/

/-- A field reads as it was written, up to its width. -/
theorem bits_putBits_same (w v : Nat) {hi lo : Nat} : bits (putBits w hi lo v) hi lo = v % 2 ^ (hi + 1 - lo) := by
  unfold bits putBits
  by_cases h : lo ≤ hi + 1
  · have hs : hi + 1 = lo + (hi + 1 - lo) := by omega
    generalize hn : hi + 1 - lo = n at *
    rw [hs]
    simp only [Nat.shiftLeft_eq, Nat.shiftRight_eq_div_pow, Nat.pow_add]
    have h0 : 0 < 2 ^ lo := Nat.two_pow_pos lo
    have h1 : w % 2 ^ lo + v % 2 ^ n * 2 ^ lo + w / (2 ^ lo * 2 ^ n) * (2 ^ lo * 2 ^ n)
        = w % 2 ^ lo + 2 ^ lo * (v % 2 ^ n + 2 ^ n * (w / (2 ^ lo * 2 ^ n))) := by
      rw [Nat.mul_add, ← Nat.mul_assoc (2 ^ lo), Nat.mul_comm (v % 2 ^ n), Nat.mul_comm (w / (2 ^ lo * 2 ^ n)), Nat.add_assoc]
    rw [h1, Nat.add_mul_div_left _ _ h0, Nat.div_eq_of_lt (Nat.mod_lt _ h0), Nat.zero_add, Nat.add_mul_mod_self_left,
      Nat.mod_mod]
  · have hz : hi + 1 - lo = 0 := by omega
    rw [hz]; simp [Nat.mod_one]

/-! ### Tables of values -/

theorem lookupN_insertN_same (d k v : Nat) (l : List (Nat × Nat)) : lookupN d k (insertN k v l) = v := by
  simp [lookupN, insertN]

theorem lookupN_insertN_other (d v : Nat) {k x : Nat} (h : x ≠ k) (l : List (Nat × Nat)) :
    lookupN d x (insertN k v l) = lookupN d x l := by
  unfold lookupN insertN
  have hk : ((k, v).1 == x) = false := by simpa using Ne.symm h
  rw [List.find?_cons, hk]
  have : (l.filter (fun c => c.1 != k)).find? (fun c => c.1 == x) = l.find? (fun c => c.1 == x) := by
    induction l with
    | nil => rfl
    | cons e l ih =>
      simp only [List.filter_cons]
      by_cases he : e.1 = k
      · have hk' : (k == x) = false := by simpa using Ne.symm h
        simp [he, ih, hk']
      · simp [he, List.find?_cons, ih]
  rw [this]

/-! ### Registers -/

@[simp] theorem State.regVal_setReg_same (s : State) (r : RegDef) (i j v : Nat) : (s.setReg r i j v).regVal r i j = v :=
  lookupN_insertN_same _ _ _ _

theorem State.regVal_setReg_other (s : State) (r q : RegDef) {i j i' j' : Nat} (v : Nat)
    (h : q.addr i' j' ≠ r.addr i j) : (s.setReg r i j v).regVal q i' j' = s.regVal q i' j' :=
  lookupN_insertN_other _ _ h _

/-- A field reads as it was put. -/
theorem State.rd_put_same (s : State) (f : Fld) (i j v : Nat) :
    (s.put f i j v).rd f i j = v % 2 ^ (f.hi + 1 - f.lo) := by
  simp only [State.rd, State.put, State.regVal_setReg_same, bits_putBits_same]

/-- A field of a register at another address reads as before. -/
theorem State.rd_put_other (s : State) (f g : Fld) {i j i' j' : Nat} (v : Nat)
    (h : g.reg.addr i' j' ≠ f.reg.addr i j) : (s.put f i j v).rd g i' j' = s.rd g i' j' := by
  simp only [State.rd, State.put]
  rw [State.regVal_setReg_other s f.reg g.reg _ h]

theorem State.flag_put_same (s : State) (f : Fld) (i j : Nat) (h : f.hi = f.lo) (b : Bool) :
    (s.put f i j (b2n b)).flag f i j = b := by
  unfold State.flag
  rw [State.rd_put_same]
  have : f.hi + 1 - f.lo = 1 := by omega
  rw [this]
  cases b <;> rfl

/-! ### Vectors, engines, drawers, cabinets -/

@[simp] theorem vget_vmod_same {α : Type} {n : Nat} (v : Vector α n) (i : Fin n) (f : α → α) :
    vget (vmod v i f) i = f (vget v i) := by
  simp [vget, vmod]

theorem vget_vmod_other {α : Type} {n : Nat} (v : Vector α n) {i j : Fin n} (f : α → α) (h : j ≠ i) :
    vget (vmod v i f) j = vget v j := by
  have : i.val ≠ j.val := fun e => h (Fin.ext e.symm)
  simp [vget, vmod, this]

@[simp] theorem State.eng_modEng_same (s : State) (k : EngineId) (f : Engine → Engine) :
    (s.modEng k f).eng k = f (s.eng k) := vget_vmod_same _ _ _

theorem State.eng_modEng_other (s : State) {k j : EngineId} (f : Engine → Engine) (h : j ≠ k) :
    (s.modEng k f).eng j = s.eng j := vget_vmod_other _ _ h

@[simp] theorem State.drw_modDrw_same (s : State) (k : EngineId) (d : Fin 8) (f : Drawer → Drawer) :
    (s.modDrw k d f).drw k d = f (s.drw k d) := by
  simp [State.drw, State.modDrw]

theorem State.drw_modDrw_other (s : State) (k : EngineId) {d e : Fin 8} (f : Drawer → Drawer) (h : e ≠ d) :
    (s.modDrw k d f).drw k e = s.drw k e := by
  simp [State.drw, State.modDrw, vget_vmod_other _ _ h]

theorem State.drw_modDrw_engine (s : State) {k j : EngineId} (d e : Fin 8) (f : Drawer → Drawer) (h : j ≠ k) :
    (s.modDrw k d f).drw j e = s.drw j e := by
  simp [State.drw, State.modDrw, State.eng_modEng_other s _ h]

@[simp] theorem State.eng_modDrw_active (s : State) (k : EngineId) (d : Fin 8) (f : Drawer → Drawer) :
    ((s.modDrw k d f).eng k).active = (s.eng k).active := by
  simp [State.modDrw]

@[simp] theorem State.eng_modDrw_st (s : State) (k : EngineId) (d : Fin 8) (f : Drawer → Drawer) :
    ((s.modDrw k d f).eng k).st = (s.eng k).st := by
  simp [State.modDrw]

@[simp] theorem State.cab_modCab_same (s : State) (c : CabId) (f : Cabinet → Cabinet) :
    (s.modCab c f).cab c = f (s.cab c) := vget_vmod_same _ _ _

theorem State.cab_modCab_other (s : State) {c b : CabId} (f : Cabinet → Cabinet) (h : b ≠ c) :
    (s.modCab c f).cab b = s.cab b := vget_vmod_other _ _ h

@[simp] theorem State.ctx_modCtx_same (s : State) (c : CabId) (x : CtxId) (f : Ctx → Ctx) :
    (s.modCtx c x f).ctx? c x = (s.ctx? c x).map f := by
  simp [State.ctx?, State.modCtx]

@[simp] theorem State.gate_true (s t : State) : s.gate true t = t := rfl
@[simp] theorem State.gate_false (s t : State) : s.gate false t = s := rfl

/-! ### Registers of a drawer (04 R88) -/

@[simp] theorem Drawer.rdS_zero (w : Drawer) : w.rdS 0 = 0 := rfl
@[simp] theorem Drawer.rdP_zero (w : Drawer) : w.rdP 0 = true := rfl
@[simp] theorem Drawer.wrS_zero (w : Drawer) (v : Nat) : w.wrS 0 v = w := rfl
@[simp] theorem Drawer.wrP_zero (w : Drawer) (b : Bool) : w.wrP 0 b = w := rfl

end Sys2Proof.Machine
end

