-- ==== Sys2Proof/Laws/Issue.lean ====
section
/-! SUPPORT. The issue unit and the performance counters beside it: what an issued instruction changes. -/

namespace Sys2Proof.Machine

/-! ### Performance counters (18 R597 to R606) -/

theorem SameRegsBut.refl (w : Nat → Prop) (s : State) : SameRegsBut w s s := fun _ _ _ _ => rfl

theorem SameRegsBut.trans {w : Nat → Prop} {s t u : State} (h : SameRegsBut w s t) (g : SameRegsBut w t u) :
    SameRegsBut w s u := fun r i j n => (g r i j n).trans (h r i j n)

theorem SameRegsBut.put {w : Nat → Prop} (s : State) (f : Fld) (i j v : Nat) (h : w (f.reg.addr i j)) :
    SameRegsBut w s (s.put f i j v) := fun r _ _ n =>
  State.regVal_setReg_other s f.reg r _ (fun e => n (e ▸ h))

theorem OnlyEngine.refl (k : EngineId) (s : State) : OnlyEngine k s s := ⟨rfl, fun _ _ => rfl, SameRegsBut.refl _ _⟩

theorem OnlyEngine.trans {k : EngineId} {s t u : State} (h : OnlyEngine k s t) (g : OnlyEngine k t u) : OnlyEngine k s u := by
  obtain ⟨h1, h2, h3⟩ := h
  obtain ⟨g1, g2, g3⟩ := g
  refine ⟨?_, fun j hj => (g2 j hj).trans (h2 j hj), SameRegsBut.trans h3 g3⟩
  rw [g1, h1]

theorem OnlyEngine.put {k : EngineId} (s : State) (f : Fld) (i j v : Nat) (h : perfBlock k (f.reg.addr i j)) :
    OnlyEngine k s (s.put f i j v) := ⟨rfl, fun _ _ => rfl, SameRegsBut.put s f i j v h⟩

theorem OnlyEngine.modEng (k : EngineId) (s : State) (f : Engine → Engine) : OnlyEngine k s (s.modEng k f) :=
  ⟨rfl, fun _ hj => State.eng_modEng_other s f hj, SameRegsBut.refl _ _⟩

theorem OnlyEngine.free (k : EngineId) (s : State) (n : Nat) : OnlyEngine k s { s with freeCtr := n } :=
  ⟨rfl, fun _ _ => rfl, fun _ _ _ _ => rfl⟩

/-- The machine beside engine `k`'s counters, tag and skid: its drawers, its active drawer, its state. -/
def Counted (k : EngineId) (s t : State) : Prop :=
  OnlyEngine k s t ∧ (t.eng k).drawers = (s.eng k).drawers ∧ (t.eng k).active = (s.eng k).active ∧ (t.eng k).st = (s.eng k).st

theorem Counted.refl (k : EngineId) (s : State) : Counted k s s := ⟨OnlyEngine.refl k s, rfl, rfl, rfl⟩

theorem Counted.trans {k : EngineId} {s t u : State} (h : Counted k s t) (g : Counted k t u) : Counted k s u :=
  ⟨OnlyEngine.trans h.1 g.1, g.2.1.trans h.2.1, g.2.2.1.trans h.2.2.1, g.2.2.2.trans h.2.2.2⟩

theorem Counted.put {k : EngineId} (s : State) (f : Fld) (i j v : Nat) (h : perfBlock k (f.reg.addr i j)) :
    Counted k s (s.put f i j v) := ⟨OnlyEngine.put s f i j v h, rfl, rfl, rfl⟩

theorem Counted.modEng {k : EngineId} (s : State) (f : Engine → Engine) (hd : ∀ e, (f e).drawers = e.drawers)
    (ha : ∀ e, (f e).active = e.active) (hs : ∀ e, (f e).st = e.st) : Counted k s (s.modEng k f) := by
  refine ⟨OnlyEngine.modEng k s f, ?_, ?_, ?_⟩ <;> simp [hd, ha, hs]

theorem Counted.ite {k : EngineId} {s a b : State} {c : Prop} [Decidable c] (ha : Counted k s a) (hb : Counted k s b) :
    Counted k s (if c then a else b) := by
  split
  · exact ha
  · exact hb

/-- A counter's wrap changes only the counter block, the tag and the skid of its engine. -/
theorem State.counted_perfOverflow (s : State) (k : EngineId) (n : Nat) (hn : n < 8) :
    Counted k s (s.perfOverflow k n) := by
  have hp : ∀ (r : RegDef) (j : Nat), r.blk = .tep → r.s1 = 0x10000 → 0x40108000 ≤ r.base + j * r.s2 →
      r.base + j * r.s2 < 0x4010A000 → perfBlock k (r.addr k.val j) := by
    intro r j hb h1 h2 h3
    have : ¬ (r.blk = .te ∧ k.val = 16) := by rw [hb]; exact fun h => nomatch h.1
    simp only [RegDef.addr, this, if_false, perfBlock, h1]; omega
  unfold State.perfOverflow
  refine Counted.trans ((Counted.put s F.TE_PERF_CNT_COUNT k.val n 0 (hp _ n rfl rfl
      (by show 0x40108000 ≤ 0x40108040 + n * 8; omega) (by show 0x40108040 + n * 8 < 0x4010A000; omega))).trans
    (Counted.put _ F.TE_PERF_STAT_OVF k.val 0 (s.rd F.TE_PERF_STAT_OVF k.val ||| 2 ^ n) (hp _ 0 rfl rfl (by decide) (by decide)))) ?_
  · generalize ((s.put F.TE_PERF_CNT_COUNT k.val n 0).put F.TE_PERF_STAT_OVF k.val 0 (s.rd F.TE_PERF_STAT_OVF k.val ||| 2 ^ n)) = s
    dsimp only []
    refine Counted.trans (t := if (s.flag F.TE_PSB_CFG_EN k.val && s.rd F.TE_PSB_CFG_TRIG k.val == n) = true then
        if (s.psbUsed k == 256 || s.tagOpen k) = true then
          s.put F.TE_PSB_LOST_LOST k.val 0 (satInc 32 (s.rd F.TE_PSB_LOST_LOST k.val))
        else s.modEng k (fun e => { e with tagNext := true })
      else s) ?_ ?_
    · exact Counted.ite (Counted.ite (Counted.put _ _ _ _ _ (hp _ _ rfl rfl (by decide) (by decide)))
        (Counted.modEng _ _ (fun _ => rfl) (fun _ => rfl) (fun _ => rfl))) (Counted.refl _ _)
    · refine Counted.ite (Counted.trans (t := State.nextFree _ |>.2) ⟨OnlyEngine.free k _ _, rfl, rfl, rfl⟩ ?_) (Counted.refl _ _)
      exact Counted.modEng _ _ (fun _ => rfl) (fun _ => rfl) (fun _ => rfl)

theorem Counted.foldl {k : EngineId} (l : List Nat) (f : State → Nat → State) (h : ∀ s, ∀ n ∈ l, Counted k s (f s n)) (s : State) :
    Counted k s (l.foldl f s) := by
  induction l generalizing s with
  | nil => exact Counted.refl k s
  | cons a l ih =>
    exact (h s a (List.mem_cons_self ..)).trans (ih (fun s n hn => h s n (List.mem_cons_of_mem _ hn)) _)

/-- An event counted changes only the counter block, the tag and the skid of its engine. -/
theorem State.counted_countEvent (s : State) (k : EngineId) (code : Nat) (level : Bool) :
    Counted k s (s.countEvent k code level) := by
  unfold State.countEvent
  split
  · exact Counted.refl _ _
  · refine Counted.foldl _ _ (fun s n hn => ?_) s
    have hn : n < 8 := List.mem_range.mp hn
    dsimp only []
    refine Counted.ite (Counted.ite (State.counted_perfOverflow s k n hn) (Counted.put _ _ _ _ _ ?_)) (Counted.refl _ _)
    have : ¬ (R.TE_PERF_CNT.blk = .te ∧ k.val = 16) := fun h => nomatch h.1
    simp only [F.TE_PERF_CNT_COUNT, RegDef.addr, this, if_false, perfBlock]
    show _ ≤ 0x40108040 + k.val * 0x10000 + n * 8 ∧ 0x40108040 + k.val * 0x10000 + n * 8 < _
    omega

/-- The skid sample changes only its register and the skid of its engine. -/
theorem State.counted_skidLatch (s : State) (k : EngineId) (d : Fin 8) (word : Nat) (dr : Bool) :
    Counted k s (s.skidLatch k d word dr) := by
  have hp : perfBlock k (R.TE_PERF_SKID.addr k.val 0) := by
    have : ¬ (R.TE_PERF_SKID.blk = .te ∧ k.val = 16) := fun h => nomatch h.1
    simp only [RegDef.addr, this, if_false, perfBlock]
    show _ ≤ 0x40108080 + k.val * 0x10000 + 0 * 0 ∧ 0x40108080 + k.val * 0x10000 + 0 * 0 < _
    omega
  exact Counted.trans (Counted.trans (Counted.trans (Counted.trans (Counted.put _ F.TE_PERF_SKID_VALID _ _ _ hp)
    (Counted.put _ F.TE_PERF_SKID_DRAINED _ _ _ hp)) (Counted.put _ F.TE_PERF_SKID_DRAWER _ _ _ hp))
    (Counted.put _ F.TE_PERF_SKID_WORD _ _ _ hp)) (Counted.modEng _ _ (fun _ => rfl) (fun _ => rfl) (fun _ => rfl))

/-- An instruction that leaves the issue unit changes, by that, only the counter block, the tag and the skid of its engine. -/
theorem State.counted_leftIssue (s : State) (k : EngineId) (d : Fin 8) (word : Nat) : Counted k s (s.leftIssue k d word) := by
  unfold State.leftIssue
  dsimp only []
  refine Counted.trans ?_ (State.counted_countEvent _ _ _ _)
  split
  · exact State.counted_skidLatch ..
  · exact Counted.modEng _ _ (fun _ => rfl) (fun _ => rfl) (fun _ => rfl)
  · exact Counted.refl _ _

/-! ### The issue unit -/

/-- No earlier instruction writes a register that a free instruction reads. -/
theorem Foot.blocks_shared {a b : Foot} (h : a.blocks b = false) : anyShared a.wrr b.rr = false := by
  simp only [Foot.blocks, Bool.or_eq_false_iff] at h
  exact h.1.1.1.1.1.2

/-- The 32 bytes that TDSET reads, or 0 (05 R135). -/
def State.tdBytes (s : State) (k : EngineId) (d : Fin 8) (i : Ins) : Nat :=
  if i.opc = 0x0A ∧ bits i.mod 3 0 = 13 then s.lmNat k d (bits i.imm 23 0) 32 else 0

/-- A control or scalar instruction but HALT, where nothing holds it, is executed at once (04 R101; 05 R122, R126). -/
theorem State.issue_control {s : State} {k : EngineId} {d : Fin 8} {iw : IWord} {w : Drawer} (h : Issues s k d iw)
    (hc : (Ins.of iw).cls = 0) (hh : (Ins.of iw).opc ≠ 0x01) (hy : (Ins.of iw).opc = 0x02 → (s.drw k d).sb = [])
    (hm : (Ins.of iw).opc = 0x0A → bits (Ins.of iw).mod 3 0 = 13 → s.lmBad k d [bits (Ins.of iw).imm 23 0] 32 = false)
    (hs : ctrlStep (s.drw k d) (Ins.of iw) (s.gangOf k d) (s.tdBytes k d (Ins.of iw)) = (w, none)) :
    s.issue k (some (Ins.of iw).opc) = (s.modDrw k d (fun _ => { w with
      prev := (s.drw k d).pc
      seq := (s.drw k d).seq + 1
      live := ((s.drw k d).releaseCtrl (Ins.of iw)).live })).leftIssue k d (s.drw k d).pc := by
  have hf : ((s.drw k d).sb.any fun t => (footOf s k d (Ins.of t.iw)).blocks (footOf s k d (Ins.of iw))) = false := by
    rw [List.any_eq_false]; intro t ht; rw [h.free t ht]; exact Bool.false_ne_true
  have hr : ((s.drw k d).sb.any fun t => anyShared (footOf s k d (Ins.of t.iw)).wrr (footOf s k d (Ins.of iw)).rr) = false := by
    rw [List.any_eq_false]; intro t ht; rw [Foot.blocks_shared (h.free t ht)]; exact Bool.false_ne_true
  have hw : (((Ins.of iw).wait || (Ins.of iw).opc == 0x01 || (Ins.of iw).opc == 0x02) && !(s.drw k d).sb.isEmpty) = false := by
    cases hb : (s.drw k d).sb with
    | nil => simp
    | cons a l =>
      have h1 : (Ins.of iw).wait = false := by
        cases hw : (Ins.of iw).wait with
        | false => rfl
        | true => rw [h.held hw] at hb; cases hb
      have h2 : (Ins.of iw).opc ≠ 0x02 := fun e => by rw [hy e] at hb; cases hb
      simp [h1, hh, h2]
  have hm' : ¬ (((Ins.of iw).opc = 0x0A ∧ bits (Ins.of iw).mod 3 0 = 13) ∧
      s.lmBad k d [bits (Ins.of iw).imm 23 0] 32 = true) := by
    rintro ⟨⟨h1, h2⟩, h3⟩; rw [hm h1 h2] at h3; cases h3
  have hctl : s.control k d (Ins.of iw) = s.modDrw k d (fun _ => { w with
      prev := (s.drw k d).pc
      seq := (s.drw k d).seq + 1
      live := ((s.drw k d).releaseCtrl (Ins.of iw)).live }) := by
    unfold State.control
    rw [if_neg (by simpa using hf), if_neg (by rw [hw]; exact Bool.false_ne_true), if_neg hh]
    dsimp only []
    rw [if_neg hm']
    change (match (ctrlStep (s.drw k d) (Ins.of iw) (s.gangOf k d) (s.tdBytes k d (Ins.of iw))).2 with
      | some st => s.issueFault k d (s.drw k d).pc st
      | none => s.modDrw k d (fun _ => { (ctrlStep (s.drw k d) (Ins.of iw) (s.gangOf k d) (s.tdBytes k d (Ins.of iw))).1 with
          prev := (s.drw k d).pc
          seq := (s.drw k d).seq + 1
          live := ((s.drw k d).releaseCtrl (Ins.of iw)).live })) = _
    rw [hs]
  unfold State.issue
  rw [h.here]
  dsimp only []
  rw [if_neg (Nat.not_le.mpr h.inside), if_neg (by rw [h.code]; exact Bool.false_ne_true), h.word, if_neg (by simp),
    if_neg (by rw [hr, h.check]; simp), h.check]
  dsimp only []
  rw [if_pos hc, hctl, State.drw_modDrw_same, if_neg (by simp),
    if_neg (by simp [h.untagged])]

theorem State.drw_congr {s t : State} {k : EngineId} (h : (t.eng k).drawers = (s.eng k).drawers) (d : Fin 8) :
    t.drw k d = s.drw k d := by
  unfold State.drw; rw [h]

/-- What such an instruction leaves. -/
theorem Does.control {c : Instr} {s : State} {k : EngineId} {d : Fin 8} {iw : IWord} {w : Drawer} (h : Issues s k d iw)
    (he : exec c s = .next (s.gate (s.aclkOn k) (s.issue k (some (Ins.of iw).opc))))
    (hc : (Ins.of iw).cls = 0) (hh : (Ins.of iw).opc ≠ 0x01) (hy : (Ins.of iw).opc = 0x02 → (s.drw k d).sb = [])
    (hm : (Ins.of iw).opc = 0x0A → bits (Ins.of iw).mod 3 0 = 13 → s.lmBad k d [bits (Ins.of iw).imm 23 0] 32 = false)
    (hs : ctrlStep (s.drw k d) (Ins.of iw) (s.gangOf k d) (s.tdBytes k d (Ins.of iw)) = (w, none)) :
    Does c s (Issued k d { w with live := ((s.drw k d).releaseCtrl (Ins.of iw)).live } s) := by
  refine ⟨_, he, ?_⟩
  rw [h.clock, State.gate_true, State.issue_control h hc hh hy hm hs]
  obtain ⟨h1, h2, h3, h4⟩ := State.counted_leftIssue (s.modDrw k d (fun _ => { w with
      prev := (s.drw k d).pc
      seq := (s.drw k d).seq + 1
      live := ((s.drw k d).releaseCtrl (Ins.of iw)).live })) k d (s.drw k d).pc
  refine ⟨?_, fun e he => ?_, OnlyEngine.trans (OnlyEngine.modEng k s _) h1⟩
  · exact (State.drw_congr h2 d).trans (State.drw_modDrw_same s k d _)
  · exact (State.drw_congr h2 e).trans (State.drw_modDrw_other s k _ he)

end Sys2Proof.Machine
end

