-- ==== Sys2Proof/Laws/Memory.lean ====
section
/-! SUPPORT. What the memory operations do: reads after writes, and the canonical form that each of them keeps. -/

namespace Sys2Proof.Machine

/-! ### Rising lists -/

theorem rising_tail {a : Nat} {l : List Nat} (h : rising (a :: l) = true) : rising l = true := by
  cases l with
  | nil => rfl
  | cons b l => simp only [rising, Bool.and_eq_true] at h; exact h.2

theorem rising_head_lt {a : Nat} {l : List Nat} (h : rising (a :: l) = true) : ∀ b ∈ l, a < b := by
  induction l generalizing a with
  | nil => simp
  | cons c l ih =>
    simp only [rising, Bool.and_eq_true, decide_eq_true_eq] at h
    intro b hb
    rcases List.mem_cons.mp hb with rfl | hb
    · exact h.1
    · exact Nat.lt_trans h.1 (ih h.2 b hb)

theorem rising_cons {a : Nat} {l : List Nat} (h : ∀ b ∈ l, a < b) (hl : rising l = true) : rising (a :: l) = true := by
  cases l with
  | nil => rfl
  | cons b l =>
    simp only [rising, Bool.and_eq_true, decide_eq_true_eq]
    exact ⟨h b (by simp), hl⟩

theorem rising_filter (p : Nat → Bool) {l : List Nat} (h : rising l = true) : rising (l.filter p) = true := by
  induction l with
  | nil => rfl
  | cons a l ih =>
    simp only [List.filter_cons]
    split
    · exact rising_cons (fun b hb => rising_head_lt h b ((List.mem_filter.mp hb).1)) (ih (rising_tail h))
    · exact ih (rising_tail h)

theorem mem_insertNat {a x : Nat} {l : List Nat} : x ∈ insertNat a l ↔ x = a ∨ x ∈ l := by
  induction l with
  | nil => simp [insertNat]
  | cons b l ih =>
    simp only [insertNat]
    split
    · simp
    · split
      · rename_i h; subst h; simp
      · simp only [List.mem_cons, ih]; constructor <;> (intro h; rcases h with h | h | h <;> simp [h])

theorem rising_insertNat (a : Nat) {l : List Nat} (h : rising l = true) : rising (insertNat a l) = true := by
  induction l with
  | nil => rfl
  | cons b l ih =>
    simp only [insertNat]
    split
    · rename_i hab
      refine rising_cons (fun c hc => ?_) h
      rcases List.mem_cons.mp hc with rfl | hc
      · exact hab
      · exact Nat.lt_trans hab (rising_head_lt h c hc)
    · split
      · exact h
      · rename_i h1 h2
        refine rising_cons (fun c hc => ?_) (ih (rising_tail h))
        rcases mem_insertNat.mp hc with rfl | hc
        · omega
        · exact rising_head_lt h c hc

/-! ### Cells -/

theorem mem_insertCell {a : Nat} {b : Byte} {c : Host.Cell} {l : List Host.Cell} :
    c ∈ insertCell a b l ↔ c = (a, b) ∨ c ∈ l := by
  induction l with
  | nil => simp [insertCell]
  | cons d l ih =>
    simp only [insertCell]
    split
    · simp
    · simp only [List.mem_cons, ih]; constructor <;> (intro h; rcases h with h | h | h <;> simp [h])

theorem rising_insertCell {a : Nat} {b : Byte} {l : List Host.Cell} (h : rising (l.map (fun c => c.1)) = true)
    (hne : ∀ c ∈ l, c.1 ≠ a) : rising ((insertCell a b l).map (fun c => c.1)) = true := by
  induction l with
  | nil => rfl
  | cons d l ih =>
    simp only [insertCell]
    split
    · rename_i had
      refine rising_cons (fun x hx => ?_) h
      simp only [List.map_cons, List.mem_cons] at hx
      rcases hx with rfl | hx
      · exact had
      · exact Nat.lt_trans had (rising_head_lt h x hx)
    · rename_i had
      simp only [List.map_cons]
      refine rising_cons (fun x hx => ?_) (ih (rising_tail h) (fun c hc => hne c (by simp [hc])))
      obtain ⟨c, hc, rfl⟩ := List.mem_map.mp hx
      rcases mem_insertCell.mp hc with rfl | hc
      · have := hne d (by simp)
        show d.1 < a
        omega
      · exact rising_head_lt h c.1 (List.mem_map.mpr ⟨c, hc, rfl⟩)

theorem rising_map_filter (p : Host.Cell → Bool) {l : List Host.Cell} (h : rising (l.map (fun c => c.1)) = true) :
    rising ((l.filter p).map (fun c => c.1)) = true := by
  induction l with
  | nil => rfl
  | cons a l ih =>
    simp only [List.filter_cons]
    split
    · simp only [List.map_cons]
      refine rising_cons (fun x hx => ?_) (ih (rising_tail h))
      obtain ⟨c, hc, rfl⟩ := List.mem_map.mp hx
      exact rising_head_lt h c.1 (List.mem_map.mpr ⟨c, (List.mem_filter.mp hc).1, rfl⟩)
    · exact ih (rising_tail h)

theorem find_insertCell_same (a : Nat) (b : Byte) {l : List Host.Cell} (hne : ∀ c ∈ l, c.1 ≠ a) :
    (insertCell a b l).find? (fun c => c.1 == a) = some (a, b) := by
  induction l with
  | nil => simp [insertCell]
  | cons d l ih =>
    simp only [insertCell]
    split
    · simp
    · have hd : (d.1 == a) = false := by simpa using hne d (by simp)
      simp only [List.find?_cons, hd]
      exact ih (fun c hc => hne c (by simp [hc]))

theorem find_insertCell_other {a x : Nat} (b : Byte) (h : x ≠ a) (l : List Host.Cell) :
    (insertCell a b l).find? (fun c => c.1 == x) = l.find? (fun c => c.1 == x) := by
  have ha : ((a, b).1 == x) = false := by simpa using Ne.symm h
  induction l with
  | nil => simp only [insertCell, List.find?_cons, ha]
  | cons d l ih =>
    simp only [insertCell]
    split
    · simp only [List.find?_cons, ha]
    · simp only [List.find?_cons, ih]

theorem find_filter_other {a x : Nat} (h : x ≠ a) (l : List Host.Cell) :
    (l.filter (fun c => c.1 != a)).find? (fun c => c.1 == x) = l.find? (fun c => c.1 == x) := by
  induction l with
  | nil => rfl
  | cons d l ih =>
    simp only [List.filter_cons]
    by_cases hd : d.1 = a
    · have hx : (d.1 == x) = false := by simp only [hd, beq_eq_false_iff_ne]; exact Ne.symm h
      have ha : (a == x) = false := by simpa using Ne.symm h
      simp [hd, ih, ha]
    · simp [hd, List.find?_cons, ih]

/-! ### One byte -/

/-- A byte reads as it was written last. -/
theorem Mem.read_write_same (m : Mem) (a : Nat) (b : Byte) : (m.write a b).read a = b := by
  have hne : ∀ c ∈ m.cells.filter (fun c => c.1 != a), c.1 ≠ a := by
    intro c hc; simpa using (List.mem_filter.mp hc).2
  unfold Mem.write Mem.read
  by_cases hb : b = 0
  · have hf : (m.cells.filter (fun c => c.1 != a)).find? (fun c => c.1 == a) = none := by
      rw [List.find?_eq_none]; intro c hc; simpa using hne c hc
    simp only [hb, if_true, hf]
  · simp only [hb, if_false, find_insertCell_same a b hne]

/-- A write leaves every other byte alone. -/
theorem Mem.read_write_other (m : Mem) {a x : Nat} (b : Byte) (h : x ≠ a) : (m.write a b).read x = m.read x := by
  unfold Mem.write Mem.read
  by_cases hb : b = 0
  · simp only [hb, if_true, find_filter_other h]
  · simp only [hb, if_false, find_insertCell_other b h, find_filter_other h]

@[simp] theorem Mem.read_clearBad (m : Mem) (a x : Nat) : (m.clearBad a).read x = m.read x := rfl
@[simp] theorem Mem.read_markBad (m : Mem) (a x : Nat) : (m.markBad a).read x = m.read x := rfl
@[simp] theorem Mem.write_bad (m : Mem) (a : Nat) (b : Byte) : (m.write a b).bad = m.bad := rfl

/-- Bytes written from `a` on leave the bytes below `a` alone. -/
theorem Mem.read_writeBytes_below (m : Mem) {a x : Nat} (h : x < a) (l : List Byte) :
    (m.writeBytes a l).read x = m.read x := by
  induction l generalizing m a with
  | nil => rfl
  | cons b l ih =>
    simp only [Mem.writeBytes]
    rw [ih (m.write a b) (by omega), Mem.read_write_other m b (by omega)]

/-- Byte `i` of a run of bytes reads as it was written. -/
theorem Mem.read_writeBytes (m : Mem) (a : Nat) (l : List Byte) {i : Nat} (h : i < l.length) :
    (m.writeBytes a l).read (a + i) = l[i] := by
  induction l generalizing m a i with
  | nil => simp at h
  | cons b l ih =>
    cases i with
    | zero =>
      simp only [Mem.writeBytes, Nat.add_zero, List.getElem_cons_zero]
      rw [Mem.read_writeBytes_below (m.write a b) (by omega : a < a + 1) l]
      exact Mem.read_write_same m a b
    | succ i =>
      have := ih (m.write a b) (a + 1) (i := i) (by simpa using h)
      simp only [Mem.writeBytes, List.getElem_cons_succ]
      rw [← this]; congr 1; omega

/-- Bytes written from `a` on leave the bytes above them alone. -/
theorem Mem.read_writeBytes_above (m : Mem) {a x : Nat} (l : List Byte) (h : a + l.length ≤ x) :
    (m.writeBytes a l).read x = m.read x := by
  induction l generalizing m a with
  | nil => rfl
  | cons b l ih =>
    simp only [Mem.writeBytes, List.length_cons] at *
    rw [ih (m.write a b) (by omega), Mem.read_write_other m b (by omega)]

/-- What a wipe leaves: nothing in its range, everything else as it was. -/
theorem Mem.read_wipe (m : Mem) (a n x : Nat) :
    (m.wipe a n).read x = if a ≤ x ∧ x < a + n then 0 else m.read x := by
  unfold Mem.wipe Mem.read
  have key : ∀ l : List Host.Cell,
      (l.filter (fun c => !(decide (a ≤ c.1) && decide (c.1 < a + n)))).find? (fun c => c.1 == x) =
        if a ≤ x ∧ x < a + n then none else l.find? (fun c => c.1 == x) := by
    intro l
    induction l with
    | nil => simp
    | cons d l ih =>
      simp only [List.filter_cons]
      by_cases hd : a ≤ d.1 ∧ d.1 < a + n
      · simp only [hd.1, hd.2, decide_true, Bool.and_self, Bool.not_true, Bool.false_eq_true, if_false, ih]
        by_cases hx : a ≤ x ∧ x < a + n
        · simp [hx]
        · have : (d.1 == x) = false := by
            simp only [beq_eq_false_iff_ne]; intro h; exact hx (h ▸ hd)
          simp [hx, this]
      · have hn : (!(decide (a ≤ d.1) && decide (d.1 < a + n))) = true := by
          simp only [Bool.not_eq_true', Bool.and_eq_false_iff, decide_eq_false_iff_not]
          by_cases h1 : a ≤ d.1
          · exact Or.inr (fun h2 => hd ⟨h1, h2⟩)
          · exact Or.inl h1
        simp only [hn, if_true, List.find?_cons, ih]
        by_cases hx : a ≤ x ∧ x < a + n
        · have : (d.1 == x) = false := by
            simp only [beq_eq_false_iff_ne]; intro h; exact hd (h ▸ hx)
          simp [hx, this]
        · simp [hx]
  simp only [key]
  by_cases hx : a ≤ x ∧ x < a + n
  · simp only [hx, and_self, if_true]
  · simp only [hx, if_false]

/-! ### The canonical form -/

theorem Mem.wf_iff (m : Mem) : m.wf = true ↔
    rising (m.cells.map (fun c => c.1)) = true ∧ (∀ c ∈ m.cells, c.2 ≠ 0) ∧ rising m.bad = true := by
  simp [Mem.wf, and_assoc]

/-- Memory with nothing in it is in canonical form. -/
theorem Mem.wf_empty : (⟨[], []⟩ : Mem).wf = true := rfl

/-- A write keeps the canonical form. -/
theorem Mem.wf_write {m : Mem} (h : m.wf = true) (a : Nat) (b : Byte) : (m.write a b).wf = true := by
  rw [Mem.wf_iff] at h ⊢
  obtain ⟨h1, h2, h3⟩ := h
  have hne : ∀ c ∈ m.cells.filter (fun c => c.1 != a), c.1 ≠ a := by
    intro c hc; simpa using (List.mem_filter.mp hc).2
  unfold Mem.write
  by_cases hb : b = 0
  · simp only [hb, if_true]
    exact ⟨rising_map_filter _ h1, fun c hc => h2 c ((List.mem_filter.mp hc).1), h3⟩
  · simp only [hb, if_false]
    refine ⟨rising_insertCell (rising_map_filter _ h1) hne, fun c hc => ?_, h3⟩
    rcases mem_insertCell.mp hc with rfl | hc
    · exact hb
    · exact h2 c ((List.mem_filter.mp hc).1)

/-- A code made to fail keeps the canonical form. -/
theorem Mem.wf_markBad {m : Mem} (h : m.wf = true) (a : Nat) : (m.markBad a).wf = true := by
  rw [Mem.wf_iff] at h ⊢
  exact ⟨h.1, h.2.1, rising_insertNat _ h.2.2⟩

/-- A code made valid keeps the canonical form. -/
theorem Mem.wf_clearBad {m : Mem} (h : m.wf = true) (a : Nat) : (m.clearBad a).wf = true := by
  rw [Mem.wf_iff] at h ⊢
  exact ⟨h.1, h.2.1, rising_filter _ h.2.2⟩

/-- A run of bytes keeps the canonical form. -/
theorem Mem.wf_writeBytes {m : Mem} (h : m.wf = true) (a : Nat) (l : List Byte) : (m.writeBytes a l).wf = true := by
  induction l generalizing m a with
  | nil => exact h
  | cons b l ih => exact ih (Mem.wf_write h a b) (a + 1)

/-- A wipe keeps the canonical form. -/
theorem Mem.wf_wipe {m : Mem} (h : m.wf = true) (a n : Nat) : (m.wipe a n).wf = true := by
  rw [Mem.wf_iff] at h ⊢
  exact ⟨rising_map_filter _ h.1, fun c hc => h.2.1 c ((List.mem_filter.mp hc).1), rising_filter _ h.2.2⟩

/-- An access written granule by granule keeps the canonical form. -/
theorem Mem.wf_store {m : Mem} (h : m.wf = true) (ws : List (Nat × Byte)) : (m.store ws).1.wf = true := by
  unfold Mem.store
  suffices hg : ∀ (l : List (Nat × Byte)) (p : Mem × Bool), p.1.wf = true →
      (l.foldl (fun (acc : Mem × Bool) w =>
        let full := coversGran ws w.1
        if !full && m.isBad w.1 then (acc.1, true)
        else (if full then ((acc.1.clearBad w.1).write w.1 w.2, acc.2) else (acc.1.write w.1 w.2, acc.2))) p).1.wf = true from
    hg ws (m, false) h
  intro l
  induction l with
  | nil => exact fun p hp => hp
  | cons w l ih =>
    intro p hp
    simp only [List.foldl_cons]
    apply ih
    split
    · exact hp
    · split
      · exact Mem.wf_write (Mem.wf_clearBad hp _) _ _
      · exact Mem.wf_write hp _ _

/-- An access leaves alone every byte that is not among the bytes it writes. -/
theorem Mem.read_store_other (m : Mem) (ws : List (Nat × Byte)) {x : Nat} (h : ∀ w ∈ ws, w.1 ≠ x) :
    (m.store ws).1.read x = m.read x := by
  unfold Mem.store
  suffices hg : ∀ (l : List (Nat × Byte)) (p : Mem × Bool), (∀ w ∈ l, w.1 ≠ x) →
      (l.foldl (fun (acc : Mem × Bool) w =>
        let full := coversGran ws w.1
        if !full && m.isBad w.1 then (acc.1, true)
        else (if full then ((acc.1.clearBad w.1).write w.1 w.2, acc.2) else (acc.1.write w.1 w.2, acc.2))) p).1.read x
        = p.1.read x from hg ws (m, false) h
  intro l
  induction l with
  | nil => exact fun p _ => rfl
  | cons w l ih =>
    intro p hl
    have hw : x ≠ w.1 := Ne.symm (hl w (by simp))
    simp only [List.foldl_cons]
    rw [ih _ (fun v hv => hl v (by simp [hv]))]
    split
    · rfl
    · split
      · rw [Mem.read_write_other _ _ hw, Mem.read_clearBad]
      · rw [Mem.read_write_other _ _ hw]

end Sys2Proof.Machine
end

