-- ==== Sys2Proof/Laws/Sched.lean ====
section
/-! SUPPORT. SCH's settling after a command: what it can do, and that a calm state stays as it is. -/

namespace Sys2Proof.Machine

theorem foldl_fixed {α β : Type} (f : β → α → β) (b : β) (l : List α) (h : ∀ a ∈ l, f b a = b) : l.foldl f b = b := by
  induction l with
  | nil => rfl
  | cons a l ih =>
    rw [List.foldl_cons, h a List.mem_cons_self]
    exact ih (fun x hx => h x (List.mem_cons_of_mem a hx))

theorem State.settleCab_of_calm {s : State} {c : CabId} (h : (s.cab c).aborting = []) (ha : (s.cab c).after = .none) :
    s.settleCab c = s := by
  have ht : s.tryAborts c = s := by simp [State.tryAborts, h]
  simp [State.settleCab, ht, h, ha]

theorem State.evictLog_of_calm {s : State} (h : Calm s) (c : CabId) : s.evictLog c = s := by
  unfold State.evictLog
  dsimp only []
  rw [if_pos]
  rw [List.isEmpty_iff, List.filter_eq_nil_iff]
  intro x _
  cases hx : s.ctx? c x with
  | none => simp
  | some t =>
    obtain ⟨hb, hr⟩ := h.2 c x t hx
    rcases hr with hr | hr
    · simp [hb, hr]
    · simp [hb, Option.isNone_eq_false_iff.mpr hr]

/-- A state with no abort under way and no stored RT context has nothing for SCH to settle (09 R278, R281). -/
theorem State.schSettle_of_calm {s : State} (h : Calm s) : s.schSettle = s := by
  have hc : (List.finRange 8).foldl (fun s c => s.settleCab c) s = s :=
    foldl_fixed _ _ _ (fun c _ => State.settleCab_of_calm (h.1 c).1 (h.1 c).2)
  unfold State.schSettle
  rw [hc]
  unfold State.evictLogs
  refine foldl_fixed _ _ _ (fun c _ => ?_)
  split
  · exact State.evictLog_of_calm h c
  · rfl

end Sys2Proof.Machine
end

