-- ==== Sys2Proof/Laws/Units.lean ====
section
/-! SUPPORT. The driver of placed instructions: one unit of work of a running entry. -/

namespace Sys2Proof.Machine

theorem modAt_modAt {α : Type} (f g : α → α) (i : Nat) (l : List α) : modAt g i (modAt f i l) = modAt (fun a => g (f a)) i l := by
  induction l generalizing i with
  | nil => cases i <;> rfl
  | cons a l ih => cases i with
    | zero => rfl
    | succ i => simp [modAt, ih]

theorem getElem?_modAt_same {α : Type} (f : α → α) (i : Nat) (l : List α) : (modAt f i l)[i]? = l[i]?.map f := by
  induction l generalizing i with
  | nil => cases i <;> rfl
  | cons a l ih => cases i with
    | zero => rfl
    | succ i => simpa [modAt] using ih i

theorem modAt_congr {α : Type} {f g : α → α} {i : Nat} {l : List α} (h : ∀ a, l[i]? = some a → f a = g a) :
    modAt f i l = modAt g i l := by
  induction l generalizing i with
  | nil => cases i <;> rfl
  | cons a l ih => cases i with
    | zero => simp [modAt, h a rfl]
    | succ i => simp only [modAt]; rw [ih (fun b hb => h b (by simpa using hb))]

theorem vmod_vmod {α : Type} {n : Nat} (v : Vector α n) (i : Fin n) (f g : α → α) :
    vmod (vmod v i f) i g = vmod v i (fun a => g (f a)) := by
  simp [vmod]

theorem State.modDrw_modDrw (s : State) (k : EngineId) (d : Fin 8) (f g : Drawer → Drawer) :
    (s.modDrw k d f).modDrw k d g = s.modDrw k d (fun w => g (f w)) := by
  simp [State.modDrw, State.modEng, vmod_vmod]

theorem State.modEnt_modEnt (s : State) (k : EngineId) (d : Fin 8) (e : Nat) (f g : SbEntry → SbEntry) :
    (s.modEnt k d e f).modEnt k d e g = s.modEnt k d e (fun q => g (f q)) := by
  simp [State.modEnt, State.modDrw_modDrw, modAt_modAt]

theorem vmod_congr {α : Type} {n : Nat} {v : Vector α n} {i : Fin n} {f g : α → α} (h : f (vget v i) = g (vget v i)) :
    vmod v i f = vmod v i g := by
  unfold vmod
  have : f v[i] = g v[i] := h
  rw [this]

theorem State.modEnt_congr {s : State} {k : EngineId} {d : Fin 8} {e : Nat} {f g : SbEntry → SbEntry}
    (h : ∀ q, (s.drw k d).sb[e]? = some q → f q = g q) : s.modEnt k d e f = s.modEnt k d e g := by
  unfold State.modEnt State.modDrw State.modEng
  have : vmod (vget s.engines k).drawers d (fun w => { w with sb := modAt f e w.sb }) =
      vmod (vget s.engines k).drawers d (fun w => { w with sb := modAt g e w.sb }) :=
    vmod_congr (by
      have hm : modAt f e (vget (vget s.engines k).drawers d).sb = modAt g e (vget (vget s.engines k).drawers d).sb :=
        modAt_congr h
      rw [hm])
  rw [vmod_congr (v := s.engines) (i := k)]
  rw [this]

@[simp] theorem State.drw_modEnt (s : State) (k : EngineId) (d : Fin 8) (e : Nat) (f : SbEntry → SbEntry) :
    (s.modEnt k d e f).drw k d = { s.drw k d with sb := modAt f e (s.drw k d).sb } := by
  simp [State.modEnt]

@[simp] theorem State.active_modEnt (s : State) (k : EngineId) (d : Fin 8) (e : Nat) (f : SbEntry → SbEntry) :
    ((s.modEnt k d e f).eng k).active = (s.eng k).active := by
  simp [State.modEnt]

/-- One unit of work that ends without a status: the entry is one unit further, and complete where it was the last; the end of the
instruction, where it is reached, must have nothing to do. The requests carry the instruction's effective class (04 R97). -/
theorem State.runUnit_one {s r u : State} {k : EngineId} {d : Fin 8} {e n opc : Nat} {iw : IWord} {o : UnitOps} (h : Runs s k d e iw n)
    (ho : (Ins.of iw).opc = opc) (hc : r = s.setQct k ((Ins.of iw).effQct (s.eng k).jobQct)) (ht : n < o.total r d (Ins.of iw)) (hr : o.ready r d (Ins.of iw) n = true)
    (hu : o.unit r d (Ins.of iw) n = (u, none)) (q : SbEntry) (hq : (u.drw k d).sb[e]? = some q) (hst : q.st = .running)
    (hp : q.pos = n) (hz : q.status = 0)
    (htot : o.total (u.modEnt k d e (fun q => { q with pos := q.pos + 1 })) d (Ins.of iw) = o.total r d (Ins.of iw))
    (hf : o.total r d (Ins.of iw) ≤ n + 1 → ∀ v, (v.drw k d).sb[e]? = some { q with pos := n + 1 } →
      v = u.modEnt k d e (fun q => { q with pos := q.pos + 1 }) → o.fin v d (Ins.of iw) = (v, none)) :
    s.runUnit k e 1 opc o = u.modEnt k d e (stepped (o.total r d (Ins.of iw))) := by
  obtain ⟨x, hx, hiw, hxs, hxp, hxz, _⟩ := h.entry
  have hent : s.entry k e = some (d, x, Ins.of iw) := by
    unfold State.entry; rw [h.active]; simp only [hx, hiw]
  unfold State.runUnit
  rw [hent]
  dsimp only []
  rw [if_neg (by simp [ho]), hxs]
  dsimp only []
  rw [← hc]
  have hxr : (r.drw k d).sb[e]? = some x := by rw [hc]; simpa [State.setQct, State.drw] using hx
  unfold State.proceed
  have hun : r.units k d e (o.total r d (Ins.of iw)) (fun t x => o.ready t d (Ins.of iw) x)
      (fun t x => o.unit t d (Ins.of iw) x) 1 = u.modEnt k d e (fun q => { q with pos := q.pos + 1 }) := by
    have hw : ¬ (x.st = .done ∨ o.total r d (Ins.of iw) ≤ x.pos ∨ (!o.ready r d (Ins.of iw) x.pos) = true) := by
      rw [hxs, hxp, hr]; simp; omega
    simp only [State.units, hxr, if_neg hw]
    rw [hxp]
    simp only [hu]
  dsimp only []
  rw [hun]
  have hv : ((u.modEnt k d e (fun q => { q with pos := q.pos + 1 })).drw k d).sb[e]? = some { q with pos := n + 1 } := by
    rw [State.drw_modEnt]; dsimp only []; rw [getElem?_modAt_same, hq]; simp [hp]
  rw [hv]
  dsimp only []
  rw [htot]
  by_cases hl : o.total r d (Ins.of iw) ≤ n + 1
  · rw [if_pos ⟨hst, hl⟩]
    simp only [hf hl _ hv rfl]
    rw [State.setDone, State.modEnt_modEnt]
    refine State.modEnt_congr (fun y hr => ?_)
    rw [hq] at hr; injection hr with hr; subst hr
    simp [stepped, hp, hl, hz]
  · rw [if_neg (fun c => hl c.2)]
    refine State.modEnt_congr (fun y hr => ?_)
    rw [hq] at hr; injection hr with hr; subst hr
    simp [stepped, hp, hl, hst]

/-- A stored write of bytes without a failing code among their granules fails nowhere. -/
theorem Mem.store_sound (m : Mem) (ws : List (Nat × Byte)) (h : m.bad = []) : (m.store ws).2 = false := by
  unfold Mem.store
  have : ∀ (l : List (Nat × Byte)) (a : Mem × Bool), a.1.bad = [] → a.2 = false →
      (l.foldl (fun (acc : Mem × Bool) w =>
        let full := coversGran ws w.1
        if !full && m.isBad w.1 then (acc.1, true)
        else (if full then ((acc.1.clearBad w.1).write w.1 w.2, acc.2) else (acc.1.write w.1 w.2, acc.2))) a).2 = false := by
    intro l
    induction l with
    | nil => intro a _ h; exact h
    | cons w l ih =>
      intro a ha hb
      refine ih _ ?_ ?_
      · dsimp only []
        have : m.isBad w.1 = false := by simp [Mem.isBad, h]
        rw [this]
        simp only [Bool.and_false, Bool.false_eq_true, if_false]
        split
        · show (a.1.bad.filter _) = []
          rw [ha]; rfl
        · exact ha
      · dsimp only []
        have : m.isBad w.1 = false := by simp [Mem.isBad, h]
        rw [this]
        simp only [Bool.and_false, Bool.false_eq_true, if_false]
        split <;> exact hb
  exact this ws (m, false) h rfl

theorem State.lmBad_sound (s : State) (k : EngineId) (d : Fin 8) (offs : List Nat) (n : Nat) (h : s.mem.bad = []) :
    s.lmBad k d offs n = false := by
  simp [State.lmBad, Mem.anyBad, Mem.isBad, h]

/-- The bytes that a store into the window writes. -/
theorem windowBytes_eq (s : State) (k : EngineId) (d : Fin 8) (ws : List (Nat × Byte)) :
    (if s.barred k (ws.map (fun w => (s.lmKey k d w.1, w.2))) = [] then ws.map (fun w => (s.lmKey k d w.1, w.2))
      else (ws.map (fun w => (s.lmKey k d w.1, w.2))).filter (fun w => !s.inPrivate w.1 1)) = windowBytes s k d ws := by
  unfold State.barred windowBytes
  generalize ws.map (fun w => (s.lmKey k d w.1, w.2)) = l
  by_cases hk : k.val = 16
  · rw [if_pos hk]
    split
    · rename_i h
      rw [List.filter_eq_nil_iff] at h
      exact (List.filter_eq_self.mpr (fun a ha => by simpa [hk] using h a ha)).symm
    · simp [hk]
  · rw [if_neg hk, if_pos rfl]
    exact (List.filter_eq_self.mpr (fun a _ => by simp [hk])).symm

/-- A store into the window without a failing code. -/
theorem State.lmStore_sound (s : State) (k : EngineId) (d : Fin 8) (ws : List (Nat × Byte)) (h : s.mem.bad = []) :
    s.lmStore k d ws = (({ s with mem := (s.mem.store (windowBytes s k d ws)).1 } : State).barredLog
      (s.barred k (ws.map (fun w => (s.lmKey k d w.1, w.2)))), false) := by
  unfold State.lmStore
  dsimp only []
  rw [windowBytes_eq, Mem.store_sound _ _ h]

end Sys2Proof.Machine
end

