-- ==== Sys2Proof/Tests/Slice0.lean ====
section
/-! SUPPORT. Tests: each check of WellFormed refuses an ill-formed command; states and operands that meet the conditions of each
statement, with what the spec says comes of them. -/

namespace Sys2Proof.Tests

open Sys2Proof Sys2Proof.Machine

set_option Elab.async false

/-- Every clock runs, every power domain is on, and the link is up: a device in use. -/
def on : State :=
  ({ State.reset with
    fclk := true
    aclk := true
    islClk := true
    linkUp := true
    pmc := { resetPmc with
      good := true
      run := true
      pllF := true
      trained := true } } : State).setReg R.PMC_PD_STAT 0 0 (2 ^ 64 - 1)

/-- The state after a command. -/
def after (c : Instr) (s : State) : State :=
  match exec c s with
  | .next t => t
  | _ => State.reset

/-- What `f` sees in the state after a command. -/
def got {α : Type} (c : Instr) (s : State) (f : State → α) : α := f (after c s)

/-- An instruction word from its fields: opcode, class, DST, SRCA, SRCB, MOD, IMM (04 R94). -/
def word (opc cls dst srca srcb mod imm : Nat) : IWord :=
  BitVec.ofNat 128 (opc * 2 ^ 120 + cls * 2 ^ 116 + dst * 2 ^ 96 + srca * 2 ^ 84 + srcb * 2 ^ 72 + mod * 2 ^ 64 + imm)

/-- A register operand (04 R96): kind 0b01, the file's code and the number. -/
def regOp (file n : Nat) : Nat := 1024 + file * 64 + n

/-- Engine 0 runs a job in drawer 0, with a window of four pages, an allotment of one block, and `iw` at word 0 of it. -/
def engineAt (iw : IWord) : State :=
  let s := ((on.setReg R.TE_CTRL 0 0 1).setReg R.TE_DRW_LM 0 0 (4 * 2 ^ 16)).setReg R.TE_DRW_IB 0 0 (1 * 2 ^ 8)
  let s := (s.modEng 0 (fun e => { e with
    active := some 0
    st := .running })).modDrw 0 0 (fun w => { w with
    loaded := true
    jobOn := true })
  { s with mem := s.mem.writeBytes (s.ibKey 0 0 0) (leBytes iw.toNat 16) }

/-- The conditions of `Issues` from what is decided of a concrete state. -/
theorem issues_of {s : State} {k : EngineId} {d : Fin 8} {iw : IWord}
    (h : s.aclkOn k = true ∧ s.issuing k = some (d, (s.drw k d).pc) ∧ (s.drw k d).pc < s.allot k d ∧
      s.mem.anyBad (s.ibKey k d (s.drw k d).pc) 16 = false ∧ s.ibWord k d (s.drw k d).pc = iw ∧
      decodeCheck s k d (Ins.of iw) = none ∧
      (∀ t ∈ (s.drw k d).sb, (footOf s k d (Ins.of t.iw)).blocks (footOf s k d (Ins.of iw)) = false) ∧
      ((Ins.of iw).wait = true → (s.drw k d).sb = []) ∧ (s.eng k).tagNext = false) : Issues s k d iw :=
  ⟨h.1, h.2.1, h.2.2.1, h.2.2.2.1, h.2.2.2.2.1, h.2.2.2.2.2.1, h.2.2.2.2.2.2.1, h.2.2.2.2.2.2.2.1, h.2.2.2.2.2.2.2.2⟩

/-- Accumulator sets `first` to `first + n - 1`, kind 0b10, and a small immediate, kind 0b11 (04 R96). -/
def accOp (first n : Nat) : Nat := 2048 + (n - 1) * 8 + first
def immOp (v : Int) : Nat := 3072 + toU 10 v

/-- Drawer 0 of engine 0 changed. -/
def withDrawer (f : Drawer → Drawer) (s : State) : State := s.modDrw 0 0 f

/-- What two drawers have to agree in to be the same in a test: the registers and the issue state. -/
def sameDrawer (a b : Drawer) : Bool :=
  (a.s.toList.map (fun x => x.toNat) == b.s.toList.map (fun x => x.toNat)) &&
  (a.t.toList.map (fun x => x.toNat) == b.t.toList.map (fun x => x.toNat)) &&
  (a.l.toList.map (fun x => x.toNat) == b.l.toList.map (fun x => x.toNat)) && (a.p.toList == b.p.toList) &&
  (a.q.toList.map (fun x => x.toNat) == b.q.toList.map (fun x => x.toNat)) &&
  (a.e.toList.map (fun x => x.toNat) == b.e.toList.map (fun x => x.toNat)) &&
  (a.info.toNat == b.info.toNat) && (a.pc == b.pc) && decide (a.loops = b.loops) && (a.seq == b.seq) && (a.prev == b.prev) &&
  decide (a.sb = b.sb) && decide (a.fault = b.fault) && (a.halted == b.halted) && (a.jobOn == b.jobOn)

/-- Whether drawer 0 of engine 0 is `w` in `t`, with one instruction more in program order, and registers and memory are
those of `s`. -/
def issuedB (w : Drawer) (s t : State) : Bool :=
  sameDrawer (t.drw 0 0) { w with
    prev := (s.drw 0 0).pc
    seq := (s.drw 0 0).seq + 1 } && decide (t.regs = s.regs) && decide (t.mem = s.mem)

/-- A job without a completion slot and without a deadline, and a context that runs it in drawer 0 (09 R262, R266). -/
def job1 : Job := ⟨false, false, 0, 0, 0, 0, 0, [1, 2, 3, 4], 0, 0, 0, none, false, 0, 0⟩
def ctx1 : Ctx :=
  { rt := false, st := .active, drawer := some 0, progTable := 0x100000000, saveAddr := 0x100010000, binds := [], jobs := [job1],
    started := true, ranks := [⟨none, none, 1, 0, [], [], none⟩], held := [], waits := [], lastRun := 0, ever := true,
    recovering := false, blockedLogged := false, raised := [], record := 0, ending := none }

/-- Cabinet 0, flash-launched, of engine 0 alone, with context 0 as `x` makes it, active in drawer 0. -/
def inCabinet (x : Ctx) (s : State) : State :=
  let s := (((s.put F.SN_CAB_CFG_SIZE 0 0 1).put F.SCH_CAB_ENG_ENGINES 0 0 1).put F.SCH_CAB_CFG_EN 0 0 1).put F.SCH_CAB_CFG_RES_MAX 0 0 1
  (s.modCab 0 (fun b => { b with
    live := true
    flash := true
    base := 0x100000000
    size := 0x10000000
    ctxs := vmod b.ctxs 0 (fun _ => some x)
    act := some 0 })).modDrw 0 0 (fun w => { w with ctx := some (0, 0) })

/-- A placed entry of an instruction. -/
def entry (iw : IWord) (st : EntState) (pos : Nat) : SbEntry := ⟨0, 0, iw, st, pos, [], [], [], 0, false, none⟩

/-- Engine 0 as in `engineAt`, whose drawer holds one entry. -/
def holding (q : SbEntry) : State := withDrawer (fun w => { w with sb := [q] }) (engineAt 0#128)

/-- A running instruction that has done `n` units. -/
def running (iw : IWord) (n : Nat) : State := holding (entry iw .running n)

theorem runs_of {s : State} {iw : IWord} {n : Nat}
    (h : s.aclkOn 0 = true ∧ (s.eng 0).active = some 0 ∧ s.mem.bad = [] ∧ ((s.drw 0 0).sb[0]?.map (fun q => q.iw)) = some iw ∧
      ((s.drw 0 0).sb[0]?.map (fun q => (q.st, q.pos, q.status, q.chk))) = some (.running, n, 0, [])) : Runs s 0 0 0 iw n := by
  obtain ⟨h1, h2, h3, h4, h5⟩ := h
  cases hq : (s.drw 0 0).sb[0]? with
  | none => simp [hq] at h4
  | some q =>
    simp only [hq, Option.map_some, Option.some.injEq, Prod.mk.injEq] at h4 h5
    exact ⟨h1, h2, ⟨q, hq, h4, h5⟩, h3⟩

theorem starts_of {s : State} {q : SbEntry}
    (h : s.aclkOn 0 = true ∧ (s.eng 0).active = some 0 ∧ (s.drw 0 0).sb[0]? = some q ∧ q.st = .waiting ∧
      s.canStart 0 0 0 (Ins.of q.iw) = true) : Starts s 0 0 0 q := ⟨h.1, h.2.1, h.2.2.1, h.2.2.2.1, h.2.2.2.2⟩

/-- A descriptor: format, base, counts, strides (04 R91). -/
def desc (fmt base d0 d1 d2 d3 st0 st1 st2 st3 : Nat) : Nat :=
  2 ^ 255 + st3 * 2 ^ 168 + st2 * 2 ^ 144 + st1 * 2 ^ 120 + st0 * 2 ^ 96 + d3 * 2 ^ 80 + d2 * 2 ^ 64 + d1 * 2 ^ 48 + d0 * 2 ^ 32
    + fmt * 2 ^ 24 + base

/-- Bytes put into the window of drawer 0, and read from it. -/
def inWin (off : Nat) (l : List Byte) (s : State) : State := { s with mem := s.mem.writeBytes (s.lmKey 0 0 off) l }
def win (s : State) (off n : Nat) : List Byte := s.mem.readBytes (s.lmKey 0 0 off) n

/-- State and progress of the first entry. -/
def progress (s : State) : Option (EntState × Nat × Nat) := (s.drw 0 0).sb[0]?.map (fun q => (q.st, q.pos, q.status))

/-- `on` with one power domain off. -/
def without (d : Nat) : State := on.setReg R.PMC_PD_STAT 0 0 (2 ^ 64 - 1 - 2 ^ d)
/-- The state a step answers. -/
def next (s : State) : State :=
  match step s with
  | .next t => t
  | _ => State.reset

/-- Two commands wait: the first runs, and the second still waits. -/
theorem test_step_runs_front :
    let s : State := { on with pending := [.partnerAliveEdge, .powerOnReset] }
    (next s).pending = [.powerOnReset] ∧ (next s).trs.silent = false := by decide +kernel

/-- With nothing waiting the MTU advances by MTU_INCR, and the tick is counted; without FCLK it stands. -/
theorem test_idle_tick : on.pending = [] ∧ (next (on.put F.MTU_INCR_NS 0 0 3)).mtu = 3 * 2 ^ 32 + on.rd F.MTU_INCR_FRAC ∧
    (next on).ticks = 1 ∧ (next State.reset).mtu = 0 := by decide +kernel

/-- Reset as the rules say it: FAULT_N asserted, both cores Secure, slices not ready, no cabinet, canonical empty memory. -/
theorem test_reset : State.reset.isl.faultN = false ∧ State.reset.isl.world = Vector.replicate 2 true ∧ State.reset.mem.wf = true ∧
    State.reset.rd F.SBUF_STAT_READY = 0 := by decide +kernel

/-- A byte written and written back to 0 is not listed. -/
theorem test_memory_canonical : ((State.reset.mem.write 5 7).write 9 1).wf = true ∧ ((State.reset.mem.write 5 7).write 5 0) = State.reset.mem := by
  decide +kernel
/-! ### Control and scalar instructions (05 R126 to R135) -/

/-- The word issues on the state, of opcode `o`, and command `c` leaves the drawer as `f` makes it with nothing else changed. -/
def IssuesAs (s : State) (iw : IWord) (o : Nat) (c : Instr) (f : Drawer → Drawer) : Prop :=
  Issues s 0 0 iw ∧ (Ins.of iw).opc = o ∧ issuedB (f (s.drw 0 0)) s (after c s) = true

/-- NOP with its word written out: every bit 0 (05 R120; 04 R94). -/
theorem test_nop : IssuesAs (engineAt 0x00000000000000000000000000000000#128) 0#128 0x00 (.nop 0) (fun w => { w with pc := 1 }) :=
  ⟨issues_of (by decide +kernel), by decide +kernel, by decide +kernel⟩
/-- YIELD, opcode 0x02, with an empty scoreboard. -/
theorem test_yield : IssuesAs (engineAt 0x02000000000000000000000000000000#128) 0x02000000000000000000000000000000#128 0x02 (.yield 0)
    (fun w => { w with pc := 1 }) ∧ ((engineAt 0#128).drw 0 0).sb = [] :=
  ⟨⟨issues_of (by decide +kernel), by decide +kernel, by decide +kernel⟩, by decide +kernel⟩
/-- BR to the last word, 4095. -/
theorem test_br : IssuesAs (engineAt 0x03000000000000000000000000000FFF#128) 0x03000000000000000000000000000FFF#128 0x03 (.br 0)
    (fun w => { w with pc := 4095 }) :=
  ⟨issues_of (by decide +kernel), by decide +kernel, by decide +kernel⟩
/-- BRC on P7, which is 1: taken with SENSE 0. -/
theorem test_brc_predicate : IssuesAs (withDrawer (fun w => w.wrP 7 true) (engineAt (word 4 0 0 0 0 7 9))) (word 4 0 0 0 0 7 9) 0x04
    (.brc 0) (fun w => { w with pc := 9 }) :=
  ⟨issues_of (by decide +kernel), by decide +kernel, by decide +kernel⟩
/-- BRC on INFO bit 31, which is 1, with SENSE 1: not taken. -/
theorem test_brc_info : IssuesAs (withDrawer (fun w => { w with info := 0x80000000#32 }) (engineAt (word 4 0 0 0 0 (64 + 32 + 31) 9)))
    (word 4 0 0 0 0 (64 + 32 + 31) 9) 0x04 (.brc 0) (fun w => { w with pc := 1 }) :=
  ⟨issues_of (by decide +kernel), by decide +kernel, by decide +kernel⟩

/-- LOOP with count 511, the highest immediate, and with count 0, which goes to its exit. -/
theorem test_loop_opens : IssuesAs (engineAt (word 5 0 (regOp 3 3) (immOp 511) 0 0 9)) (word 5 0 (regOp 3 3) (immOp 511) 0 0 9) 0x05
    (.loop 0) (fun w => { w.wrL 3 511 with
      pc := 1
      loops := [⟨3, 1⟩] }) :=
  ⟨issues_of (by decide +kernel), by decide +kernel, by decide +kernel⟩
theorem test_loop_skips : IssuesAs (engineAt (word 5 0 (regOp 3 3) (regOp 0 1) 0 0 9)) (word 5 0 (regOp 3 3) (regOp 0 1) 0 0 9) 0x05
    (.loop 0) (fun w => { w with pc := 9 }) ∧ (Ins.of (word 5 0 (regOp 3 3) (regOp 0 1) 0 0 9)).srca = .reg .S 1 :=
  ⟨⟨issues_of (by decide +kernel), by decide +kernel, by decide +kernel⟩, by decide +kernel⟩
/-- ENDL at count 2 goes back; at count 1 it closes the loop. -/
theorem test_endl_repeats : IssuesAs (withDrawer (fun w => { w.wrL 2 2 with loops := [⟨2, 7⟩] }) (engineAt (word 6 0 0 (regOp 3 2) 0 0 0)))
    (word 6 0 0 (regOp 3 2) 0 0 0) 0x06 (.endl 0) (fun w => { w.wrL 2 1 with pc := 7 }) :=
  ⟨issues_of (by decide +kernel), by decide +kernel, by decide +kernel⟩
theorem test_endl_closes : IssuesAs (withDrawer (fun w => { w.wrL 2 1 with loops := [⟨2, 7⟩] }) (engineAt (word 6 0 0 (regOp 3 2) 0 0 0)))
    (word 6 0 0 (regOp 3 2) 0 0 0) 0x06 (.endl 0) (fun w => { w.wrL 2 0 with
      pc := 1
      loops := [] }) :=
  ⟨issues_of (by decide +kernel), by decide +kernel, by decide +kernel⟩
/-- A fifth LOOP, and an ENDL of another counter: LOOP_DEPTH. -/
def depth4 : State := withDrawer (fun w => { w with loops := [⟨0, 1⟩, ⟨1, 1⟩, ⟨2, 1⟩, ⟨3, 1⟩] }) (engineAt (word 5 0 (regOp 3 3) (immOp 1) 0 0 9))
theorem test_loop_depth : Issues depth4 0 0 (word 5 0 (regOp 3 3) (immOp 1) 0 0 9) ∧ (depth4.drw 0 0).loops.length = 4 ∧
    got (.loop 0) depth4 (fun t => ((t.eng 0).st, (t.eng 0).why, (t.drw 0 0).fault, (t.drw 0 0).loops)) =
      (.draining, some .fault, some ⟨0, 0, 0x2A⟩, (depth4.drw 0 0).loops) :=
  ⟨issues_of (by decide +kernel), by decide +kernel, by decide +kernel⟩
theorem test_loop_depth_skips : IssuesAs (withDrawer (fun w => { w with loops := [⟨0, 1⟩, ⟨1, 1⟩, ⟨2, 1⟩, ⟨3, 1⟩] })
    (engineAt (word 5 0 (regOp 3 3) (immOp 0) 0 0 9))) (word 5 0 (regOp 3 3) (immOp 0) 0 0 9) 0x05 (.loop 0) (fun w => { w with pc := 9 }) :=
  ⟨issues_of (by decide +kernel), by decide +kernel, by decide +kernel⟩
def wrongEndl : State := withDrawer (fun w => { w with loops := [⟨0, 1⟩] }) (engineAt (word 6 0 0 (regOp 3 2) 0 0 0))
theorem test_endl_depth : Issues wrongEndl 0 0 (word 6 0 0 (regOp 3 2) 0 0 0) ∧
    got (.endl 0) wrongEndl (fun t => ((t.eng 0).st, (t.eng 0).why, (t.drw 0 0).fault, (t.drw 0 0).loops, (t.drw 0 0).pc)) =
      (.draining, some .fault, some ⟨0, 0, 0x2A⟩, [⟨0, 1⟩], 0) :=
  ⟨issues_of (by decide +kernel), by decide +kernel⟩

/-- SMOV of an immediate to Q3, of Q3 to S31, of the INFO mask and of rank and gang size to S5, and the clearing of INFO bits. -/
theorem test_smov_immediate : IssuesAs (engineAt (word 8 0 (regOp 5 3) 0 0 0 0xFFFFF0)) (word 8 0 (regOp 5 3) 0 0 0 0xFFFFF0) 0x08 (.smov 0)
    (fun w => { w.wrQ 3 0xFFFFF0 with pc := 1 }) :=
  ⟨issues_of (by decide +kernel), by decide +kernel, by decide +kernel⟩
theorem test_smov_register : IssuesAs (withDrawer (fun w => w.wrQ 3 48) (engineAt (word 8 0 (regOp 0 31) (regOp 5 3) 0 1 0)))
    (word 8 0 (regOp 0 31) (regOp 5 3) 0 1 0) 0x08 (.smov 0) (fun w => { w.wrS 31 48 with pc := 1 }) :=
  ⟨issues_of (by decide +kernel), by decide +kernel, by decide +kernel⟩
theorem test_smov_info : IssuesAs (withDrawer (fun w => { w with info := 0x80000002#32 }) (engineAt (word 8 0 (regOp 0 5) 0 0 2 0)))
    (word 8 0 (regOp 0 5) 0 0 2 0) 0x08 (.smov 0) (fun w => { w.wrS 5 0x80000002 with pc := 1 }) :=
  ⟨issues_of (by decide +kernel), by decide +kernel, by decide +kernel⟩
theorem test_smov_clears_info : IssuesAs (withDrawer (fun w => ({ w with info := 0x80000002#32 }).wrS 4 2)
    (engineAt (word 8 0 0 (regOp 0 4) 0 3 0))) (word 8 0 0 (regOp 0 4) 0 3 0) 0x08 (.smov 0) (fun w => { w with
      pc := 1
      info := 0x80000000#32 }) :=
  ⟨issues_of (by decide +kernel), by decide +kernel, by decide +kernel⟩
theorem test_smov_rank : IssuesAs (withDrawer (fun w => { w with rank := 3 }) (engineAt (word 8 0 (regOp 0 5) 0 0 4 0)))
    (word 8 0 (regOp 0 5) 0 0 4 0) 0x08 (.smov 0) (fun w => { w.wrS 5 (256 + 3) with pc := 1 }) :=
  ⟨issues_of (by decide +kernel), by decide +kernel, by decide +kernel⟩
/-- SADD: a difference that wraps, an arithmetic right shift by 31 bits, and a signed comparison to P7; a result to S0 is
discarded. -/
theorem test_sadd_wraps : IssuesAs (engineAt (word 9 0 (regOp 0 5) (regOp 0 1) (immOp 1) 1 0)) (word 9 0 (regOp 0 5) (regOp 0 1) (immOp 1) 1 0)
    0x09 (.sadd 0) (fun w => { w.wrS 5 0xFFFFFFFF with pc := 1 }) :=
  ⟨issues_of (by decide +kernel), by decide +kernel, by decide +kernel⟩
theorem test_sadd_shifts : IssuesAs (withDrawer (fun w => w.wrS 1 0x80000000) (engineAt (word 9 0 (regOp 0 5) (regOp 0 1) 0 (16 + 8) 31)))
    (word 9 0 (regOp 0 5) (regOp 0 1) 0 (16 + 8) 31) 0x09 (.sadd 0) (fun w => { w.wrS 5 0xFFFFFFFF with pc := 1 }) :=
  ⟨issues_of (by decide +kernel), by decide +kernel, by decide +kernel⟩
theorem test_sadd_compares : IssuesAs (withDrawer (fun w => w.wrS 1 0x80000000) (engineAt (word 9 0 (regOp 4 7) (regOp 0 1) (immOp (-1)) 10 0)))
    (word 9 0 (regOp 4 7) (regOp 0 1) (immOp (-1)) 10 0) 0x09 (.sadd 0) (fun w => { w.wrP 7 true with pc := 1 }) :=
  ⟨issues_of (by decide +kernel), by decide +kernel, by decide +kernel⟩
theorem test_sadd_zero_register : IssuesAs (engineAt (word 9 0 (regOp 0 0) (regOp 0 0) (immOp 1) 0 0)) (word 9 0 (regOp 0 0) (regOp 0 0) (immOp 1) 0 0)
    0x09 (.sadd 0) (fun w => { w with pc := 1 }) :=
  ⟨issues_of (by decide +kernel), by decide +kernel, by decide +kernel⟩
/-- TDSET of ST3, of BASE by adding modulo 2^24, of a copy, and of 32 bytes of the window. -/
theorem test_tdset_field : IssuesAs (engineAt (word 10 0 (regOp 1 31) (regOp 0 0) 0 8 0x1FFFFFF)) (word 10 0 (regOp 1 31) (regOp 0 0) 0 8 0x1FFFFFF)
    0x0A (.tdset 0) (fun w => { w.wrT 31 (0xFFFFFF * 2 ^ 168) with pc := 1 }) :=
  ⟨issues_of (by decide +kernel), by decide +kernel, by decide +kernel⟩
theorem test_tdset_adds : IssuesAs (withDrawer (fun w => w.wrT 2 0xFFFFFF) (engineAt (word 10 0 (regOp 1 2) 0 0 14 2)))
    (word 10 0 (regOp 1 2) 0 0 14 2) 0x0A (.tdset 0) (fun w => { w.wrT 2 1 with pc := 1 }) :=
  ⟨issues_of (by decide +kernel), by decide +kernel, by decide +kernel⟩
theorem test_tdset_copies : IssuesAs (withDrawer (fun w => w.wrT 2 (2 ^ 255 + 7)) (engineAt (word 10 0 (regOp 1 3) (regOp 1 2) 0 12 0)))
    (word 10 0 (regOp 1 3) (regOp 1 2) 0 12 0) 0x0A (.tdset 0) (fun w => { w.wrT 3 (2 ^ 255 + 7) with pc := 1 }) :=
  ⟨issues_of (by decide +kernel), by decide +kernel, by decide +kernel⟩
def tdsetLoad : State :=
  let s := engineAt (word 10 0 (regOp 1 3) 0 0 13 64)
  { s with mem := s.mem.write (s.lmKey 0 0 95) 0x80 }
theorem test_tdset_loads : IssuesAs tdsetLoad (word 10 0 (regOp 1 3) 0 0 13 64) 0x0A (.tdset 0) (fun w => { w.wrT 3 (2 ^ 255) with pc := 1 }) ∧
    tdsetLoad.lmBad 0 0 [64] 32 = false :=
  ⟨⟨issues_of (by decide +kernel), by decide +kernel, by decide +kernel⟩, by decide +kernel⟩

/-- HALT where rank 1 has not halted; and on the last rank, where the job ends. -/
def haltS : State := inCabinet ctx1 (engineAt (word 1 0 0 0 0 0 0))
theorem test_halt_of_one_rank :
    let s := (haltS.put F.SN_CAB_CFG_SIZE 0 0 2).put F.SN_CAB_RANKMAP_MAP 0 0 0x10
    Issues s 0 0 (word 1 0 0 0 0 0 0) ∧ (s.drw 0 0).sb = [] ∧
    ((s.modDrw 0 0 (fun w => { w with halted := true })).allHalted 0 0 = false) ∧
    ((after (.halt 0) s).drw 0 0).halted = true ∧ ((after (.halt 0) s).eng 0).st = .running ∧
    (after (.halt 0) s).ctx? 0 0 = some ctx1 :=
  ⟨issues_of (by decide +kernel), by decide +kernel⟩
theorem test_halt_ends_the_job :
    Issues haltS 0 0 (word 1 0 0 0 0 0 0) ∧ (haltS.drw 0 0).ctx = some (0, 0) ∧ haltS.gang 0 = 1 ∧ haltS.rankEng 0 0 = 0 ∧
    ((haltS.modDrw 0 0 (fun w => { w with halted := true })).allHalted 0 0 = true) ∧
    got (.halt 0) haltS (fun t => ((t.eng 0).st, (t.eng 0).active, (t.drw 0 0).jobOn)) = (.stopped, none, false) ∧
    got (.halt 0) haltS (fun t => (t.ctx? 0 0).map (fun c => (c.jobs.length, c.st, c.started))) = some (0, .idle, false) :=
  ⟨issues_of (by decide +kernel), by decide +kernel⟩

/-- A TCOPY of two elements is placed; with 64 DMA entries held, the class's limit, it is not. -/
def tcopyW : IWord := word 0x12 1 (regOp 1 2) (regOp 1 1) 0 0 0
def tcopyS : State := withDrawer (fun w => (w.wrT 1 (desc 0 0 2 1 1 1 1 0 0 0)).wrT 2 (desc 0 64 2 1 1 1 1 0 0 0)) (engineAt tcopyW)
theorem test_tcopy_is_placed : Issues tcopyS 0 0 tcopyW ∧ (Ins.of tcopyW).cls = 1 ∧
    ((after (.instructionIssue 0) tcopyS).drw 0 0).sb = [entry tcopyW .waiting 0] ∧
    ((after (.instructionIssue 0) tcopyS).drw 0 0).pc = 1 :=
  ⟨issues_of (by decide +kernel), by decide +kernel⟩
def fullS : State := withDrawer (fun w => { w with sb := List.replicate 64 (entry (word 0x12 1 (regOp 1 5) (regOp 1 4) 0 0 0) .waiting 0) })
  (withDrawer (fun w => (w.wrT 4 (desc 0 256 2 1 1 1 1 0 0 0)).wrT 5 (desc 0 320 2 1 1 1 1 0 0 0)) tcopyS)
theorem test_class_limit : Issues fullS 0 0 tcopyW ∧ classMax (Ins.of tcopyW).cls = 64 ∧
    ((fullS.drw 0 0).sb.filter (fun t => (Ins.of t.iw).cls == 1)).length = 64 ∧
    ((after (.instructionIssue 0) fullS).drw 0 0).pc = 0 :=
  ⟨issues_of (by decide +kernel), by decide +kernel⟩

/-- Completion with OK; with informational status 0x1F, the highest; with program error 0x20, the lowest. -/
def doneS (st : Nat) : State := holding { entry tcopyW .done 1 with
  word := 9
  status := st }
theorem test_completion_ok : (doneS 0).aclkOn 0 = true ∧ ((doneS 0).eng 0).active = some 0 ∧
    (doneS 0).drw 0 0 = { (doneS 0).drw 0 0 with sb := [{ entry tcopyW .done 1 with word := 9 }] } ∧ (Ins.of tcopyW).last = false ∧
    ((after (.instructionComplete 0 0) (doneS 0)).drw 0 0).sb = [] ∧ ((after (.instructionComplete 0 0) (doneS 0)).drw 0 0).info = 0 := by
  decide +kernel
theorem test_completion_informs : ((after (.instructionComplete 0 0) (doneS 0x1F)).drw 0 0).sb = [] ∧
    ((after (.instructionComplete 0 0) (doneS 0x1F)).drw 0 0).info = 0x80000000#32 := by decide +kernel
theorem test_completion_faults : ((doneS 0x20).eng 0).st = .running ∧ ((doneS 0x20).drw 0 0).fault = none ∧
    got (.instructionComplete 0 0) (doneS 0x20) (fun t => ((t.eng 0).st, (t.eng 0).why, (t.drw 0 0).fault, (t.drw 0 0).info)) =
      (.draining, some .fault, some ⟨9, 0, 0x20⟩, 0) := by decide +kernel

/-! The conditions of `AtWord`, for each instruction that the issue unit executes. -/

theorem atWord_of {s : State} {iw : IWord}
    (h : (s.aclkOn 0 = true ∧ (s.eng 0).active = some 0 ∧ (s.eng 0).st = .running ∧ s.flag F.TE_CTRL_RUN 0 = true ∧
      (s.drw 0 0).loaded = true ∧ (s.drw 0 0).jobOn = true ∧ (s.drw 0 0).halted = false ∧ (s.drw 0 0).faulting = false ∧
      (s.drw 0 0).sb = [] ∧ (s.eng 0).tagNext = false) ∧ (s.drw 0 0).pc < s.allot 0 0 ∧
      s.mem.anyBad (s.ibKey 0 0 (s.drw 0 0).pc) 16 = false ∧ s.ibWord 0 0 (s.drw 0 0).pc = iw ∧
      (Ins.of iw).cls = 0 ∧ (Ins.of iw).rsv = false) : AtWord s 0 0 iw :=
  ⟨h.1.1, h.1.2.1, h.1.2.2.1, h.1.2.2.2.1, h.1.2.2.2.2.1, h.1.2.2.2.2.2.1, ⟨h.1.2.2.2.2.2.2.1, h.1.2.2.2.2.2.2.2.1⟩,
    h.1.2.2.2.2.2.2.2.2.1, h.1.2.2.2.2.2.2.2.2.2, h.2.1, h.2.2.1, h.2.2.2.1, h.2.2.2.2⟩

/-- The fields of a word. -/
def hasFields (iw : IWord) (opc mod imm : Nat) (dst srca srcb : Opnd) : Prop :=
  let i := Ins.of iw
  i.opc = opc ∧ i.mod = mod ∧ i.imm = imm ∧ i.dst = dst ∧ i.srca = srca ∧ i.srcb = srcb

theorem test_at_nop : AtWord (engineAt 0#128) 0 0 0#128 ∧ hasFields 0#128 0 0 0 .none .none .none :=
  ⟨atWord_of (by decide +kernel), by unfold hasFields; decide +kernel⟩
theorem test_at_yield : AtWord (engineAt (word 2 0 0 0 0 0 0)) 0 0 (word 2 0 0 0 0 0 0) ∧
    hasFields (word 2 0 0 0 0 0 0) 2 0 0 .none .none .none := ⟨atWord_of (by decide +kernel), by unfold hasFields; decide +kernel⟩
theorem test_at_br : AtWord (engineAt (word 3 0 0 0 0 0 4095)) 0 0 (word 3 0 0 0 0 0 4095) ∧
    hasFields (word 3 0 0 0 0 0 4095) 3 0 4095 .none .none .none := ⟨atWord_of (by decide +kernel), by unfold hasFields; decide +kernel⟩
theorem test_at_brc : AtWord (engineAt (word 4 0 0 0 0 7 9)) 0 0 (word 4 0 0 0 0 7 9) ∧
    hasFields (word 4 0 0 0 0 7 9) 4 7 9 .none .none .none ∧ AtWord (engineAt (word 4 0 0 0 0 95 9)) 0 0 (word 4 0 0 0 0 95 9) ∧
    hasFields (word 4 0 0 0 0 95 9) 4 95 9 .none .none .none :=
  ⟨atWord_of (by decide +kernel), by unfold hasFields; decide +kernel, atWord_of (by decide +kernel), by unfold hasFields; decide +kernel⟩
theorem test_at_loop : AtWord (engineAt (word 5 0 (regOp 3 3) (immOp 511) 0 0 9)) 0 0 (word 5 0 (regOp 3 3) (immOp 511) 0 0 9) ∧
    hasFields (word 5 0 (regOp 3 3) (immOp 511) 0 0 9) 5 0 9 (.reg .L 3) (.imm 511) .none ∧
    AtWord (engineAt (word 5 0 (regOp 3 3) (regOp 0 1) 0 0 9)) 0 0 (word 5 0 (regOp 3 3) (regOp 0 1) 0 0 9) ∧
    hasFields (word 5 0 (regOp 3 3) (regOp 0 1) 0 0 9) 5 0 9 (.reg .L 3) (.reg .S 1) .none ∧ ((engineAt 0#128).drw 0 0).rdS 1 = 0 ∧
    ((engineAt 0#128).drw 0 0).loops.length < 4 :=
  ⟨atWord_of (by decide +kernel), by unfold hasFields; decide +kernel, atWord_of (by decide +kernel), by unfold hasFields; decide +kernel,
    by decide +kernel, by decide +kernel⟩
def endlS (v : Nat) : State := withDrawer (fun w => { w.wrL 2 v with loops := [⟨2, 7⟩] }) (engineAt (word 6 0 0 (regOp 3 2) 0 0 0))
theorem test_at_endl : AtWord (endlS 1) 0 0 (word 6 0 0 (regOp 3 2) 0 0 0) ∧ AtWord (endlS 2) 0 0 (word 6 0 0 (regOp 3 2) 0 0 0) ∧
    hasFields (word 6 0 0 (regOp 3 2) 0 0 0) 6 0 0 .none (.reg .L 2) .none ∧ ((endlS 1).drw 0 0).rdL 2 = 1 ∧ 1 < ((endlS 2).drw 0 0).rdL 2 ∧
    ((endlS 1).drw 0 0).loops = [⟨2, 7⟩] :=
  ⟨atWord_of (by decide +kernel), atWord_of (by decide +kernel), by unfold hasFields; decide +kernel, by decide +kernel, by decide +kernel,
    by decide +kernel⟩
theorem test_at_smov : AtWord (engineAt (word 8 0 (regOp 0 31) 0 0 0 0xFFFFFFFF)) 0 0 (word 8 0 (regOp 0 31) 0 0 0 0xFFFFFFFF) ∧
    hasFields (word 8 0 (regOp 0 31) 0 0 0 0xFFFFFFFF) 8 0 0xFFFFFFFF (.reg .S 31) .none .none ∧
    AtWord (engineAt (word 8 0 (regOp 0 31) (regOp 0 4) 0 1 0)) 0 0 (word 8 0 (regOp 0 31) (regOp 0 4) 0 1 0) ∧
    hasFields (word 8 0 (regOp 0 31) (regOp 0 4) 0 1 0) 8 1 0 (.reg .S 31) (.reg .S 4) .none :=
  ⟨atWord_of (by decide +kernel), by unfold hasFields; decide +kernel, atWord_of (by decide +kernel), by unfold hasFields; decide +kernel⟩
theorem test_at_sadd : AtWord (engineAt (word 9 0 (regOp 0 5) (regOp 0 1) 0 16 31)) 0 0 (word 9 0 (regOp 0 5) (regOp 0 1) 0 16 31) ∧
    hasFields (word 9 0 (regOp 0 5) (regOp 0 1) 0 16 31) 9 16 31 (.reg .S 5) (.reg .S 1) .none ∧
    AtWord (engineAt (word 9 0 (regOp 0 5) (regOp 0 1) (regOp 0 2) 1 0)) 0 0 (word 9 0 (regOp 0 5) (regOp 0 1) (regOp 0 2) 1 0) ∧
    hasFields (word 9 0 (regOp 0 5) (regOp 0 1) (regOp 0 2) 1 0) 9 1 0 (.reg .S 5) (.reg .S 1) (.reg .S 2) :=
  ⟨atWord_of (by decide +kernel), by unfold hasFields; decide +kernel, atWord_of (by decide +kernel), by unfold hasFields; decide +kernel⟩
theorem test_at_tdset : AtWord (engineAt (word 10 0 (regOp 1 31) 0 0 0 0xFFFFFF)) 0 0 (word 10 0 (regOp 1 31) 0 0 0 0xFFFFFF) ∧
    hasFields (word 10 0 (regOp 1 31) 0 0 0 0xFFFFFF) 10 0 0xFFFFFF (.reg .T 31) .none .none ∧
    AtWord (engineAt (word 10 0 (regOp 1 3) (regOp 1 2) 0 12 0)) 0 0 (word 10 0 (regOp 1 3) (regOp 1 2) 0 12 0) ∧
    hasFields (word 10 0 (regOp 1 3) (regOp 1 2) 0 12 0) 10 12 0 (.reg .T 3) (.reg .T 2) .none :=
  ⟨atWord_of (by decide +kernel), by unfold hasFields; decide +kernel, atWord_of (by decide +kernel), by unfold hasFields; decide +kernel⟩
theorem test_at_halt : AtWord haltS 0 0 (word 1 0 0 0 0 0 0) ∧ hasFields (word 1 0 0 0 0 0 0) 1 0 0 .none .none .none ∧
    (haltS.drw 0 0).ctx = some (0, 0) ∧ haltS.ctx? 0 0 = some ctx1 ∧ haltS.gang 0 = 1 ∧ haltS.rankEng 0 0 = 0 ∧ ctx1.jobs = [job1] :=
  ⟨atWord_of (by decide +kernel), by unfold hasFields; decide +kernel, by decide +kernel⟩
/-- A TDSET that copies with LAST: the page wholly in the range of its source is live no more (04 R98). -/
def lastW : IWord := word 10 0 (regOp 1 3) (regOp 1 2) 0 12 0 ||| BitVec.ofNat 128 (2 ^ 110)
theorem test_tdset_last : (Ins.of lastW).last = true ∧ Issues (withDrawer (fun w => { w.wrT 2 (desc 0 0 16384 1 1 1 1 0 0 0) with live := 3 }) (engineAt lastW))
    0 0 lastW ∧ ((after (.tdset 0) (withDrawer (fun w => { w.wrT 2 (desc 0 0 16384 1 1 1 1 0 0 0) with live := 3 }) (engineAt lastW))).drw 0 0).live = 2 :=
  ⟨by decide +kernel, issues_of (by decide +kernel), by decide +kernel⟩
theorem test_at_halt_of_one_rank :
    let s := (haltS.put F.SN_CAB_CFG_SIZE 0 0 2).put F.SN_CAB_RANKMAP_MAP 0 0 0x10
    AtWord s 0 0 (word 1 0 0 0 0 0 0) ∧ s.gang 0 = 2 ∧ s.rankEng 0 1 ≠ 0 ∧ (s.drw (s.rankEng 0 1) 0).halted = false :=
  ⟨atWord_of (by decide +kernel), by decide +kernel⟩
/-! ### Instructions as units of work (02 R54; 04 R99 to R106; 05 R136 to R154; 06 R177 to R181; 03 R77) -/

/-- A waiting TCOPY that may start; the same behind an earlier entry that writes its source. -/
def waitS : State := withDrawer (fun w => { w with sb := [entry tcopyW .waiting 0] }) tcopyS
theorem test_start : waitS.aclkOn 0 = true ∧ (waitS.eng 0).active = some 0 ∧ waitS.canStart 0 0 0 (Ins.of tcopyW) = true ∧
    0 < ((waitS.drw 0 0).desc (Ins.of tcopyW).dst).rows ∧ progress (after (.tcopy 0 0 0) waitS) = some (.running, 0, 0) := by decide +kernel
def blockedS : State := withDrawer (fun w => { w with sb := [entry (word 0x12 1 (regOp 1 1) (regOp 1 2) 0 0 0) .waiting 0, entry tcopyW .waiting 0] }) tcopyS
theorem test_start_blocked : blockedS.canStart 0 0 1 (Ins.of tcopyW) = false ∧
    ((after (.tcopy 0 1 0) blockedS).drw 0 0).sb = (blockedS.drw 0 0).sb := by decide +kernel

/-- TLOAD of four bytes from LPDDR5X, TSTORE of two to it, and TCOPY of the only row of tcopyS. -/
def tloadW : IWord := word 0x10 1 (regOp 1 2) 0 0 0 0x100000100
def tloadS : State :=
  let s := withDrawer (fun w => w.wrT 2 (desc 0 64 4 1 1 1 1 0 0 0)) (running tloadW 0)
  { s with mem := s.mem.writeBytes 0x100000100 [1, 2, 3, 4] }
theorem test_tload : Runs tloadS 0 0 0 tloadW 0 ∧ (dmaPieces (tloadS.drw 0 0) (Ins.of tloadW)).length = 1 ∧
    dmaReady 0 tloadS 0 (Ins.of tloadW) 0 = true ∧ (tloadS.fabRead (.te 0) 0x100000100 4).2.st = 0 ∧
    (tloadS.fabRead (.te 0) 0x100000100 4).1.mem = tloadS.mem ∧ win (after (.tload 0 0 1) tloadS) 64 4 = [1, 2, 3, 4] ∧
    progress (after (.tload 0 0 1) tloadS) = some (.done, 1, 0) := ⟨runs_of (by decide +kernel), by decide +kernel⟩
def tstoreW : IWord := word 0x11 1 0 (regOp 1 2) 0 0 0x100000100
def tstoreS : State := inWin 64 [5, 6] (withDrawer (fun w => w.wrT 2 (desc 0 64 2 1 1 1 1 0 0 0)) (running tstoreW 0))
theorem test_tstore : Runs tstoreS 0 0 0 tstoreW 0 ∧ dmaReady 0 tstoreS 0 (Ins.of tstoreW) 0 = true ∧
    (tstoreS.fabWriteSpan (.te 0) 0x100000100 2 [(0, 5), (1, 6)]).2 = 0 ∧
    (after (.tstore 0 0 1) tstoreS).mem.readBytes 0x100000100 2 = [5, 6] ∧
    progress (after (.tstore 0 0 1) tstoreS) = some (.done, 1, 0) := ⟨runs_of (by decide +kernel), by decide +kernel⟩
def copyS : State := inWin 0 [7, 8] (withDrawer (fun w => { w with sb := [entry tcopyW .running 0] }) tcopyS)
theorem test_tcopy : Runs copyS 0 0 0 tcopyW 0 ∧ ((copyS.drw 0 0).desc (Ins.of tcopyW).dst).fmt ≠ 1 ∧
    win (after (.tcopy 0 0 1) copyS) 64 2 = [7, 8] ∧ progress (after (.tcopy 0 0 1) copyS) = some (.done, 1, 0) :=
  ⟨runs_of (by decide +kernel), by decide +kernel⟩

/-- MMA of one row and one column of I8: 3 × -2 added to 10. -/
def mmaW : IWord := word 0x20 2 (accOp 7 1) (regOp 1 1) (regOp 1 2) 0 0
def mmaS : State :=
  let s := withDrawer (fun w => (w.wrT 1 (desc 0 0 1 1 1 1 1 1 0 0)).wrT 2 (desc 0 64 1 1 1 1 1 1 0 0)) (running mmaW 0)
  let s := inWin 64 [0xFE] (inWin 0 [3] s)
  { s with mem := s.mem.writeBytes (accAddr 0 0 7 0 0) [10] }
theorem test_mma : Runs mmaS 0 0 0 mmaW 0 ∧ (arrShape (mmaS.drw 0 0) (Ins.of mmaW) (bookOf mmaS 0 0 0)).steps = 1 ∧
    (after (.mma 0 0 1) mmaS).acc 0 0 7 0 0 = 4 := ⟨runs_of (by decide +kernel), by decide +kernel⟩
/-- A boundary where the check sums agree, and one where they do not. -/
def boundaryS (chk : List Nat) : State := withDrawer (fun w => { w with
  sb := [{ entry mmaW .running 1 with chk := chk }] }) mmaS
theorem test_boundary : (boundaryS (10 :: List.replicate 31 0)).aclkOn 0 = true ∧ (Ins.of mmaW).opc ∈ [0x20, 0x21] ∧
    progress (after (.arraySubPassBoundary 0 0) (boundaryS (10 :: List.replicate 31 0))) = some (.running, 1, 0) := by decide +kernel
theorem test_boundary_disagrees : (boundaryS (11 :: List.replicate 31 0)).checkCompare 0 0 .int 7 1 (11 :: List.replicate 31 0) = false ∧
    (boundaryS (11 :: List.replicate 31 0)).mem.bad = [] ∧
    progress (after (.arraySubPassBoundary 0 0) (boundaryS (11 :: List.replicate 31 0))) = some (.done, 1, 0x43) := by decide +kernel

/-- CONV and DWCONV of one pixel, one channel and one tap; padding 0, stride 1, dilation 1. -/
def convS (iw : IWord) : State :=
  let s := withDrawer (fun w => (w.wrT 1 (desc 0 0 1 1 1 1 1 1 1 0)).wrT 2 (desc 0 64 1 1 1 1 1 1 1 1)) (running iw 0)
  let s := inWin 64 [0xFE] (inWin 0 [3] s)
  { s with mem := s.mem.writeBytes (accAddr 0 0 7 0 0) [10] }
def convW : IWord := word 0x21 2 (accOp 7 1) (regOp 1 1) (regOp 1 2) 0 0x01010101
theorem test_conv : Runs (convS convW) 0 0 0 convW 0 ∧ (arrShape ((convS convW).drw 0 0) (Ins.of convW) []).steps = 1 ∧
    (after (.conv 0 0 1) (convS convW)).acc 0 0 7 0 0 = 4 := ⟨runs_of (by decide +kernel), by decide +kernel⟩
def dwW : IWord := word 0x22 2 (accOp 7 1) (regOp 1 1) (regOp 1 2) 0 0x01010101
theorem test_dwconv : Runs (convS dwW) 0 0 0 dwW 0 ∧ (arrShape ((convS dwW).drw 0 0) (Ins.of dwW) []).steps = 1 ∧
    (after (.dwconv 0 0 1) (convS dwW)).acc 0 0 7 0 0 = 4 := ⟨runs_of (by decide +kernel), by decide +kernel⟩

/-- A vector instruction on T1 at 0 and T2 at 64, with its result at T3, 128; `fa` to `fd` are their formats. -/
def vecS (iw : IWord) (fa fb fd : Nat) (a b : List Byte) : State :=
  inWin 64 b (inWin 0 a (withDrawer (fun w => ((w.wrT 1 (desc fa 0 1 1 1 1 (esize fa) 0 0 0)).wrT 2 (desc fb 64 1 1 1 1 (esize fb) 0 0 0)).wrT 3
    (desc fd 128 1 1 1 1 (esize fd) 0 0 0)) (running iw 0)))
/-- VOP: I8 100 + 100 saturates; -(-128) saturates; I8 -1 AND S1; FP32 1 + 1; FP32 1 + 2; -FP32 1; I8 3 to FP32. -/
def vopW (srcb op : Nat) : IWord := word 0x30 3 (regOp 1 3) (regOp 1 1) srcb op 0
theorem test_vop_saturates : Runs (vecS (vopW (regOp 1 2) 0) 0 0 0 [100] [100]) 0 0 0 (vopW (regOp 1 2) 0) 0 ∧
    win (after (.vop 0 0 1) (vecS (vopW (regOp 1 2) 0) 0 0 0 [100] [100])) 128 1 = [127] := ⟨runs_of (by decide +kernel), by decide +kernel⟩
theorem test_vop_negates : Runs (vecS (vopW 0 6) 0 0 0 [128] []) 0 0 0 (vopW 0 6) 0 ∧ (Ins.of (vopW 0 6)).srcb = .none ∧
    win (after (.vop 0 0 1) (vecS (vopW 0 6) 0 0 0 [128] [])) 128 1 = [127] := ⟨runs_of (by decide +kernel), by decide +kernel⟩
theorem test_vop_register : (Ins.of (vopW (regOp 0 1) 7)).srcb = .reg .S 1 ∧
    win (after (.vop 0 0 1) (withDrawer (fun w => w.wrS 1 0x55) (vecS (vopW (regOp 0 1) 7) 0 0 0 [255] []))) 128 1 = [0x55] := by decide +kernel
theorem test_vop_float : fmtInt 7 = false ∧
    win (after (.vop 0 0 1) (vecS (vopW (regOp 1 2) 0) 7 7 7 (leBytes 0x3F800000 4) (leBytes 0x3F800000 4))) 128 4 = leBytes 0x40000000 4 := by
  decide +kernel
theorem test_vop_float_immediate : win (after (.vop 0 0 1) (vecS (vopW (immOp 2) 0) 7 7 7 (leBytes 0x3F800000 4) [])) 128 4
    = leBytes 0x40400000 4 := by decide +kernel
theorem test_vop_float_negates : win (after (.vop 0 0 1) (vecS (vopW 0 6) 7 7 7 (leBytes 0x3F800000 4) [])) 128 4 = leBytes 0xBF800000 4 := by
  decide +kernel
theorem test_vop_converts : win (after (.vop 0 0 1) (vecS (vopW 0 13) 0 0 7 [3] [])) 128 4 = leBytes 0x40400000 4 := by decide +kernel

/-- VRED: the sum of -1 and 3 to a tensor; the index of the maximum to S9. VLUT of index -128. POOL: the maximum of 1 and 2. -/
def pairS (iw : IWord) (fd : Nat) (a : List Byte) : State :=
  inWin 0 a (withDrawer (fun w => ((w.wrT 1 (desc 0 0 2 1 1 1 1 0 0 0)).wrT 2 (desc 0 256 256 1 1 1 1 0 0 0)).wrT 3
    (desc fd 128 1 1 1 1 (esize fd) 0 0 0)) (running iw 0))
def vredW (dst op : Nat) : IWord := word 0x31 3 dst (regOp 1 1) 0 op 0
theorem test_vred_sum : Runs (pairS (vredW (regOp 1 3) 0) 6 [255, 3]) 0 0 0 (vredW (regOp 1 3) 0) 0 ∧
    win (after (.vred 0 0 1) (pairS (vredW (regOp 1 3) 0) 6 [255, 3])) 128 4 = [2, 0, 0, 0] := ⟨runs_of (by decide +kernel), by decide +kernel⟩
theorem test_vred_argmax : isReg .T (Ins.of (vredW (regOp 0 9) 3)).dst = false ∧
    ((after (.vred 0 0 1) (pairS (vredW (regOp 0 9) 3) 6 [255, 3])).drw 0 0).rdS 9 = 1 := by decide +kernel
def vlutW : IWord := word 0x32 3 (regOp 1 3) (regOp 1 1) (regOp 1 2) 0 0
def vlutS : State := inWin 256 [77] (withDrawer (fun w => w.wrT 1 (desc 0 0 1 1 1 1 1 0 0 0)) (pairS vlutW 0 [128]))
theorem test_vlut : Runs vlutS 0 0 0 vlutW 0 ∧ win (after (.vlut 0 0 1) vlutS) 128 1 = [77] := ⟨runs_of (by decide +kernel), by decide +kernel⟩
def poolW : IWord := word 0x23 2 (regOp 1 3) (regOp 1 1) (immOp 1) 0 0x01010101
def poolS : State := inWin 0 [1, 2] (withDrawer (fun w => (w.wrT 1 (desc 0 0 1 2 1 1 1 1 2 0)).wrT 3 (desc 0 128 1 1 1 1 1 1 1 0)) (running poolW 0))
theorem test_pool : Runs poolS 0 0 0 poolW 0 ∧ poolTotal (poolS.drw 0 0) (Ins.of poolW) = 1 ∧ win (after (.pool 0 0 1) poolS) 128 1 = [2] :=
  ⟨runs_of (by decide +kernel), by decide +kernel⟩

/-- REQ: (300 + 0) × 1 shifted by 0 clips at 127, and channel 0 is kept. -/
def reqW : IWord := word 0x40 4 (regOp 1 3) (accOp 7 1) (regOp 5 1) 0 0
def reqS : State :=
  let s := withDrawer (fun w => (w.wrT 3 (desc 0 128 1 2 1 1 1 1 0 0)).wrQ 1 256) (running reqW 0)
  let s := inWin 256 ([0, 0, 0, 0, 1, 0] ++ List.replicate 10 0 ++ [1, 0, 0, 0, 0, 0, 0, 0, 0, 0x80, 127, 0]) s
  { s with mem := s.mem.writeBytes (accAddr 0 0 7 0 0) (leBytes 300 4) }
theorem test_req : Runs reqS 0 0 0 reqW 0 ∧ ((reqS.drw 0 0).desc (Ins.of reqW).dst).rows = 2 ∧
    win (after (.req 0 0 1) reqS) 128 1 = [127] ∧ ((after (.req 0 0 1) reqS).drw 0 0).sb[0]?.map (fun q => q.acc) = some [0] :=
  ⟨runs_of (by decide +kernel), by decide +kernel⟩
/-- The Weight Register keeps the tile of its K-slice (02 R34). VRED of 257 elements gathers 256 of them first. VOP and VRED of an
accumulator set. -/
theorem test_mma_weights : ((after (.mma 0 0 1) mmaS).drw 0 0).sb[0]?.map (fun q => q.wts.isEmpty) = some false := by decide +kernel
def longS : State := withDrawer (fun w => w.wrT 1 (desc 0 0 257 1 1 1 1 0 0 0)) (pairS (vredW (regOp 0 9) 0) 6 [255, 3])
theorem test_vred_gathers : vredSegs (longS.drw 0 0) (Ins.of (vredW (regOp 0 9) 0)) = 2 ∧
    progress (after (.vred 0 0 1) longS) = some (.running, 1, 0) ∧ (((after (.vred 0 0 1) longS).drw 0 0).sb[0]?.map (fun q => q.acc.length)) = some 256 := by
  decide +kernel
def accVopW : IWord := word 0x30 3 (regOp 1 3) (accOp 7 1) (immOp 1) 0 0
theorem test_vop_accumulator :
    let s := vecS accVopW 0 0 6 [] []
    let s := { s with mem := s.mem.writeBytes (accAddr 0 0 7 0 0) (leBytes 41 4) }
    Runs s 0 0 0 accVopW 0 ∧ win (after (.vop 0 0 1) s) 128 4 = leBytes 42 4 := ⟨runs_of (by decide +kernel), by decide +kernel⟩
/-! ### Gather, scatter and the Coordinate Map Unit (05 R158 to R164; 07) -/

/-- A table of two I8 rows at 0, one index at 256, one row at 128; GATHER or SCATTER by unit 0. -/
def gsS (iw : IWord) (idx tab row : List Byte) : State :=
  let s := withDrawer (fun w => ((w.wrT 1 (desc 0 0 2 2 1 1 1 2 0 0)).wrT 2 (desc 6 256 1 1 1 1 4 0 0 0)).wrT 3
    (desc 0 128 2 1 1 1 1 2 0 0)) (holding { entry iw .running 0 with acc := [0, 0, 0, 0] })
  inWin 128 row (inWin 256 idx (inWin 0 tab s))
def gatherW : IWord := word 0x50 5 (regOp 1 3) (regOp 1 1) (regOp 1 2) 0 0
def idx (z : Int) : List Byte := leBytes (toU 32 z) 4
/-- Index 1, the last row; -1; 2, the first past the table; and a row past the window. -/
theorem test_gather_row : Runs (gsS gatherW (idx 1) [1, 2, 3, 4] []) 0 0 0 gatherW 0 ∧
    gsNext (Ins.of gatherW) (Desc.of (desc 0 0 2 2 1 1 1 2 0 0)) (Desc.of (desc 0 128 2 1 1 1 1 2 0 0)) [0, 0, 0, 0] 0 = some (0, 0) ∧
    (gsS gatherW (idx 1) [1, 2, 3, 4] []).gsRow 0 0 (Ins.of gatherW) 0 = .lm 2 ∧
    win (after (.gather 0 0 [0]) (gsS gatherW (idx 1) [1, 2, 3, 4] [])) 128 2 = [3, 4] := ⟨runs_of (by decide +kernel), by decide +kernel⟩
theorem test_gather_absent : (gsS gatherW (idx (-1)) [] [9, 9]).gsRow 0 0 (Ins.of gatherW) 0 = .absent ∧
    win (after (.gather 0 0 [0]) (gsS gatherW (idx (-1)) [] [9, 9])) 128 2 = [0, 0] ∧
    progress (after (.gather 0 0 [0]) (gsS gatherW (idx (-1)) [] [9, 9])) = some (.done, 1, 0) := by decide +kernel
theorem test_gather_skips : (gsS gatherW (idx 2) [] [9, 9]).gsRow 0 0 (Ins.of gatherW) 0 = .skip 3 ∧
    win (after (.gather 0 0 [0]) (gsS gatherW (idx 2) [] [9, 9])) 128 2 = [0, 0] ∧
    progress (after (.gather 0 0 [0]) (gsS gatherW (idx 2) [] [9, 9])) = some (.done, 1, 3) := by decide +kernel
def gatherFarS : State := withDrawer (fun w => w.wrT 1 (desc 0 65536 2 2 1 1 1 2 0 0)) (gsS gatherW (idx 1) [] [9, 9])
theorem test_gather_outside : gatherFarS.gsRow 0 0 (Ins.of gatherW) 0 = .skip 0x22 ∧
    win (after (.gather 0 0 [0]) gatherFarS) 128 2 = [9, 9] := by decide +kernel
/-- SCATTER in last-writer, sum (I32) and maximum mode, and on a table in LPDDR5X. -/
def scatW (mode fab imm : Nat) : IWord := word 0x51 5 (regOp 1 1) (regOp 1 3) (regOp 1 2) (2 * mode + fab) imm
theorem test_scatter_last : (gsS (scatW 2 0 0) (idx 1) [1, 2, 3, 4] [7, 8]).gsRow 0 0 (Ins.of (scatW 2 0 0)) 0 = .lm 2 ∧
    win (after (.scatter 0 0 [0]) (gsS (scatW 2 0 0) (idx 1) [1, 2, 3, 4] [7, 8])) 0 4 = [1, 2, 7, 8] := by decide +kernel
theorem test_scatter_max : win (after (.scatter 0 0 [0]) (gsS (scatW 1 0 0) (idx 1) [1, 2, 3, 0xFF] [0xFE, 8])) 0 4 = [1, 2, 3, 8] := by
  decide +kernel
theorem test_scatter_skips : (gsS (scatW 2 0 0) (idx (-2)) [1, 2, 3, 4] [7, 8]).gsRow 0 0 (Ins.of (scatW 2 0 0)) 0 = .skip 3 ∧
    win (after (.scatter 0 0 [0]) (gsS (scatW 2 0 0) (idx (-2)) [1, 2, 3, 4] [7, 8])) 0 4 = [1, 2, 3, 4] := by decide +kernel
def fabGatherW : IWord := word 0x50 5 (regOp 1 3) (regOp 1 1) (regOp 1 2) 1 0x100000100
def fabS (iw : IWord) (row : List Byte) : State :=
  let s := gsS iw (idx 1) [] row
  { s with mem := s.mem.writeBytes 0x100000102 [5, 6] }
theorem test_gather_fabric : (fabS fabGatherW []).gsRow 0 0 (Ins.of fabGatherW) 0 = .fab 0x100000102 ∧
    ((fabS fabGatherW []).fabRead (.te 0) 0x100000102 2).2 = ⟨0, [5, 6]⟩ ∧ win (after (.gather 0 0 [0]) (fabS fabGatherW [])) 128 2 = [5, 6] := by
  decide +kernel
/-- The maximum is read in one piece and written in the next, so a write may fall between (07 R223). -/
theorem test_scatter_fabric : ((fabS (scatW 1 1 0x100000100) [7, 1]).fabRead (.te 0) 0x100000102 2).2.st = 0 ∧
    (fabS (scatW 1 1 0x100000100) [7, 1]).gsWaits 0 0 (Ins.of (scatW 1 1 0x100000100)) [0, 0, 0, 0] 0 0 = false ∧
    (after (.scatter 0 0 [0]) (fabS (scatW 1 1 0x100000100) [7, 1])).mem.readBytes 0x100000102 2 = [5, 6] ∧
    (after (.scatter 0 0 [0, 0]) (fabS (scatW 1 1 0x100000100) [7, 1])).mem.readBytes 0x100000102 2 = [7, 6] ∧
    ((fabS (scatW 2 1 0x100000100) [7, 1]).fabWrite (.te 0) 0x100000102 [7, 1]).2 = 0 ∧
    (after (.scatter 0 0 [0]) (fabS (scatW 2 1 0x100000100) [7, 1])).mem.readBytes 0x100000102 2 = [7, 1] := by decide +kernel

/-- Share 0 of cabinet 0, of at most one entry, in a state and with entries. -/
def shared (st : ShareState) (l : List (Nat × Nat)) (s : State) : State :=
  let s := (inCabinet ctx1 s).setReg R.CMU_SHARE_CFG 0 0 (2 ^ 31 + 1)
  { s with shares := vmod s.shares 0 (fun _ => ⟨st, l, 0, false, []⟩) }
/-- MINS of keys 5 and 6 with values 50 and 60: the share is full at one entry. -/
def minsW : IWord := word 0x60 6 (regOp 0 4) (regOp 1 1) (regOp 1 2) 0 0
def keysS (iw : IWord) : State :=
  let s := withDrawer (fun w => (w.wrT 1 (desc 6 0 2 2 1 1 4 8 0 0)).wrT 2 (desc 6 64 1 2 1 1 4 4 0 0)) (running iw 0)
  inWin 64 (leBytes 50 4 ++ leBytes 60 4) (inWin 0 (leBytes 5 8 ++ leBytes 6 8) s)
def minsS : State := shared .open_ [] (keysS minsW)
theorem test_mins : Runs minsS 0 0 0 minsW 0 ∧ minsS.shareAt 0 = some 0 ∧ (vget minsS.shares 0).st = .open_ ∧
    minsS.rd F.CMU_SHARE_RLOG_LEN_LEN 0 = 0 ∧ (vget (after (.mins 0 0 1) minsS).shares 0).entries = [(5, 50)] ∧
    ((after (.mins 0 0 1) minsS).drw 0 0).rdS 4 = 1 ∧ progress (after (.mins 0 0 1) minsS) = some (.done, 1, 2) :=
  ⟨runs_of (by decide +kernel), by decide +kernel⟩
theorem test_map_batch : ((after (.mapBatch 0 0) minsS).drw 0 0).rdS 4 = 1 ∧
    (vget (after (.mapBatch 0 0) minsS).shares 0).entries = [(5, 50)] := by decide +kernel
/-- MLOOK finds key 5 and not key 6; MKMAP of the one site 5 and the offset 0, and of the offset -6, which leaves the range. -/
def mlookW : IWord := word 0x62 6 (regOp 1 3) (regOp 1 1) 0 0 0
def mlookS : State := withDrawer (fun w => w.wrT 3 (desc 6 128 1 2 1 1 4 4 0 0)) (shared .sealed [(5, 50)] (keysS mlookW))
theorem test_mlook : Runs mlookS 0 0 0 mlookW 0 ∧ mlookS.shareAt 0 = some 0 ∧ (vget mlookS.shares 0).st = .sealed ∧
    win (after (.mlook 0 0 1) mlookS) 128 8 = leBytes 50 4 ++ leBytes 0xFFFFFFFF 4 := ⟨runs_of (by decide +kernel), by decide +kernel⟩
def mkmapW : IWord := word 0x63 6 (regOp 1 3) (regOp 1 1) (regOp 1 2) 0 0
def mkmapS : State := inWin 64 (leBytes 0 8 ++ leBytes (toU 18 (-6)) 8) (withDrawer (fun w => ((w.wrT 1 (desc 6 0 2 1 1 1 4 8 0 0)).wrT 2
  (desc 6 64 2 2 1 1 4 8 0 0)).wrT 3 (desc 6 128 2 1 1 1 4 8 0 0)) (shared .sealed [(5, 50)] (keysS mkmapW)))
theorem test_mkmap : Runs mkmapS 0 0 0 mkmapW 0 ∧ win (after (.mkmap 0 0 1) mkmapS) 128 8 = leBytes 50 4 ++ leBytes 0xFFFFFFFF 4 :=
  ⟨runs_of (by decide +kernel), by decide +kernel⟩
/-- MNBR: node 0 has the neighbours 8 and 9 and one is asked for; query -1; and node 1, the first without a row. -/
def mnbrW : IWord := word 0x64 6 (regOp 1 3) (regOp 1 1) (regOp 1 2) 0 (512 + 2 * 2 ^ 24)
def mnbrS (q : Int) : State :=
  let s := withDrawer (fun w => ((w.wrT 1 (desc 6 0 1 1 1 1 4 4 0 0)).wrT 2 (desc 6 64 2 1 1 1 4 0 0 0)).wrT 3
    (desc 6 128 1 1 1 1 4 4 0 0)) (shared .open_ [] (running mnbrW 0))
  inWin 512 (leBytes 8 4 ++ leBytes 9 4) (inWin 64 (leBytes 0 4 ++ leBytes 2 4) (inWin 0 (idx q) s))
theorem test_mnbr : Runs (mnbrS 0) 0 0 0 mnbrW 0 ∧ win (after (.mnbr 0 0 1) (mnbrS 0)) 128 4 = [8, 0, 0, 0] ∧
    progress (after (.mnbr 0 0 1) (mnbrS 0)) = some (.done, 1, 4) := ⟨runs_of (by decide +kernel), by decide +kernel⟩
theorem test_mnbr_absent : win (after (.mnbr 0 0 1) (mnbrS (-1))) 128 4 = [255, 255, 255, 255] ∧
    progress (after (.mnbr 0 0 1) (mnbrS (-1))) = some (.done, 1, 0) ∧ progress (after (.mnbr 0 0 1) (mnbrS 1)) = some (.done, 1, 7) := by
  decide +kernel

/-- MSEAL on an open and on a sealed share, with MOD[0] = 1 on each, and the end of a seal with good and failing codes. -/
def msealS (m : Nat) (st : ShareState) : State :=
  shared st [(5, 50)] (holding (entry (word 0x61 6 0 0 0 m 0) .waiting 0))
theorem test_mseal_starts : Starts (msealS 0 .open_) 0 0 0 (entry (word 0x61 6 0 0 0 0 0) .waiting 0) ∧ (msealS 0 .open_).shareAt 0 = some 0 ∧
    (vget (after (.msealSeal 0 0) (msealS 0 .open_)).shares 0).st = .sealing := ⟨starts_of (by decide +kernel), by decide +kernel⟩
theorem test_mseal_state : progress (after (.msealSeal 0 0) (msealS 0 .sealed)) = some (.done, 0, 0x26) := by decide +kernel
theorem test_mseal_clears : (vget (after (.msealClear 0 0) (msealS 1 .sealed)).shares 0).st = .open_ ∧
    (vget (after (.msealClear 0 0) (msealS 1 .sealed)).shares 0).entries = [] ∧
    (vget (after (.msealClear 0 0) (msealS 1 .sealing)).shares 0).clearAfter = true := by decide +kernel
theorem test_seal_end : (msealS 0 .sealing).mainClk = true ∧ (vget (after (.sealEnd 0) (msealS 0 .sealing)).shares 0).st = .sealed ∧
    (let s := msealS 0 .sealing
    (vget (after (.sealEnd 0) { s with shares := vmod s.shares 0 (fun h => { h with badKeys := [5] }) }).shares 0).st) = .faulted := by
  decide +kernel
/-! ### Streams (08), semaphores, barriers and checkpoints (05 R166 to R170), and the Post-Processing Units (06) -/

/-- A bound send endpoint to rank 0's endpoint 2, or to queue 4, and a bound receive endpoint with its ring at 4096. -/
def sendEp (count : Nat) : Nat := 2 ^ 127 + 2 * 2 ^ 117 + count * 2 ^ 64
def queueEp (count : Nat) : Nat := 2 ^ 127 + 2 ^ 124 + 4 * 2 ^ 112 + count * 2 ^ 64
def recvEp (count head : Nat) : Nat := 2 ^ 127 + 2 ^ 126 + 4096 * 2 ^ 72 + count * 2 ^ 64 + head * 2 ^ 32
def sendW : IWord := word 0x70 7 (regOp 6 1) (regOp 1 1) 0 0 0
def sendS (ep : Nat) : State := inCabinet ctx1 (inWin 0 [9] (withDrawer (fun w => (w.wrT 1 (desc 0 0 1 1 1 1 1 0 0 0)).wrE 1 ep) (running sendW 0)))
def sent (ep : Fin 8) : Flit := ⟨0, 0, 0, ep, some 0, 1, 9 :: List.replicate 63 0, false, false⟩
theorem test_send : Runs (sendS (sendEp 1)) 0 0 0 sendW 0 ∧ ((sendS (sendEp 1)).drw 0 0).ctx = some (0, 0) ∧
    (after (.send 0 0 1) (sendS (sendEp 1))).sn.transit = [sent 2] ∧
    ((after (.send 0 0 1) (sendS (sendEp 1))).drw 0 0).rdE 1 = sendEp 0 + 1 ∧
    progress (after (.send 0 0 1) (sendS (sendEp 1))) = some (.done, 1, 0) := ⟨runs_of (by decide +kernel), by decide +kernel⟩
theorem test_send_to_queue : (after (.send 0 0 1) (sendS (queueEp 64))).sn.toQueue = [(4, sent 1)] ∧
    (after (.send 0 0 1) (sendS (queueEp 64))).sn.transit = [] := by decide +kernel
def recvW : IWord := word 0x71 7 (regOp 1 1) (regOp 6 1) 0 0 0
def recvS (count : Nat) : State := inWin (4096 + 64 * 63) [5] (inCabinet ctx1 (withDrawer (fun w =>
  (w.wrT 1 (desc 0 0 1 1 1 1 1 0 0 0)).wrE 1 (recvEp count 63)) (running recvW 0)))
theorem test_recv : Runs (recvS 1) 0 0 0 recvW 0 ∧ win (after (.recv 0 0 1) (recvS 1)) 0 1 = [5] ∧
    ((after (.recv 0 0 1) (recvS 1)).drw 0 0).rdE 1 = recvEp 0 0 + 1 ∧ (after (.recv 0 0 1) (recvS 1)).sn.credits = [⟨⟨0, 0, 0, 0⟩⟩] :=
  ⟨runs_of (by decide +kernel), by decide +kernel⟩
theorem test_stream_stall : Runs ((recvS 0).put F.SN_CAB_CFG_WDOG 0 0 1) 0 0 0 recvW 0 ∧
    recvReady 0 (recvS 0) 0 (Ins.of recvW) 0 = false ∧ sendReady 0 (sendS (sendEp 0)) 0 (Ins.of sendW) 0 = false ∧
    (after (.streamStall 0 0) ((recvS 0).put F.SN_CAB_CFG_WDOG 0 0 1)).flag F.SN_ERR_STALL = true := ⟨runs_of (by decide +kernel), by decide +kernel⟩

/-- A flit arrives in slot 63 of a ring that holds one at 62; at a full ring it is discarded; a credit arrives. -/
def flitS (count : Nat) : State :=
  let s := inCabinet ctx1 (withDrawer (fun w => w.wrE 2 (recvEp count 62)) (engineAt 0#128))
  { s with sn := { s.sn with transit := [sent 2] } }
theorem test_flit : (flitS 1).mainClk = true ∧ (flitS 1).rankEng 0 0 = 0 ∧ (flitS 1).actCtx 0 = some (0, 0, 0) ∧ (flitS 1).mem.bad = [] ∧
    win (after (.flitArrive 0) (flitS 1)) (4096 + 64 * 63) 2 = [9, 0] ∧ ((after (.flitArrive 0) (flitS 1)).drw 0 0).rdE 2 = recvEp 2 62 ∧
    (after (.flitArrive 0) (flitS 1)).sn.transit = [] := by decide +kernel
theorem test_flit_misrouted : epCount (((flitS 64).drw 0 0).rdE 2) = 64 ∧
    (after (.flitArrive 0) (flitS 64)).flag F.SN_ERR_MISROUTE = true ∧ (after (.flitArrive 0) (flitS 64)).sn.transit = [] := by decide +kernel
def creditS : State :=
  let s := sendS (sendEp 63)
  { s with sn := { s.sn with credits := [⟨⟨0, 0, 0, 1⟩⟩] } }
theorem test_credit : creditS.epHome ⟨0, 0, 0, 1⟩ = some (0, 0) ∧ epBound (sendEp 63) = true ∧ epRecv (sendEp 63) = false ∧
    ((after (.creditReturn 0) creditS).drw 0 0).rdE 1 = sendEp 64 := by decide +kernel

/-- Queue 4, of one block of slots at Stream Buffer page 1, with its slots `l` and requests `r`. -/
def queueS (multi : Nat) (l : List QSlot) (r : List (EpName × Nat)) (s : State) : State :=
  let s := ((s.setReg R.SN_Q_GEOM 4 0 (1 * 2 ^ 16 + 1)).put F.SN_Q_CFG_EN 4 0 1).put F.SN_Q_CFG_MULTI 4 0 multi
  s.modQueue 4 (fun _ => ⟨l, 0, r, none⟩)
def owner1 : EpName := ⟨0, 0, 0, 1⟩
def toQueueS : State :=
  let s := (queueS 0 [⟨owner1, false, false, false, false⟩] [] on).put0 F.SBUF_STAT_READY 15
  { s with sn := { s.sn with toQueue := [(4, sent 1)] } }
theorem test_flit_reaches_queue : toQueueS.sliceWaits (toQueueS.qKey 4 0) = false ∧
    (after (.flitReachesQueue 0) (toQueueS.put0 F.SBUF_STAT_READY 0)).sn.toQueue = toQueueS.sn.toQueue ∧
    firstOpen owner1 (vget toQueueS.sn.queues 4).slots = some 0 ∧
    (vget (after (.flitReachesQueue 0) toQueueS).sn.queues 4).slots = [⟨owner1, true, false, false, false⟩] ∧
    (after (.flitReachesQueue 0) toQueueS).mem.readBytes (toQueueS.qKey 4 0) 1 = [9] ∧ (after (.flitReachesQueue 0) toQueueS).sn.toQueue = [] := by
  decide +kernel
theorem test_queue_grants : (queueS 0 [] [] (sendS (queueEp 0))).qAsker 4 = some (0, 0, owner1) ∧
    (queueS 0 [] [] (sendS (queueEp 0))).qDepth 4 = 64 ∧
    ((after (.queueCreditGrant 4) (queueS 0 [] [] (sendS (queueEp 0)))).drw 0 0).rdE 1 = queueEp 1 ∧
    (vget (after (.queueCreditGrant 4) (queueS 0 [] [] (sendS (queueEp 0)))).sn.queues 4).slots = [⟨owner1, false, false, false, false⟩] := by
  decide +kernel
theorem test_queue_reserves : ((after (.queueCreditGrant 4) (queueS 1 [] [(owner1, 2)] (sendS (queueEp 0)))).drw 0 0).rdE 1 = queueEp 2 ∧
    (vget (after (.queueCreditGrant 4) (queueS 1 [] [(owner1, 2)] (sendS (queueEp 0)))).sn.queues 4).slots.length = 2 := by decide +kernel
def deliverS : State :=
  let s := inCabinet ctx1 (withDrawer (fun w => w.wrE 3 (recvEp 0 0 + 2 ^ 124 + 4 * 2 ^ 112)) (engineAt 0#128))
  let s := queueS 0 [⟨owner1, true, false, false, false⟩] [] s
  { s with mem := s.mem.writeBytes (s.qKey 4 0) [6] }
theorem test_queue_delivers : deliverS.qConsumer 4 = some (0, 0, ⟨0, 0, 0, 3⟩) ∧ win (after (.queueDeliver 4) deliverS) 4096 1 = [6] ∧
    (vget (after (.queueDeliver 4) deliverS).sn.queues 4).slots = [] ∧ (vget (after (.queueDeliver 4) deliverS).sn.queues 4).head = 1 := by
  decide +kernel

/-- SWAIT of 2 where the semaphore holds 2, and where it holds 1; SSIG up to 65,535, and past it; a count of 0. -/
def semS (op : Nat) (n : Int) (v : Nat) : State :=
  (inCabinet ctx1 (holding (entry (word op 8 0 (regOp 7 63) (immOp n) 0 0) .waiting 0))).modCab 0 (fun b => { b with sems := vmod b.sems 63 (fun _ => v) })
theorem test_swait_takes : Starts (semS 0x80 2 2) 0 0 0 (entry (word 0x80 8 0 (regOp 7 63) (immOp 2) 0 0) .waiting 0) ∧
    semCount ((semS 0x80 2 2).drw 0 0) (Ins.of (word 0x80 8 0 (regOp 7 63) (immOp 2) 0 0)) = some 2 ∧
    bit ((semS 0x80 2 2).rd F.SCH_CAB_SEMLOCK_LOCK 0) 63 = false ∧ ((after (.swait 0 0) (semS 0x80 2 2)).cab 0).sem 63 = 0 ∧
    progress (after (.swait 0 0) (semS 0x80 2 2)) = some (.done, 0, 0) := ⟨starts_of (by decide +kernel), by decide +kernel⟩
theorem test_swait_waits : ((after (.swait 0 0) (semS 0x80 2 1)).cab 0).waiters = [⟨0, 0, 0, 63, 2, 0⟩] ∧
    progress (after (.swait 0 0) (semS 0x80 2 1)) = some (.running, 0, 0) := by decide +kernel
theorem test_ssig_adds : ((after (.ssig 0 0) (semS 0x81 1 65534)).cab 0).sem 63 = 65535 ∧
    ((after (.ssig 0 0) (semS 0x81 1 65535)).cab 0).sem 63 = 65535 ∧ progress (after (.ssig 0 0) (semS 0x81 1 65535)) = some (.done, 0, 0x29) := by
  decide +kernel
theorem test_ssig_operand : semCount ((semS 0x81 0 1).drw 0 0) (Ins.of (word 0x81 8 0 (regOp 7 63) (immOp 0) 0 0)) = none ∧
    progress (after (.ssig 0 0) (semS 0x81 0 1)) = some (.done, 0, 0x21) ∧ progress (after (.swait 0 0) (semS 0x80 0 1)) = some (.done, 0, 0x21) := by
  decide +kernel

/-- BARR on a gang of one is complete at once; on two ranks of which one has not come it runs. CHKPT to an LPDDR5X slot. POST. -/
def barrS : State := inCabinet ctx1 (holding (entry (word 0x82 8 0 (immOp 5) 0 0 0) .waiting 0))
theorem test_barr : Starts barrS 0 0 0 (entry (word 0x82 8 0 (immOp 5) 0 0 0) .waiting 0) ∧ barrS.rankEng 0 0 = 0 ∧
    progress (after (.barr 0 0) barrS) = some (.done, 0, 0) ∧
    progress (after (.barr 0 0) ((barrS.put F.SN_CAB_CFG_SIZE 0 0 2).put F.SN_CAB_RANKMAP_MAP 0 0 0x10)) = some (.running, 0, 0) :=
  ⟨starts_of (by decide +kernel), by decide +kernel⟩
def postW : IWord := word 0x84 8 (regOp 0 4) (regOp 1 1) 0 0 0
def postS (r : List PpuReq) (st : EntState) : State :=
  let s := inCabinet ctx1 (withDrawer (fun w => w.wrT 1 (desc 0 0 64 1 1 1 1 0 0 0)) (holding (entry postW st 0)))
  { s with ppus := vmod s.ppus 0 (fun _ => r) }
theorem test_post : Starts (postS [] .waiting) 0 0 0 (entry postW .waiting 0) ∧
    vget (after (.post 0 0) (postS [] .waiting)).ppus 0 = [⟨0, 0, 0, [], false, [], false, 0⟩] := ⟨starts_of (by decide +kernel), by decide +kernel⟩
/-- A request block of zeros is faulty. -/
theorem test_ppu_refuses : (postS [⟨0, 0, 0, [], false, [], false, 0⟩] .running).mainClk = true ∧
    ((postS [⟨0, 0, 0, [], false, [], false, 0⟩] .running).drw 0 0).sb.find? (fun t => t.word == 0 && t.st == .running && (Ins.of t.iw).opc == 0x84)
      = some (entry postW .running 0) ∧
    (PpuBlock.of ((postS [] .running).mem.readBytes ((postS [] .running).lmKey 0 0 0) 64)).faulty = true ∧
    progress ((postS [⟨0, 0, 0, [], false, [], false, 0⟩] .running).postDone 0 0 0x2B none) = some (.done, 0, 0x2B) := by decide +kernel
/-- A request of one image box with score 1: it is a candidate and is kept. -/
def ppuBlock : List Byte := leBytes 0x100000000 6 ++ leBytes 0x100000100 6 ++ leBytes 0 12 ++ leBytes 0x100000200 6 ++ leBytes 0x100000240 6 ++
  leBytes 1 4 ++ leBytes 1 2 ++ leBytes 0 1 ++ leBytes 0x77 1 ++ leBytes 0 4 ++ leBytes 0x3F000000 4 ++ leBytes 0 4 ++ leBytes 0 8
def ppuS : State :=
  let s := inWin 0 ppuBlock (postS [⟨0, 0, 0, [], false, [], false, 0⟩] .running)
  let m := s.mem.writeBytes 0x100000000 (leBytes 0x3F800000 4)
  { s with mem := m.writeBytes 0x100000108 (leBytes 0x3F800000 4 ++ leBytes 0x3F800000 4) }
def ppuKept : List Box := [⟨[0, 0, 0x3F800000, 0x3F800000], 0x3F800000, 0, 0⟩]
theorem test_ppu_keeps : (PpuBlock.of ppuBlock).faulty = false ∧ (PpuBlock.of ppuBlock).n = 1 ∧
    (ppuS.candidates 0 (PpuBlock.of ppuBlock)).2 = (true, ppuKept) ∧
    ((ppuS.candidates 0 (PpuBlock.of ppuBlock)).1.nextFree.2.fabWrite (.ppu 0) 0x100000240
      ((List.range 32).map (fun x => Config.freeByte (ppuS.candidates 0 (PpuBlock.of ppuBlock)).1.freeCtr x))).2 = 0 ∧
    (vget (after (.ppuServe 0) ppuS).ppus 0).map (fun r => (r.served, r.kept, r.status)) = [(true, ppuKept, 0)] := by decide +kernel
/-- The commit of the kept box; with the kept-box buffer's code failing; and with an abort that waits for it. -/
def keptS (bad : Bool) (st : Nat) : State := { ppuS with ppus := vmod ppuS.ppus 0 (fun _ => [⟨0, 0, 0, ppuBlock, true, ppuKept, bad, st⟩]) }
theorem test_ppu_commits : (keptS false 5).ppuOpen 0 (⟨0, 0, 0, ppuBlock, true, ppuKept, false, 5⟩ : PpuReq).outs = true ∧
    ((keptS false 5).writeKept 0 ⟨0, 0, 0, ppuBlock, true, ppuKept, false, 5⟩).2 = true ∧
    progress (after (.ppuCommit 0) (keptS false 5)) = some (.done, 0, 5) ∧ ((after (.ppuCommit 0) (keptS false 5)).drw 0 0).rdS 4 = 1 ∧
    (after (.ppuCommit 0) (keptS false 5)).mem.readBytes 0x100000200 16 = leBytes 0 8 ++ leBytes 0x3F800000 4 ++ leBytes 0x3F800000 4 := by
  decide +kernel
theorem test_ppu_commit_fails : progress (after (.ppuCommit 0) (keptS true 0)) = some (.done, 0, 0x45) ∧
    (after (.ppuCommit 0) (keptS true 0)).mem = (keptS true 0).mem ∧
    progress (after (.ppuCommit 0) (keptS false 0x60)) = some (.done, 0, 0x60) ∧
    (after (.ppuCommit 0) (keptS false 0x60)).mem.readBytes 0x100000208 4 = leBytes 0x3F800000 4 := by decide +kernel
/-- CHKPT whose image is written: its conditions. -/
def chkptS : State := inCabinet { ctx1 with jobs := [{ job1 with
  ckpt0 := 0x100020000
  ckpt1 := 0x100040000 }] } (holding (entry (word 0x83 8 0 0 0 0 0) .waiting 0))
theorem test_chkpt : Starts chkptS 0 0 0 (entry (word 0x83 8 0 0 0 0 0) .waiting 0) ∧ chkptS.mem.bad = [] ∧
    chkptS.ctx? 0 0 = some { ctx1 with jobs := [{ job1 with
      ckpt0 := 0x100020000
      ckpt1 := 0x100040000 }] } ∧
    ((((chkptS.starting 0 0 0).modCtx 0 0 (fun t => { t with ranks := modAt (fun q => q.put false none) 0 t.ranks })).setQct 0 0).writeImage
      0 0 0 0x100020000 1).2 = 0 ∧ (after (.chkpt 0 0) chkptS).out.head? = some (.checkpoint 0 0 1) :=
  ⟨starts_of (by decide +kernel), by decide +kernel⟩
/-! ### Patrols, drains, programs, jobs and the scheduler (02, 04, 09, 10) -/

/-- Engine 0 changed; the engine of `engineAt` with nothing to do; a reset device in use. -/
def eng0 (f : Engine → Engine) (s : State) : State := s.modEng 0 f
def idleS (v : VerState) : State := eng0 (fun e => { e with
  ver := v
  inited := true
  fresh := false }) on
theorem test_patrol_due : (idleS .verified).mainClk = true ∧ (idleS .verified).windowOpen 0 = false ∧
    ((after (.patrolDue 0) (idleS .verified)).eng 0).patrolDue = true := by decide +kernel
def windowS : State := (((inCabinet ctx1 (idleS .verified)).put F.SCH_CAB_CFG_KIND 0 0 1).modCab 0 (fun b => { b with windows := [1] }))
theorem test_patrol_deferred : windowS.windowOpen 0 = true ∧ ((after (.patrolDue 0) windowS).eng 0).patrolDeferred = true ∧
    ((after (.patrolDue 0) windowS).eng 0).patrolDue = false := by decide +kernel
def dueS : State := eng0 (fun e => { e with
  patrolDue := true }) (idleS .verified)
theorem test_patrol_starts : dueS.aclkOn 0 = true ∧ dueS.abortOn 0 = false ∧ (dueS.eng 0).active = none ∧ (dueS.eng 0).st = .stopped ∧ ((after (.patrol 0) dueS).eng 0).st = .patrol ∧
    ((after (.patrol 0) dueS).eng 0).patrolDue = false := by decide +kernel
/-- The Patrol Image's signature is 7, in LPDDR5X. -/
def patrolS (m : Nat) : State :=
  let s := eng0 (fun e => { e with
    st := .patrol
    mismatches := m }) (idleS .verified)
  { s with
    arb := { s.arb with patrolBase := 0x100000000 }
    mem := s.mem.writeBytes 0x100000000 [7] }
theorem test_patrol_matches : ((patrolS 1).fabNat (.cc 0) 0x100000000 4).2 = (0, 7) ∧
    ((after (.patrolComplete 0 7) (patrolS 1)).eng 0).ver = .verified ∧ ((after (.patrolComplete 0 7) (patrolS 1)).eng 0).mismatches = 0 := by
  decide +kernel
theorem test_patrol_mismatches : ((after (.patrolComplete 0 8) (patrolS 0)).eng 0).ver = .unverified ∧
    ((after (.patrolComplete 0 8) (patrolS 0)).eng 0).repeatOwed = true ∧ ((after (.patrolComplete 0 8) (patrolS 0)).eng 0).fencePending = false ∧
    ((after (.patrolComplete 0 8) (patrolS 1)).eng 0).fencePending = true := by decide +kernel
theorem test_patrol_repeat : ((after (.patrolRepeat 0) (eng0 (fun e => { e with repeatOwed := true }) (idleS .unverified))).eng 0).patrolDue = true := by
  decide +kernel
theorem test_patrol_overdue : ((after (.patrolOverdue 0) dueS).eng 0).ver = .unverified := by decide +kernel

/-- A drain for a patrol withdraws an SWAIT that waits; it ends once a TLOAD that may yield is suspended; the drawer goes on. -/
def swaitW : IWord := word 0x80 8 0 (regOp 7 1) (immOp 1) 0 0
def busyS : State := eng0 (fun e => { e with patrolDue := true }) (running swaitW 0)
theorem test_drain : busyS.drainWanted 0 .patrol = true ∧ busyS.actCtx 0 = none ∧ got (.drain 0 .patrol) busyS (fun t => (t.eng 0).st) = .draining ∧
    progress (after (.drain 0 .patrol) busyS) = some (.waiting, 0, 0) := by decide +kernel
def yieldW : IWord := word 0x10 1 (regOp 1 2) 0 0 0 0x100000100 ||| BitVec.ofNat 128 (2 ^ 109)
def drainingS (why : DrainWhy) (drained : Bool) : State := eng0 (fun e => { e with
  st := .draining
  why := some why
  drained := drained }) (running yieldW 1)
theorem test_drain_end : ((drainingS .patrol false).drw 0 0).quiet (wholeRows ((drainingS .patrol false).drw 0 0)) = true ∧ ((after (.drainEnd 0) (drainingS .patrol false)).eng 0).drained = true ∧
    got (.drainEnd 0) (drainingS .stop false) (fun t => ((t.eng 0).st, (t.eng 0).active, (t.eng 0).held)) = (.running, some 0, none) ∧
    got (.drainEnd 0) ((drainingS .stop false).put F.TE_CTRL_RUN 0 0 0) (fun t => ((t.eng 0).st, (t.eng 0).active, (t.eng 0).held,
      (t.drw 0 0).sb.length, (t.drw 0 0).recs.length)) = (.stopped, none, some 0, 0, 1) ∧
    progress (after (.drainEnd 0) (drainingS .patrol false)) = some (.suspended, 1, 0) := by decide +kernel
theorem test_drawer_resumes : (drainingS .patrol true).isDrained 0 = true ∧
    ((after (.drawerResume 0) (drainingS .patrol true)).eng 0).st = .running ∧
    got (.drawerResume 0) ((drainingS .patrol true).put F.TE_CTRL_RUN 0 0 0) (fun t => ((t.eng 0).st, (t.eng 0).held)) =
      (.stopped, some 0) := by decide +kernel
/-- LM_INIT and RUN written 0 by the scheduler; LM_INIT ends with the Local Memory zero. -/
theorem test_lm_init : engWriter .sch 0 = true ∧ ((after (.lmInit .sch 0) (idleS .verified)).eng 0).st = .init ∧
    (after (.lmInit .sch 0) (running 0#128 0)).flag F.TE_ERR_CFG_WHILE_RUN 0 = true := by decide +kernel
theorem test_engine_stop : got (.engineStop .sch 0) (running 0#128 0) (fun t => ((t.eng 0).st, t.flag F.TE_CTRL_RUN 0)) = (.draining, false) ∧
    got (.engineStop .sch 0) ((idleS .verified).setReg R.TE_CTRL 0 0 1) (fun t => ((t.eng 0).st, t.flag F.TE_CTRL_RUN 0)) = (.stopped, false) := by
  decide +kernel
def initS : State :=
  let s := eng0 (fun e => { e with st := .init }) (idleS .verified)
  { s with mem := s.mem.write (lmBase 0 + (2 ^ 22 - 1)) 9 }
theorem test_lm_init_done : ((after (.lmInitDone 0) initS).eng 0).st = .stopped ∧ (after (.lmInitDone 0) initS).mem.read (lmBase 0 + (2 ^ 22 - 1)) = 0 := by
  decide +kernel

/-- A program table that cannot be read; a good image of one NOP (its CRC is that of sixteen zero bytes); one with a wrong CRC. -/
def loadS (table : Nat) (crc : Nat) : State :=
  let s := withDrawer (fun w => { w with loaded := false }) (inCabinet { ctx1 with
    progTable := table
    started := false } (eng0 (fun e => { e with
    active := none
    st := .stopped }) (engineAt 0#128)))
  let m := s.mem.writeBytes 0x100000000 (leBytes 0x100000100 8)
  { s with mem := m.writeBytes 0x100000100 ([0, 1, 0, 0] ++ leBytes 1 4 ++ leBytes 0 4 ++ leBytes 1 4 ++ leBytes crc 4) }
theorem test_program_table_fails : ((loadS 0x50000000 0).cabRead .sch 0 0x50000000 8).2.st = 0x24 ∧
    ((loadS 0x50000000 0).eng 0).has 0 = false ∧
    got (.programLoad 0 0) (loadS 0x50000000 0) (fun t => ((t.drw 0 0).loaded, (t.drw 0 0).loadSt)) = (false, 0x24) := by decide +kernel
/-- Where the context's job has started, the load that fails ends it. -/
theorem test_program_table_ends_the_job : got (.programLoad 0 0) ((loadS 0x50000000 0).modCtx 0 0 (fun t => { t with started := true }))
    (fun t => ((t.drw 0 0).loadSt, (t.ctx? 0 0).map (fun x => (x.started, x.jobs)))) = (0, some (false, [])) := by decide +kernel
theorem test_program_loads : ((loadS 0x100000000 0xECBB4B55).cabRead .sch 0 0x100000000 8).2.st = 0 ∧
    ((loadS 0x100000000 0xECBB4B55).readImage? 0 0 0x100000100).2 = (0, List.replicate 16 0, 0) ∧
    got (.programLoad 0 0) (loadS 0x100000000 0xECBB4B55) (fun t => ((t.drw 0 0).loaded, t.ibWord 0 0 0)) = (true, 0#128) := by decide +kernel
theorem test_program_crc : ((loadS 0x100000000 0).readImage? 0 0 0x100000100).2.1 = 0x44 ∧
    got (.programLoad 0 0) (loadS 0x100000000 0) (fun t => (t.drw 0 0).loadSt) = 0x44 := by decide +kernel
/-- A job starts: its conditions, with its start checkpoints in LPDDR5X. -/
def startS : State := inCabinet { ctx1 with
  started := false
  jobs := [{ job1 with
    ckpt0 := 0x100020000
    ckpt1 := 0x100040000 }] } (engineAt 0#128)
theorem test_job_start : (startS.cab 0).act = some 0 ∧ (startS.eng 0).st = .running ∧ startS.gang 0 = 1 ∧ (startS.drw 0 0).loaded = true ∧
    ((startS.begun 0 0 0 { job1 with
      ckpt0 := 0x100020000
      ckpt1 := 0x100040000 }).startCheckpoints 0 0 0).2 = 0 ∧
    ((startS.begun 0 0 0 job1).drw 0 0).rdS 31 = 4 := by decide +kernel
/-- IE_JOB while the Island Engine runs; with an image that cannot be read; with the image of one NOP in island SRAM. -/
def islandS (st : EngState) : State :=
  let s := ((on.setReg R.TE_DRW_LM 16 0 (1 * 2 ^ 16)).setReg R.TE_DRW_IB 16 0 (1 * 2 ^ 8)).setReg R.TE_CTRL 16 0 1
  let s := s.modEng 16 (fun e => { e with st := st })
  { s with mem := s.mem.writeBytes 0x10000100 ([0, 1, 0, 0] ++ leBytes 1 4 ++ leBytes 0 4 ++ leBytes 1 4 ++ leBytes 0xECBB4B55 4) }
theorem test_ie_job_running : got (.ieJob (.isl 0) 0x10000100) (islandS .running)
    (fun t => ((t.eng 16).st, t.flag F.TE_ERR_CFG_WHILE_RUN 16, t.resp)) = (.running, true, ⟨0, []⟩) := by decide +kernel
theorem test_ie_job_fails : ((islandS .stopped).readImage? 16 0 0x50000000).2.1 = 0x24 ∧
    got (.ieJob (.isl 1) 0x50000000) (islandS .stopped) (fun t => ((t.eng 16).st, t.out)) = (.stopped, [.irq "IE_DONE" 0x24]) := by decide +kernel
theorem test_ie_job_starts : ((islandS .stopped).readImage? 16 0 0x10000100).2.1 = 0 ∧
    got (.ieJob (.isl 0) 0x10000100) (islandS .stopped) (fun t => ((t.eng 16).st, (t.eng 16).active, (t.drw 16 0).jobOn)) =
      (.running, some 0, true) ∧
    got (.ieJob (.isl 0) 0x10000100) ((islandS .stopped).put F.TE_CTRL_RUN 16 0 0) (fun t => ((t.eng 16).st, (t.eng 16).held)) =
      (.stopped, some 0) ∧
    got (.ieJob (.isl 1) 0x10000100) ((islandS .stopped).modIsl (fun i => { i with world := vmod i.world 1 (fun _ => false) }))
      (fun t => (t.isl.ieWorld, t.worldOf (.te 16))) = (false, false) := by decide +kernel

/-- An active context whose one rank waits in an SWAIT; two contexts of one priority, one READY; one alone. -/
theorem test_context_waiting : (inCabinet ctx1 (running swaitW 0)).stuck 0 0 = true ∧
    ((after (.contextWaiting 0) (inCabinet ctx1 (running swaitW 0))).ctx? 0 0).map (fun x => x.st) = some .waiting := by decide +kernel
def withCtx (x : CtxId) (t : Ctx) (s : State) : State := s.modCab 0 (fun b => { b with ctxs := vmod b.ctxs x (fun _ => some t) })
def sliceS : State := withCtx 71 { ctx1 with
  st := .ready
  drawer := some 1 } (inCabinet ctx1 (engineAt 0#128))
theorem test_slice_end : sliceS.paused 0 = false ∧ sliceS.chosen 0 = some 0 ∧ (after (.sliceEnd 0) sliceS).chosen 0 = some 71 := by decide +kernel
theorem test_slice_restarts : (after (.sliceEnd 0) (inCabinet ctx1 (engineAt 0#128))).chosen 0 = some 0 := by decide +kernel
/-- A READY context takes its free engine; a stopped cabinet's drained context leaves it; a stored context takes drawer 0. -/
def readyS : State := withDrawer (fun w => { w with loaded := true }) ((inCabinet { ctx1 with st := .ready } (idleS .verified)).modCab 0 (fun b => { b with act := none }))
theorem test_context_switch_in : (readyS.cab 0).live = true ∧ readyS.chosen 0 = some 0 ∧ readyS.engFree 0 = true ∧
    got (.contextSwitch 0) (readyS.put F.TE_CTRL_RUN 0 0 1) (fun t => ((t.cab 0).act, (t.eng 0).active, (t.eng 0).st)) = (some 0, some 0, .running) ∧
    got (.contextSwitch 0) (readyS.put F.TE_CTRL_RUN 0 0 0) (fun t => ((t.cab 0).act, (t.eng 0).held, (t.eng 0).st)) = (some 0, some 0, .stopped) := by
  decide +kernel
def leavingS : State := (inCabinet ctx1 (eng0 (fun e => { e with
  st := .draining
  why := some .switch
  drained := true }) (engineAt 0#128))).modCab 0 (fun b => { b with stopped := true })
theorem test_context_switch_out : leavingS.paused 0 = true ∧ leavingS.switchedOut 0 0 = true ∧
    got (.contextSwitch 0) leavingS (fun t => ((t.cab 0).act, (t.eng 0).active, (t.eng 0).st)) = (none, none, .stopped) := by decide +kernel
def storedS : State := (inCabinet { ctx1 with
  st := .stored
  drawer := none } (idleS .verified)).modCab 0 (fun b => { b with act := none })
theorem test_context_restored : storedS.chosen 0 = none ∧ storedS.allBlocked 0 = false ∧ storedS.toRestore 0 = some 0 ∧
    storedS.freeDrawer 0 = some 0 ∧ (storedS.takeDrawer 0 0 0).2 = 0 ∧
    ((after (.contextSwitch 0) storedS).ctx? 0 0).map (fun x => (x.drawer, x.st)) = some (some 0, .ready) := by decide +kernel
def abortS : State := (inCabinet { ctx1 with st := .aborting } (engineAt 0#128)).modCab 0 (fun b => { b with aborting := [(0, false)] })
theorem test_abort_abandons : abortS.inPatrol 0 0 = false ∧ got (.abortFabricAbandon 0) abortS (fun t =>
    (t.ctx? 0 0, (t.cab 0).aborting.length, (t.eng 0).active)) = (none, 0, none) := by decide +kernel

/-- Entry 0 of the cyclic table: a stopped cabinet; its earlier job outstanding; its job queued. A deadline that passes. -/
def cyclicS (stopped old : Bool) : State :=
  (inCabinet { ctx1 with
    jobs := if old then [{ job1 with fired := some 0 }] else []
    st := if old then .active else .idle } (engineAt 0#128)).modCab 0 (fun b => { b with
    table := [(0, 0x100000000)]
    due := [(0, 0)]
    stopped := stopped })
theorem test_ct_due : (cyclicS true false).ctDue 0 0 = some (0, 0) ∧ (cyclicS false true).ctDue 0 0 = some (0, 0) ∧
    (cyclicS false false).ctDue 0 0 = some (0, 0) ∧ ((cyclicS false false).modCab 0 (fun b => { b with due := [(0, 1000)] })).ctDue 0 0 = none ∧
    (cyclicS false true).ctHolder 0 0 = some 0 ∧ (cyclicS false false).ctHolder 0 0 = none := by
  decide +kernel
theorem test_ct_stopped : got (.ctEntryFire 0 0) (cyclicS true false) (fun t => ((t.cab 0).due, (t.ctx? 0 0).map (fun x => x.jobs.length))) =
    ([], some 0) := by decide +kernel
theorem test_ct_overrun : got (.ctEntryFire 0 0) (cyclicS false true) (fun t => ((t.cab 0).due, t.flag F.SCH_ERR_OVERRUN,
    t.rd { reg := R.SCH_DLM_LAST, hi := 21, lo := 20 })) = ([], true, 2) := by decide +kernel
theorem test_ct_fires : ((cyclicS false false).cabRead .sch 0 0x100000000 64).2.st = 0 ∧
    (jobOf (List.replicate 64 0) 0x100000000 0 0 (some 0)).isSome = true ∧ got (.ctEntryFire 0 0) (cyclicS false false) (fun t =>
      (t.ctHolder 0 0, (t.ctx? 0 0).map (fun x => (x.jobs.length, x.st)))) = (some 0, some (1, .ready)) := by decide +kernel
def lateS : State := { inCabinet { ctx1 with jobs := [{ job1 with deadline := 1 }] } (engineAt 0#128) with itu := 400 }
theorem test_deadline_miss : lateS.mainClk = true ∧ got (.deadlineMiss 0 0) lateS (fun t => (t.flag F.SCH_ERR_DEADLINE_MISS,
    (t.ctx? 0 0).map (fun x => x.jobs.map (fun j => j.missed)))) = (true, some [true]) ∧
    got (.deadlineMiss 0 0) { lateS with itu := 399 } (fun t => t.flag F.SCH_ERR_DEADLINE_MISS) = false := by decide +kernel

/-- A recovery: its conditions. A fence of engine 0. A remap of a cabinet without an N-1 table, which leaves it DEGRADED. -/
def slot1 : CkSlot := ⟨5, 1, List.replicate 8 .empty⟩
def recoverS : State := inCabinet { ctx1 with
  recovering := true
  jobs := [{ job1 with
    ckpt0 := 0x100020000
    ckpt1 := 0x100040000 }]
  ranks := [⟨some slot1, none, 2, 1, [], [], none⟩] } (eng0 (fun e => { e with
  st := .draining
  drained := true }) (engineAt 0#128))
theorem test_recovery : (recoverS.ctx? 0 0).bind (fun x => x.commonSeq) = some 1 ∧ recoverS.atRest 0 0 = true ∧ recoverS.inTransit 0 0 = false ∧
    ((recoverS.ctx? 0 0).bind (fun x => (nth freshRank x.ranks 0).slotOf 1)) = some (false, slot1) ∧
    got (.recovery 0) recoverS (fun t => (t.ctx? 0 0).map (fun x => x.recovering)) = some false := by decide +kernel
def fenceS : State := inCabinet ctx1 (eng0 (fun e => { e with fencePending := true }) (engineAt 0#128))
theorem test_fence : got (.fence 0) fenceS (fun t => ((t.eng 0).st, (t.eng 0).ver, t.pd 4, (t.cab 0).lost)) = (.fenced, .fenced, false, [0]) := by
  decide +kernel
def lostS : State := (inCabinet ctx1 (idleS .fenced)).modCab 0 (fun b => { b with lost := [0] })
theorem test_remap : got (.cabinetRemap 0) lostS (fun t => ((t.cab 0).lost, (t.cab 0).act, (t.cab 0).degraded, t.rd F.SCH_CAB_ENG_ENGINES 0)) =
    ([], none, true, 0) := by decide +kernel
/-! ### The Arbiter Unit, injection and watchdogs (10, 13), the core pair and its worlds (13, 14) -/

/-- The Arbiter Unit runs in `state` with doubt `d` and `agree` cycles of agreement, its main path and Footstool ready. -/
def arbS (state d agree : Nat) : State :=
  let s := (((on.put F.ARB_CFG_EN 0 0 1).put F.ARB_STATUS_STATE 0 0 state).put F.ARB_DOUBT_CUR 0 0 d).put F.ARB_STATUS_AGREE 0 0 agree
  { s with
    arb := { resetArb with
      fsReady := true
      mainReady := true }
    isl := { s.isl with
      faultN := false
      faultStart := false
      running := true } }
/-- The same at the end of its current cycle. -/
def atEnd (s : State) : State := { s with itu := s.arb.start + 8000000 * (s.arb.cycle + 1) }
def arbSees (s : State) : Nat × Nat × Nat := (s.rd F.ARB_STATUS_STATE, s.rd F.ARB_STATUS_SOURCE, s.rd F.ARB_STATUS_AGREE)
/-- MAIN without doubt; with doubt; FALLBACK at its ninth and tenth good cycle; the third onset; WITHHELD; a fault. -/
theorem test_boundary_main : (arbS 1 0 0).islClk = true ∧ got .controlBoundary (atEnd (arbS 1 0 0)) arbSees = (1, 0, 0) ∧
    got .controlBoundary (atEnd (arbS 1 1 5)) arbSees = (2, 1, 0) ∧
    (after .controlBoundary { arbS 1 1 5 with itu := 7999999 }).arb.cycle = 0 := by decide +kernel
theorem test_boundary_agree : got .controlBoundary (atEnd (arbS 2 0 8)) arbSees = (2, 1, 9) ∧ got .controlBoundary (atEnd (arbS 2 0 9)) arbSees = (1, 0, 10) := by
  decide +kernel
theorem test_boundary_latches : got .controlBoundary (atEnd { arbS 2 1 0 with arb := { (arbS 2 1 0).arb with
    cycle := 98
    onsets := [0, 50] } }) arbSees = (3, 1, 0) ∧ got .controlBoundary (atEnd (arbS 0 0 0)) arbSees = (0, 1, 0) ∧
    got .controlBoundary (atEnd { arbS 2 0 0 with isl := { resetIsl with faultN := true } }) arbSees = (2, 2, 1) := by decide +kernel
theorem test_arb_enable : on.flag F.ARB_CFG_EN = false ∧ got (.arbCfgEn (.isl 0) (2 ^ 31 + 0xFF0307)) on (fun t =>
    (t.flag F.ARB_CFG_EN, t.rd F.ARB_CFG_SAFE_CABS, t.rd F.ARB_CFG_PERSIST_MAX)) = (true, 255, 3) := by decide +kernel
theorem test_ready : (after (.fsReady (.isl 1)) on).arb.fsReady = true ∧ (after (.mainReady (.isl 1)) on).arb.mainReady = true := by decide +kernel
theorem test_doubts : bit ((after (.checker (.isl 0)) (arbS 1 0 0)).rd F.ARB_DOUBT_CUR) 0 = true ∧
    bit ((after (.software (.isl 0)) (arbS 1 0 0)).rd F.ARB_DOUBT_CUR) 6 = true ∧
    bit ((after (.checker (.isl 0)) on).rd F.ARB_DOUBT_CUR) 0 = false := by decide +kernel
theorem test_lockstep_and_alive : (after .arbiterLockstepMismatch on).isl.faultN = true ∧
    (after .aliveToggle ({ arbS 1 0 0 with arb := { resetArb with fsLast := true } } : State)).isl.alive = true := by decide +kernel

/-- An injection that every checker passed; one in which engine 15's code checker failed. -/
def good : Injection := ⟨0, 0, false, false, false, false, false⟩
theorem test_injection : (arbS 0 0 0).isl.running = true ∧ (arbS 0 0 0).flag F.ARB_MECH_INJ_DONE = false ∧
    got (.errorInjection good) (arbS 0 0 0) (fun t => (t.flag F.ARB_MECH_INJ_DONE, t.rd F.ARB_STATUS_STATE)) = (true, 2) ∧
    got (.errorInjection { good with codes := 0x8000#16 }) (arbS 0 0 0) (fun t => (t.eng 15).ver) = .fenced := by decide +kernel
/-- Watchdog 6 is kicked by PMC's signal, and a second time before MIN; it expires. -/
def wdogS (itu : Nat) : State :=
  let s := (((arbS 1 0 0).put F.ISL_WDOG_CFG_EN 6 0 1).put F.ISL_WDOG_CFG_MIN 6 0 1).put F.ISL_WDOG_CFG_PERIOD 6 0 2
  { s.takeEffect R.ISL_WDOG_CFG 6 with itu := itu }
theorem test_kick : kicks ((wdogS 0).flag F.ISL_PAIR_STAT_MODE) none 6 = true ∧ (wdogS 0).wdogAsleep 6 = false ∧
    vget (after (.islWdogKick none 64 false) (wdogS 5)).isl.kickAt 6 = some 5 ∧
    bit ((after (.islWdogKick none 64 false) (wdogS 5)).rd F.ISL_WDOG_STAT_EXPIRED) 6 = false ∧
    bit ((after (.islWdogKick none 64 false) { after (.islWdogKick none 64 false) (wdogS 0) with itu := 39999 }).rd F.ISL_WDOG_STAT_EXPIRED) 6 = true ∧
    bit ((after (.islWdogKick none 64 false) { after (.islWdogKick none 64 false) (wdogS 0) with itu := 40000 }).rd F.ISL_WDOG_STAT_EXPIRED) 6 = false := by
  decide +kernel
theorem test_wdog_expires : bit ((after (.islWdogExpire 6) (wdogS 79999)).rd F.ISL_WDOG_STAT_EXPIRED) 6 = false ∧
    bit ((after (.islWdogExpire 6) (wdogS 80000)).rd F.ISL_WDOG_STAT_EXPIRED) 6 = true ∧
    bit ((after (.islWdogExpire 6) (wdogS 80000)).rd F.ARB_DOUBT_CUR) 5 = true := by decide +kernel

/-- The pair, with what ISL-A has stored and loaded. -/
def pairS2 (cmp : List PairEntry) (log : List LogEntry) : State :=
  { arbS 1 0 0 with isl := { (arbS 1 0 0).isl with
    cmp := cmp
    log := log } }
def pairSees (s : State) : Bool × Bool × Nat := (s.isl.halted, s.isl.faultN, s.rd F.ISL_PAIR_STAT_CAUSE)
theorem test_store_held : (pairS2 [] []).paired = true ∧
    (after (.pairStoreCompare 0 0x10000000 [7]) (pairS2 [] [])).isl.cmp = [.store 0x10000000 1 7 true] ∧
    (after (.islSync 0 9) (pairS2 [] [])).isl.cmp = [.sync 9] := by decide +kernel
theorem test_store_compares : got (.pairStoreCompare 1 0x10000000 [7]) (pairS2 [.store 0x10000000 1 7 true] [])
    (fun t => (t.isl.cmp.length, t.mem.read 0x10000000, t.resp)) = (0, 7, ⟨0, []⟩) ∧
    got (.pairStoreCompare 1 0x10000000 [8]) (pairS2 [.store 0x10000000 1 7 true] []) pairSees = (true, true, 0) := by decide +kernel
theorem test_sync_compares : (after (.islSync 1 9) (pairS2 [.sync 9] [])).isl.cmp = [] ∧
    got (.islSync 1 8) (pairS2 [.sync 9] []) pairSees = (true, true, 3) ∧
    got .pairCompareTimeout (pairS2 [.sync 9] []) pairSees = (true, true, 2) := by decide +kernel
theorem test_load_compares : (pairS2 [] []).inPrivate 0x10000000 1 = false ∧
    (after (.pairLoadCompare 0 0x10000000 1) (pairS2 [] [])).isl.log = [.load 0x10000000 1 0] ∧
    got (.pairLoadCompare 1 0x10000000 1) (pairS2 [] [.load 0x10000000 1 5]) (fun t => (t.isl.log.length, t.resp)) = (0, ⟨0, [5]⟩) ∧
    got (.pairLoadCompare 1 0x10000004 1) (pairS2 [] [.load 0x10000000 1 5]) pairSees = (true, true, 1) := by decide +kernel
def privateS : State := { pairS2 [] [] with isl := { (pairS2 [] []).isl with privSize := 1 } }
theorem test_load_private : privateS.inPrivate 0x10000000 1 = true ∧ (after (.pairLoadCompare 1 0x10000000 1) privateS).resp = ⟨0, [0]⟩ := by
  decide +kernel
/-- Worlds and tags: a Secure core leaves the Secure world, a Normal one does not return; Locker 2's code part is the page 0x100000. -/
theorem test_world : (pairS2 [] []).coresRun = true ∧ vget (after (.worldCsrWrite 1 0) (pairS2 [] [])).isl.world 1 = false ∧
    vget (after (.worldCsrWrite 1 1) (after (.worldCsrWrite 1 0) (pairS2 [] []))).isl.world 1 = false := by decide +kernel
def lockerS (tag : Option (Fin 16)) : State :=
  let s := ((((pairS2 [] []).put F.SEC_CFG_MODE 0 0 3).put F.SEC_LKR_BASE_BASE 2 0 0x100000).put F.SEC_LKR_BASE_VALID 2 0 1).put F.SEC_LKR_SIZE_SIZE 2 0 2
  let s := s.put F.SEC_LKR_SIZE_CODE 2 0 1
  { s with isl := { s.isl with tag := vmod s.isl.tag 0 (fun _ => tag) } }
theorem test_code_fetch : (lockerS none).lkrOn = true ∧ (lockerS none).codePart 0x100000000 = some 2 ∧ (lockerS none).codePart 0x100001000 = none ∧
    vget (after (.lockerCodeFetch 0 0x100000000) (lockerS none)).isl.tag 0 = some 2 ∧
    vget (after (.lockerCodeFetch 0 0x100001000) (lockerS (some 2))).isl.tag 0 = none ∧
    (after (.lockerCodeFetch 0 0x100000004) (lockerS none)).flag F.SEC_ERR_VIOL = true ∧
    vget (after (.lockerCodeFetch 0 0x100000004) (lockerS (some 2))).isl.tag 0 = some 2 := by decide +kernel
def irqS (mode : Nat) (log : List LogEntry) : State := ((pairS2 [] log).put F.ISL_INT_WORLD_SECURE 0 0 (2 ^ 63)).put F.ISL_PAIR_STAT_MODE 0 0 mode
theorem test_secure_interrupt : bit ((irqS 1 []).rd F.ISL_INT_WORLD_SECURE) 63 = true ∧
    vget (after (.secureInterrupt 1 63 5) (after (.worldCsrWrite 1 0) (irqS 1 []))).isl.world 1 = true ∧
    (after (.secureInterrupt 0 63 5) (irqS 0 [])).isl.log = [.irq 63 5] ∧
    (after (.secureInterrupt 1 63 5) (irqS 0 [.irq 63 5])).isl.log = [] := by decide +kernel
/-- Bytes in memory, and a failing code. -/
def withBytes (a : Nat) (l : List Byte) (s : State) : State := { s with mem := s.mem.writeBytes a l }
def badAt (a : Nat) (s : State) : State := { s with mem := s.mem.markBad a }
def seen (s : State) : Nat × List Byte := (s.resp.status, s.resp.data)
/-- The conditions of `Serves` from what is decided of a concrete state. -/
theorem serves_of {s : State} {m : Master} {w : Bool} {a n : Nat}
    (h : s.toDevice m a n = some a ∧ s.region a = .lpddr ∧ s.refuse m w a n = none ∧ s.mem.bad = [] ∧ s.inj = none) :
    s.Serves m w a n := ⟨h.1, .inl h.2.1, h.2.2.1, h.2.2.2.1, h.2.2.2.2⟩
/-- A run of LPDDR5X that a master without a cabinet reaches is served whole and in every part. -/
theorem serves_run {s : State} {m : Master} {w : Bool} {a len : Nat}
    (h : s.cabOf m = none ∧ s.reaches m w .lpddr = true ∧ s.pds 33 40 = true ∧ s.wmOn = false ∧ s.lkrOn = false ∧ s.mem.bad = [] ∧
      s.inj = none ∧ s.hyperBytes 0 < 2 ^ 31 ∧ s.hyperBytes 1 < 2 ^ 31 ∧ 0x100000000 ≤ a ∧ 0 < len ∧ a + len ≤ s.lpddrEnd) :
    ∀ n, n ≤ len → s.Serves m w a n := by
  obtain ⟨hc, hr, hp, hw, hl, hb, hi, h0, h1, ha, hn, he⟩ := h
  have hreg : ∀ b, a ≤ b → b < a + len → s.region b = .lpddr := fun b h2 h3 => by
    unfold State.region
    rw [if_neg (by omega), if_neg (by omega), if_neg (by omega), if_neg (by omega), if_neg (by omega), if_neg (by omega), if_neg (by omega),
      if_neg (by omega), if_pos (by omega)]
  intro n hle
  have hz : s.region (a + (n - 1)) = .lpddr := hreg _ (by omega) (by omega)
  refine ⟨by simp [State.toDevice, hc], .inl (hreg a (Nat.le_refl a) (by omega)), ?_, hb, hi⟩
  simp [State.refuse, hreg a (Nat.le_refl a) (by omega), hz, hr, State.memOn, hp, hw, hl]

theorem test_lpddr_read : on.toDevice .sch 0x100000040 2 = some 0x100000040 ∧ on.refuse .sch false 0x100000040 2 = none ∧
    on.leaves .sch 0 = true ∧ got (.lpddr5xRead .sch 0x100000040 2 ⟨0, 0⟩) (withBytes 0x100000040 [7, 8] on) seen = (0, [7, 8]) := by decide +kernel
/-- MEM_DETECT, in the log at the start of the 64-byte line (10 R297; 12 R386). -/
theorem test_lpddr_detects : got (.lpddr5xRead .sch 0x100000042 1 ⟨0, 0⟩) (badAt 0x100000040 on) (fun t =>
    (t.resp.status, t.flag F.MEM_ERR_DETECT, t.rd F.MEM_ERR_ADDR_ADDR, t.rd F.MEM_ERR_INFO_MASTER)) = (stMEM_DETECT, true, 0x100000040, 24) := by
  decide +kernel
/-- A camera's port at its LIMIT keeps a request while its 64 KiB FIFO is filled below its second threshold, 8/16, and lets it go from
there (12 R406, R410); corrections of the link are counted (12 R390). -/
def spent : State :=
  let s := ((on.put F.QOS_M_BUDGET_LIMIT 29 0 5).takeEffect R.QOS_M_BUDGET 29).put F.QOS_M_USED_USED 29 0 5
  ((s.put F.QOS_M_CFG_T1 29 0 8).put F.QOS_M_CFG_T2 29 0 4).put F.QOS_M_CFG_T3 29 0 15
theorem test_budget_holds : spent.urgency 29 32767 = 1 ∧ spent.urgency 29 32768 = 2 ∧ spent.leaves (csiPort 0) 1 = false ∧
    spent.leaves (csiPort 0) 2 = true ∧ (after (.lpddr5xWrite (csiPort 0) 0x100000000 [1] ⟨32767, 0⟩) spent).mem = spent.mem ∧
    got (.lpddr5xWrite (csiPort 0) 0x100000000 [1] ⟨32768, 3⟩) spent (fun t => (t.mem.read 0x100000000, t.rd F.MEM_LINK_CNT_COUNT)) = (1, 3) := by
  decide +kernel
/-- A partial line charges 2 units, a whole one 1 (12 R405). -/
theorem test_write_charges : got (.lpddr5xWrite .sch 0x100000000 [1, 2] ⟨0, 0⟩) on (fun t => (t.mem.readBytes 0x100000000 2,
      t.rd F.QOS_M_USED_USED 24, t.resp)) = ([1, 2], 2, ⟨0, []⟩) ∧
    (after (.lpddr5xRead .sch 0x10000003F 2 ⟨0, 0⟩) on).rd F.QOS_M_USED_USED 24 = 2 := by decide +kernel
def ready : State := on.put F.SBUF_STAT_READY 0 0 1
theorem test_sbuf_accesses : ready.slicesReady 0x80000000 4 = true ∧ ready.slicesReady 0x807FFFFF 2 = false ∧
    (after (.sbufWrite .sch 0x80000010 [9]) ready).mem.read 0x80000010 = 9 ∧
    got (.sbufRead .sch 0x80000010 1) (withBytes 0x80000010 [9] ready) seen = (0, [9]) := by decide +kernel
/-- HyperRAM on both ports (13 R431: island masters): a repeat that repairs, a repeat that does not. -/
def hypers : State := (on.put F.MEM_CFG_HYP0 0 0 1).put F.MEM_CFG_HYP1 0 0 1
theorem test_hyperram : hypers.region 0x60000000 = .hyper ∧ hypers.region 0x64000000 = .hyper ∧
    got (.hyperramRead (.isl 0) 0x64000000 1 true) (withBytes 0x64000000 [5] hypers)
      (fun t => (t.resp.data, t.flag F.HB_STAT_CRC_REPEAT 1, t.rd F.HB_REPEAT_CNT_CNT 1)) = ([5], true, 1) ∧
    got (.hyperramRead (.isl 0) 0x60000000 1 false) (badAt 0x60000000 hypers) (fun t => (t.resp.status, t.faultNow)) = (stMEM_DETECT, true) ∧
    (after (.hyperramWrite (.isl 0) 0x60000000 ⟨[6], false⟩) hypers).mem.read 0x60000000 = 6 := by decide +kernel
theorem test_sram_write : on.refuse (.isl 1) true 0x10000004 2 = none ∧
    got (.islandSramWrite (.isl 1) 0x10000004 [1, 2]) on (fun t => (t.mem.readBytes 0x10000004 2, t.resp)) = ([1, 2], ⟨0, []⟩) := by decide +kernel
theorem test_refused_accesses : on.refuse .sch false 0x70000000 4 = some .range ∧
    got (.unmappedAccess .sch false 0x70000000 4) on (fun t => (t.resp, t.flag F.MEM_ERR_RANGE)) = (⟨stFABRIC_ERR, []⟩, true) ∧
    (without 33).refuse .sch true 0x100000000 4 = some .power ∧
    got (.poweredOffAccess .sch true 0x100000000 4) (without 33) (fun t => (t.resp, t.flag F.MEM_ERR_POWER)) = (⟨stFABRIC_ERR, []⟩, true) := by
  decide +kernel

/-- Ports 3 and 24 are short of their guarantee and waited; the lowest is the last recorded (12 R404, R405). -/
def budgetS : State := (((on.put F.MEM_CFG_EN 0 0 1).put F.QOS_M_BUDGET_GUAR 3 0 9).takeEffect R.QOS_M_BUDGET 3).put F.QOS_M_BUDGET_LIMIT 3 0 77
theorem test_window : got (.budgetWindowStart 8) budgetS (fun t => (t.rd F.QOS_WCNT_WINDOW, t.rd F.QOS_MISS_MISS, t.rd F.QOS_MISS_LAST_MASTER)) =
      (1, 8, 3) ∧ (after (.budgetWindowStart 8) budgetS).rdE F.QOS_M_BUDGET_LIMIT 3 = 77 ∧
    (after (.budgetWindowStart 0) budgetS).rd F.QOS_MISS_MISS = 0 ∧
    (after (.budgetWindowStart 8) (budgetS.put F.QOS_M_USED_USED 3 0 9)).rd F.QOS_MISS_MISS = 0 := by decide +kernel
theorem test_slice_init : on.pd 24 = true ∧
    got (.sbufSliceInit 0) (badAt 0x80000000 (withBytes 0x807FFFFF [3, 4] on)) (fun t => (t.rd F.SBUF_STAT_READY, t.mem.readBytes 0x807FFFFF 2,
      t.mem.isBad 0x80000000)) = (1, [0, 4], false) := by decide +kernel
/-- Share 1 takes 2 pages behind the 8190 of share 0; 3 do not fit (12 R399, R400). -/
def share0 : State := after (.sbufShareEnable .sch 0 (8190 * 2 ^ 32 + 2 ^ 63)) on
theorem test_share_enable : share0.flag F.SBUF_SHARE_EN 0 = true ∧
    (after (.sbufShareEnable .sch 1 (2 * 2 ^ 32 + 8190 + 2 ^ 63)) share0).flag F.SBUF_SHARE_EN 1 = true ∧
    got (.sbufShareEnable .sch 1 (3 * 2 ^ 32 + 8190 + 2 ^ 63)) share0 (fun t => (t.flag F.SBUF_SHARE_EN 1, t.flag F.MEM_ERR_SB_OVERLAP)) =
      (false, true) ∧
    (after (.sbufShareEnable .sch 1 (1 * 2 ^ 32 + 8189 + 2 ^ 63)) share0).flag F.SBUF_SHARE_EN 1 = false := by decide +kernel
theorem test_injection_armed : (after (.memInjArm .sec (2 ^ 31 + 1 * 2 ^ 29 + 5)) on).inj = some (1, 5) := by decide +kernel
/-- CMU shares: 2^21 entries in all, one share for a cabinet (07 R200, R201). -/
theorem test_cmu_shares : got (.cmuShareEnable .sch 2 (2 ^ 31 + 2097152 + 3 * 2 ^ 22)) on (fun t => (t.flag F.CMU_SHARE_CFG_EN 2,
      (vget t.shares 2).st)) = (true, .open_) ∧
    got (.cmuShareEnable .sch 1 (2 ^ 31 + 1)) (after (.cmuShareEnable .sch 2 (2 ^ 31 + 2097152 + 3 * 2 ^ 22)) on) (fun t =>
      (t.flag F.CMU_SHARE_CFG_EN 1, t.flag F.CMU_ERR_OVERCOMMIT)) = (false, true) ∧
    (after (.cmuShareEnable .sch 1 (2 ^ 31 + 1 + 3 * 2 ^ 22)) (after (.cmuShareEnable .sch 2 (2 ^ 31 + 1 + 3 * 2 ^ 22)) on)).flag F.CMU_ERR_OVERCOMMIT = true ∧
    got (.cmuShareDisable .sch 2) (after (.cmuShareEnable .sch 2 (2 ^ 31 + 9)) on) (fun t => (t.flag F.CMU_SHARE_CFG_EN 2,
      (vget t.shares 2).st)) = (false, .disabled) := by decide +kernel
def plainQueueS : State := on.put F.SN_Q_GEOM_DEPTH 4 0 8
theorem test_queues : got (.queueEnable .sch 4 (2 ^ 31 + 2 ^ 30 + 5 * 2 ^ 27)) plainQueueS (fun t => (t.flag F.SN_Q_CFG_EN 4, t.rd F.SN_Q_CFG_CABINET 4,
      t.flag F.SN_Q_CFG_MULTI 4, (vget t.sn.queues 4).slots)) = (true, 5, true, []) ∧
    got (.queueDisable .sch 4) ({ plainQueueS.put F.SN_Q_CFG_EN 4 0 1 with sn := { plainQueueS.sn with
      toQueue := [(4, ⟨0, 0, 0, 0, none, 0, [], false, false⟩), (5, ⟨0, 0, 0, 0, none, 0, [], false, false⟩)] } } : State) (fun t =>
      (t.flag F.SN_Q_CFG_EN 4, t.sn.toQueue.map (fun f => f.1))) = (false, [5]) := by decide +kernel
/-- Slot 3 takes RGB888 lines of virtual channel 2 of receiver 1, into two buffers of 64 KiB; output 0 shows it. -/
def camS : State :=
  let s := (((on.put F.CSI_S_CFG_EN 3 0 1).put F.CSI_S_CFG_RECV 3 0 1).put F.CSI_S_CFG_VC 3 0 2).put F.CSI_S_CFG_DT 3 0 0x24
  let s := ((s.put F.CSI_S_BUF_ADDR 3 0 0x100000000).put F.CSI_S_BUF_BUFSZ 3 0 1).put F.CSI_S_CFG_NBUF 3 0 1
  ((s.put F.MIR_O_CFG_EN 0 0 1).put F.MIR_O_CFG_SRC 0 0 3).put F.MIR_O_DESC_ADDR 0 0 0x100100000
def cam1 : State := after (.csiFrameStart 1 2 true) camS
/-- The check value of CRC-32: the bytes 31H to 39H give CBF43926H. -/
def line9 : List Byte := [0x31, 0x32, 0x33, 0x34, 0x35, 0x36, 0x37, 0x38, 0x39]
def cam2 : State := after (.csiLongPacket 1 2 0x24 line9 true true) cam1
def cam3 : State := after (.csiFrameEnd 1 2 true) cam2
def slotIs (x : Slot) : Option Nat × Nat × Nat × Nat := (x.cur, x.lines, x.used, x.status)

theorem test_frame_start : camS.slotOn 3 1 2 = true ∧ slotIs (vget cam1.slots 3) = (some 0, 0, 4096, 0) ∧ (vget cam1.slots 3).fcnt = 1 ∧
    (vget (after (.csiFrameStart 1 2 true) (camS.put F.CSI_S_HOLD_HOLD 3 0 3)).slots 3).dropped = 1 ∧
    (vget (after (.csiFrameStart 1 2 false) cam1).slots 3).status = 1 := by decide +kernel
theorem test_line : slotsWhere (fun n => cam1.slotTakes n 1 2 0x24) = [3] ∧ slotIs (vget cam2.slots 3) = (some 0, 1, 4160, 0) ∧
    cam2.mem.readBytes 0x100001000 9 = line9 ∧
    (vget (after (.csiLongPacket 1 2 0x24 [1] true false) cam2).slots 3).status = 10 := by decide +kernel
/-- A line up to the last byte of the buffer is stored; one byte more is not (11 R342). -/
def near (used : Nat) : State := cam1.modSlot 3 (fun x => { x with used := used })
theorem test_line_overflow : slotIs (vget (after (.csiLongPacket 1 2 0x24 line9 true true) (near 65527)).slots 3) = (some 0, 1, 65591, 0) ∧
    slotIs (vget (after (.csiLongPacket 1 2 0x24 line9 true true) (near 65528)).slots 3) = (some 0, 0, 65528, 4) := by decide +kernel
theorem test_frame_end : cam3.mem.readNat 0x100000000 4 = 1 ∧ cam3.mem.readNat 0x100000004 4 = 1 ∧ cam3.mem.readNat 0x100000018 4 = 0xCBF43926 ∧
    (vget cam3.outs 0).cand = some (0, 1) ∧ (vget cam3.slots 3).cur = none := by decide +kernel
/-- A second slot of the same receiver, channel and type is refused (11 R340). -/
theorem test_slot_enable : got (.slotEnable .sec 5 (0x24 + 2 * 2 ^ 10 + 1 * 2 ^ 14)) camS (fun t => (t.flag F.CSI_S_CFG_EN 5,
      t.flag F.VIO_ERR_SLOT_DUP)) = (false, true) ∧
    got (.slotEnable (.isl 0) 5 (0x2A + 2 * 2 ^ 10 + 1 * 2 ^ 14)) camS (fun t => (t.flag F.CSI_S_CFG_EN 5, t.rd F.CSI_S_CFG_DT 5)) =
      (true, 0x2A) := by decide +kernel
/-- An output does not take a raw source (11 R344). -/
theorem test_mirror_enable : got (.mirrorEnable .sec 1 3) camS (fun t => (t.flag F.MIR_O_CFG_EN 1, t.rd F.MIR_O_CFG_SRC 1)) = (true, 3) ∧
    got (.mirrorEnable .sec 1 3) (camS.put F.CSI_S_CFG_DT 3 0 0x2C) (fun t => (t.flag F.MIR_O_CFG_EN 1, t.flag F.VIO_ERR_SRC_FORMAT)) =
      (false, true) := by decide +kernel
/-- The descriptor: 3 × 1 pixels out of a crop of 3 × 1 (11 R345). -/
def mirS : State := { withBytes 0x100100000 ([3, 0, 1, 0] ++ List.replicate 12 0 ++ [3, 0, 1, 0] ++ List.replicate 44 0) cam3 with
  mtu := 4000000 * 2 ^ 32 }
/-- DELAY is 40 × 100 µs. -/
theorem test_mirror_delay : mirS.rdE F.MIR_O_CFG_DELAY 0 = 40 ∧ (vget mirS.outs 0).candEnd = 0 ∧ mirS.stamp = 4000000 ∧
    (vget (after (.mirrorFrameStart 0) { mirS with mtu := 3999999 * 2 ^ 32 }).outs 0).shown = none := by decide +kernel
theorem test_mirror_shows : descOk (mirS.mem.readBytes 0x100100000 64) 0x24 1 9 = true ∧ (vget mirS.outs 0).cand = some (0, 1) ∧
    got (.mirrorFrameStart 0) mirS (fun t => ((vget t.outs 0).shown, (vget t.outs 0).good, (vget t.outs 0).hold, (vget t.outs 0).repeats)) =
      (some 1, some (0, 1), some 0, 0) := by decide +kernel
/-- A repeat beyond FREEZE_MAX 0 freezes, with the fault shown (11 R346, R349). -/
def shownS : State := ((after (.mirrorFrameStart 0) mirS).put F.MIR_O_CFG_ON_FAULT 0 0 1).put F.MIR_O_CFG_FREEZE_MAX 0 0 0
theorem test_mirror_repeat : (vget shownS.outs 0).cand = none ∧ shownS.rd F.MIR_O_CFG_FREEZE_MAX 0 = 0 ∧
    got (.mirrorRepeat 0) shownS (fun t => ((vget t.outs 0).repeats, (vget t.outs 0).fault, t.flag F.VIO_ERR_FREEZE0)) = (1, true, true) ∧
    got (.mirrorFrameEnd 0) shownS (fun t => (vget t.outs 0).hold) = none := by decide +kernel
/-- A changed byte of the payload makes the frame wrong (11 R347). -/
theorem test_mirror_wrong : got (.mirrorFrameStart 0) (withBytes 0x100001000 [0] mirS) (fun t => ((vget t.outs 0).shown, t.flag F.VIO_ERR_WRONG0)) =
    (none, true) := by decide +kernel

/-- The MTU: a step of -2 ns, a set, an ITU rate. -/
def mtuS : State := { on with mtu := 5 * 2 ^ 32 + 7 }
theorem test_mtu : (after (.mtuAdj .sec (2 ^ 32 - 2)) mtuS).mtu = 3 * 2 ^ 32 + 7 ∧ (after (.mtuSet (.isl 1) 9) mtuS).mtu = 9 * 2 ^ 32 ∧
    (after (.mtuAdj .sec (2 ^ 32 - 6)) mtuS).mtu = mtuMod - 2 ^ 32 + 7 := by decide +kernel
def ituS : State := { on.put F.ITU_RATE_RATE 0 0 (2 ^ 20) with itu := 2 ^ 21 }
theorem test_itu_rate : ituS.ituTime = 2 ^ 21 + 2 ∧ got (.ituRateWrite (.isl 0) 5) ituS (fun t => (t.ituTime, t.rd F.ITU_RATE_RATE, t.ituBase)) =
    (2 ^ 21 + 2, 5, 2 ^ 21) := by decide +kernel
/-- Timed pulse 2, period 1 µs, armed at 1000, and the MTU at 2500 ns: it fires once and is due at 3000; it opens cycle 0. -/
def pulS : State :=
  let s := (((on.put F.TP_CFG_EN 2 0 1).put F.TP_CFG_PERIOD 2 0 1).put F.TP_CFG_PIN_EN 2 0 1).put F.TP_CFG_WIDTH 2 0 1
  let s := (s.put F.GA_CFG_EN 0 0 1).put F.GA_CFG_TRIG 0 0 2
  after (.timedPulseArm .sec 2 1000) ({ s with mtu := 2500 * 2 ^ 32 } : State)
theorem test_pulse : pulS.stamp = 2500 ∧ pulS.pulseDue 2 = some 1000 ∧
    got (.timedPulseFire 2) pulS (fun t => (vget t.pulses 2, t.ga.opens)) = (⟨some 3000, true, 2500⟩, [(0, 1000, 38001000)]) ∧
    (vget (after (.timedPulseFire 2) (pulS.put F.TP_CFG_PERIOD 2 0 0)).pulses 2).due = none ∧
    pulS.rdE F.TP_CFG_WIDTH 2 = 1 ∧
    (vget (after (.timedPulseWidthEnd 2) { after (.timedPulseFire 2) pulS with mtu := 3499 * 2 ^ 32 }).pulses 2).high = true ∧
    (vget (after (.timedPulseWidthEnd 2) { after (.timedPulseFire 2) pulS with mtu := 3500 * 2 ^ 32 }).pulses 2).high = false := by decide +kernel
/-- Captures: both edges, four at most (11 R358). -/
def capS (l : List Nat) : State := { (on.put F.CAP_CFG_EN 15 0 1).put F.CAP_CFG_EDGE 15 0 2 with
  mtu := 77 * 2 ^ 32
  caps := vmod on.caps 15 (fun _ => l) }
def kept10 (rising : Bool) (l : List Nat) : State := ({ after (.captureEdge 15 rising) (capS l) with ticks := 10 } : State).captureTick
theorem test_capture_filter : vget (after (.captureEdge 15 true) (after (.captureEdge 15 false) (capS [1, 2, 3]))).capIn 15 = none ∧
    vget (after (.captureEdge 15 false) (capS [1, 2, 3])).capIn 15 = some ⟨0, false, 77⟩ ∧
    vget ({ after (.captureEdge 15 false) (capS [1, 2, 3]) with ticks := 9 } : State).captureTick.caps 15 = [1, 2, 3] := by decide +kernel
theorem test_capture : (vget (kept10 false [1, 2, 3]).caps 15, (kept10 false [1, 2, 3]).rd F.CAP_CFG_LEVEL 15) = ([1, 2, 3, 77], 4) ∧
    (vget (kept10 true [1, 2, 3, 4]).caps 15, (kept10 true [1, 2, 3, 4]).flag F.CAP_CFG_OVF 15) = ([1, 2, 3, 4], true) ∧
    got (.captureRead 15) (capS [2 ^ 40, 6]) (fun t => (vget t.caps 15, t.rd F.CAP_CFG_LEVEL 15, t.resp)) = ([6], 1, ⟨0, [0, 1, 0, 0]⟩) ∧
    (after (.captureRead 15) (capS [])).resp = ⟨0, [0, 0, 0, 0]⟩ := by decide +kernel

/-- A configuration block of a 16 × 16 grid: ring of sample tables at 0x100200000, one sensor of kind 1 (11 R361). -/
def blk : List Byte := leBytes 0x100200000 8 ++ leBytes 0x100300000 8 ++ leBytes 0x100400000 8 ++ leBytes 0x100500000 8 ++ leBytes 0 8 ++
  leBytes 0x100600000 8 ++ leBytes 16 2 ++ [0, 0, 1, 0] ++ leBytes 0 2 ++ leBytes 0x100700000 8 ++ leBytes 0x100800000 6 ++ [1, 1, 0, 0, 0, 0] ++
  List.replicate 180 0
def gaS (g : Ga → Ga) : State :=
  let s := withBytes 0x100000100 blk ((on.put F.GA_CFG_EN 0 0 1).put F.GA_BLOCK_ADDR 0 0 0x100000100)
  { s with
    mtu := 5000 * 2 ^ 32
    ga := g emptyGa }
/-- The block is accepted; a POLL takes the sample whose number is next, once; a foreign number stays. -/
def pollS (q : Nat) : State := withBytes 0x100200000 (leBytes 4000 8 ++ List.replicate 20 0 ++ leBytes q 4) (gaS (fun g => { g with
  block := some blk
  opens := [(0, 3000, 4500)] }))
theorem test_sample_poll : blkOk blk = true ∧ blkOn blk = [0] ∧ (pollS 0).cycleAt 4000 = some 0 ∧
    got .samplePoll (pollS 0) (fun t => ((vget t.ga.sensors 0).q, (vget t.ga.sensors 0).held.map (fun h => (h.1, h.2.t)))) = (1, [(0, 4000)]) ∧
    got .samplePoll (pollS 1) (fun t => ((vget t.ga.sensors 0).q, (vget t.ga.sensors 0).held.length)) = (0, 0) := by decide +kernel
def closed0 : Closed := ⟨0, 3000, blk, [], 0, 0, 0⟩
theorem test_fusion_close : got .fusionClose (gaS (fun g => { g with
      opens := [(1, 4000, 5000), (0, 3000, 4500)]
      next := 1
      closed := [closed0] })) (fun t => (t.ga.next, t.ga.closed.map (fun z => (z.k, z.tk)), t.ga.block.isSome)) = (2, [(0, 3000), (1, 4000)], true) ∧
    got .fusionClose (withBytes 0x100000130 [15] (gaS (fun g => { g with opens := [(0, 3000, 4500)] }))) (fun t => (t.ga.next, t.ga.closed.length,
      t.flag F.GA_ERR_BLOCK)) = (1, 0, true) := by decide +kernel
/-- The release of cycle 0 with two conflicting corridor cells over a maximum of 0: doubt 3 (11 R369). -/
theorem test_grid_release : got .gridRelease ((gaS (fun g => { g with
      closed := [closed0]
      corridor := 2 })).put F.ARB_CFG_EN 0 0 1) (fun t => (t.ga.closed.length, t.rd F.GA_STAT_CYCLE, bit (t.rd F.ARB_DOUBT_CUR) 3)) = (0, 0, true) ∧
    Report.irq "GRID_RELEASE" 0 ∈ (after .gridRelease (gaS (fun g => { g with closed := [closed0] }))).out := by decide +kernel
theorem test_ga_enable : got (.gaEnable .sec (5 * 2 ^ 24)) ({ on with ga := { emptyGa with next := 9 } } : State) (fun t => (t.flag F.GA_CFG_EN,
    t.rd F.GA_CFG_TRIG, t.ga.next)) = (true, 5, 0) := by decide +kernel
/-- CAN controller 10 on its bus, format CAN XL, a ring of two slots in the island SRAM, a filter for identifier 0x123. -/
def canS : State :=
  let s := (((on.put0 F.SEC_CFG_MODE 0).put F.CAN_CTRL_EN 10 0 1).put F.CAN_CTRL_FORMAT 10 0 2).put F.CAN_RX_BASE_V 10 0 0x10000000
  let s := (s.put F.CAN_RX_LEN_LEN 10 0 2).put F.CAN_FILT_ID_EN 10 0 1
  ((s.put F.CAN_FILT_ID_ID 10 0 0x123).put F.CAN_FILT_MASK_MASK 10 0 0x7FF)
def full2 (n : Nat) (s : State) : State := { s with cans := vmod s.cans 10 (fun _ => ⟨n, 0⟩) }
theorem test_can_receive : canS.canOn 10 = true ∧ canS.canFits 10 0x123 2 = true ∧ canS.canAccepts 10 0x123 = true ∧
    got (.canFrameReceive 10 0x123 [7, 8]) (full2 1 (canS.put F.CAN_RX_HEAD_HEAD 10 0 1)) (fun t => ((vget t.cans 10).fill,
      t.rd F.CAN_RX_HEAD_HEAD 10, t.rd F.CAN_IRQ_IRQ 10, t.mem.readBytes (0x10000000 + 2064 + 8) 10)) = (2, 0, 1, [0x23, 1, 0, 0, 2, 0, 0, 0, 7, 8]) := by
  decide +kernel
theorem test_can_overrun : got (.canFrameReceive 10 0x123 [7]) (full2 2 canS) (fun t => (vget t.cans 10, t.flag F.CAN_STAT_RX_OVERRUN 10,
    t.rd F.CAN_IRQ_IRQ 10, t.rd F.CAN_RX_HEAD_HEAD 10)) = (⟨2, 1⟩, true, 16, 0) := by decide +kernel
/-- Nine bytes do not fit a classical frame; a foreign identifier passes no filter. -/
theorem test_can_ignores : canS.canFits 10 0x123 9 = false ∧ canS.canAccepts 10 0x124 = false ∧
    (vget (after (.canFrameReceive 10 0x124 [7]) canS).cans 10).fill = 0 ∧
    (vget (after (.canFrameReceive 10 0x123 [1, 2, 3, 4, 5, 6, 7, 8, 9]) canS).cans 10).fill = 0 := by decide +kernel
/-- Buffers 0 and 31 are ready with identifiers 0x124 and 0x123: the lower identifier wins (13 R434). -/
def txS : State :=
  let s := ((canS.put F.CAN_TXBUF_ADDR 10 0 0x10001000).put F.CAN_TXBUF_ADDR 10 31 0x10001010)
  after (.canTxReq (.isl 0) 10 (2 ^ 31 + 1)) (withBytes 0x10001018 [0x23, 1] (withBytes 0x10001008 [0x24, 1] s))
theorem test_can_sent : txS.rd F.CAN_TX_REQ_REQ 10 = 2 ^ 31 + 1 ∧ canWinner (txS.canReady 10).2 = some 31 ∧
    got (.canFrameSent 10) txS (fun t => (t.rd F.CAN_TX_REQ_REQ 10, t.rd F.CAN_TX_DONE_DONE 10, t.rd F.CAN_IRQ_IRQ 10)) = (1, 2 ^ 31, 2) ∧
    (after (.canTxAbort (.isl 0) 10 1) txS).rd F.CAN_TX_REQ_REQ 10 = 2 ^ 31 := by decide +kernel
/-- One ready buffer alone; its header lies in the island SRAM. -/
def tx1S : State := after (.canTxReq (.isl 0) 10 (2 ^ 31)) (canS.put F.CAN_TXBUF_ADDR 10 31 0x10001010)
theorem test_can_sent_served : tx1S.canOn 10 = true ∧ tx1S.rd F.CAN_TX_REQ_REQ 10 = 2 ^ 31 ∧ tx1S.Serves (.can 10) false 0x10001010 16 ∧
    tx1S.rd F.CAN_TXBUF_ADDR 10 31 / 16 * 16 = 0x10001010 :=
  ⟨by decide +kernel, by decide +kernel, ⟨by decide +kernel, by decide +kernel, by decide +kernel, by decide +kernel, by decide +kernel⟩, by decide +kernel⟩
def busOff : State := after (.canBusOff 10) (canS.put F.CAN_STAT_TEC 10 0 9)
theorem test_can_bus_off : busOff.rd F.CAN_STAT_STATE 10 = 2 ∧ busOff.rd F.CAN_IRQ_IRQ 10 = 12 ∧
    got (.canRestart (.isl 1) 10) busOff (fun t => (t.rd F.CAN_STAT_STATE 10, t.rd F.CAN_STAT_TEC 10)) = (0, 0) ∧
    (after (.canBusOffRecovery 10) (busOff.put F.CAN_CTRL_AUTO_RECOV 10 0 1)).rd F.CAN_STAT_STATE 10 = 0 := by decide +kernel

/-- LIN commander 3; the protected identifier of 10H is 50H, and 55H of 15H's is wrong in no check of the enhanced sum 2CH. -/
def linS : State := ((on.put F.LIN_CTRL_EN 3 0 1).put F.LIN_CTRL_COMMANDER 3 0 1).put F.LIN_CTRL_ENHANCED 3 0 1
def lin1 : State := after (.linStart (.isl 0) 3) linS
theorem test_lin_done : linPid 0x10 = 0x50 ∧ lin1.linBusy 3 = true ∧
    got (.linDone 3 true true 0x50 [1, 2, 3, 4, 5] 0xA0) lin1 (fun t => (t.flag F.LIN_STAT_DONE 3, t.flag F.LIN_STAT_CHECKSUM 3,
      t.rd F.LIN_DATA0_DATA 3, t.rd F.LIN_DATA1_DATA 3)) = (true, false, 0x04030201, 5) ∧
    got (.linDone 3 false false 0x10 [1] 0) lin1 (fun t => (t.flag F.LIN_STAT_BREAK 3, t.flag F.LIN_STAT_SYNC 3, t.flag F.LIN_STAT_PARITY 3,
      t.flag F.LIN_STAT_CHECKSUM 3)) = (true, true, true, true) ∧
    (after (.linDone 3 true true 0x50 [] 0) lin1).isl.lin = 0 := by decide +kernel
theorem test_lin_others : got (.linResponseTimeout 3) lin1 (fun t => (t.flag F.LIN_STAT_TIMEOUT 3, t.isl.lin)) = (true, 0) ∧
    Report.irq "LIN_WAKE" 2 ∈ (after (.linWakeUp 2) on).out := by decide +kernel
theorem test_gpio : got (.gpioEdge 31 true) (on.put0 F.GPIO_RISE_EN_V (2 ^ 31)) (fun t => (t.rd F.GPIO_IN_V, t.rd F.GPIO_IRQ_V)) = (2 ^ 31, 2 ^ 31) ∧
    got (.gpioEdge 0 false) (on.put0 F.GPIO_IN_V 3) (fun t => (t.rd F.GPIO_IN_V, t.rd F.GPIO_IRQ_V)) = (2, 0) := by decide +kernel
/-- A timer at its compare value, periodic and one-shot; the compare value wraps. -/
def tmrS (p : Nat) : State := { ((on.put F.TMR_CTRL_EN 7 0 1).put F.TMR_CTRL_PERIODIC 7 0 1).put F.TMR_PERIOD_PERIOD 7 0 p with itu := 2 ^ 64 - 1 }
theorem test_timer : got (.islandTimerExpire 7) ((tmrS 10).put F.TMR_CMP_CMP 7 0 (2 ^ 64 - 1)) (fun t => (t.flag F.TMR_IRQ_IRQ 7, t.rd F.TMR_CMP_CMP 7,
      t.isl.timers)) = (true, 9, 0) ∧
    got (.islandTimerExpire 7) ((tmrS 0).put F.TMR_CMP_CMP 7 0 5) (fun t => (t.rd F.TMR_CMP_CMP 7, t.isl.timers)) = (5, 128) := by decide +kernel

/-- The bridge: range 0 carries posted writes of SCH to the GPIO block, range 1 non-posted accesses to the timers with errors passed on. -/
def bridgeS : State :=
  let s := (((on.put F.BB_RANGE_EN 0 0 1).put F.BB_RANGE_BASE 0 0 0x21).put F.BB_RANGE_SIZE 0 0 1).put F.BB_RANGE_POSTED 0 0 1
  let s := (s.put F.BB_RANGE_MASTERS 0 0 2).put F.BB_RANGE_EN 1 0 1
  ((((s.put F.BB_RANGE_BASE 1 0 0).put F.BB_RANGE_SIZE 1 0 0x20).put F.BB_RANGE_MASTERS 1 0 2).put F.BB_RANGE_COMPAT_ERR 1 0 1)
def posted (n : Nat) : State := { bridgeS with bridge := ⟨List.replicate n (.sch, 0x20021000, [5, 0, 0, 0]), none⟩ }
theorem test_bridge_posted : bridgeS.bbRoute .sch 0x20021000 = some (true, false) ∧
    (after (.bbPostedWrite false .sch 0x20021000 [1, 0, 0, 0]) (posted 31)).bridge.posted.length = 32 ∧
    (after (.bbPostedWrite false .sch 0x20021000 [1, 0, 0, 0]) (posted 32)).bridge.posted.length = 32 ∧
    got (.bbPostedWrite true .sch 0 []) (posted 2) (fun t => (t.bridge.posted.length, t.rd F.GPIO_DIR_V, t.flag F.BB_ERR_POSTED_ERR)) = (1, 5, false) := by
  decide +kernel
theorem test_bridge_refuses : bridgeS.bbRoute .sch 0x20030000 = none ∧
    got (.bbNonpostedAccess .sch false 0x20030000 4 [] .free) bridgeS (fun t => (t.resp, t.flag F.MEM_ERR_RANGE)) = (⟨stFABRIC_ERR, []⟩, true) := by
  decide +kernel
/-- A read waits for the posted write of its master; then it reads. An offset with no block gives an error, passed on by COMPAT_ERR. -/
theorem test_bridge_access : (after (.bbNonpostedAccess .sch false 0x20021000 4 [] .free) (posted 1)).resp = bridgeS.resp ∧
    (after (.bbNonpostedAccess .sch false 0x20021000 4 [] .free) (bridgeS.put0 F.GPIO_DIR_V 9)).resp = ⟨0, [9, 0, 0, 0]⟩ ∧
    bridgeS.bbRoute .sch 0x20000100 = some (false, true) ∧ bbShape 0x20000100 4 = true := by decide +kernel
theorem test_bridge_error : (bridgeS.regRefusal .sch 0x2001F000 4).isSome = true ∧
    got (.bbNonpostedAccess .sch false 0x2001F000 4 [] .free) bridgeS (fun t => (t.resp, t.flag F.BB_ERR_NP_ERR)) = (⟨stFABRIC_ERR, []⟩, true) ∧
    got (.bbNonpostedAccess .sch true 0x2001F000 0 [1, 0, 0, 0] .free) bridgeS (fun t => (t.resp, t.flag F.BB_ERR_NP_ERR)) =
      (⟨stFABRIC_ERR, []⟩, true) := by decide +kernel
def lockedS (x : Bool) : State := { bridgeS with bridge := ⟨[], some (.sch, x)⟩ }
theorem test_bridge_lock : got (.bbLockBreak 0x20000000) (lockedS true) (fun t => (t.bridge.lock, t.resp.status, t.flag F.BB_ERR_LOCK_BROKEN)) =
    (none, 0, true) ∧ (after (.bbLockBreak 0x20000000) (lockedS false)).resp.status = stFABRIC_ERR := by decide +kernel
theorem test_cabin_timeout : got (.cabinBusTimeout .sch true 0x20000100) bridgeS (fun t => (t.resp, t.flag F.BB_ERR_TIMEOUT)) = (⟨stFABRIC_ERR, []⟩, true) ∧
    Report.irq "CABIN_MONITOR" 0x20000100 ∈ (after (.cabinBusTimeout (.isl 0) false 0x20000100) bridgeS).out := by decide +kernel
theorem test_outbound : beyondIsland 0x100000000 = true ∧
    (after (.bbOutboundAccess (.isl 0) false 0x100000000 1 []) (withBytes 0x100000000 [3] on)).resp = ⟨0, [3]⟩ ∧
    (after (.bbOutboundAccess (.isl 0) true 0x100000000 0 [4]) on).mem.read 0x100000000 = 4 ∧
    (after (.bbOutboundAccess (.isl 0) false 0x100000000 1 []) (without 61)).resp = ⟨stFABRIC_ERR, []⟩ := by decide +kernel
/-- The switch and ports 0, 1, 9, 10, 11 enabled, not VLAN-aware. -/
def swS : State := [0, 1, 9, 10, 11].foldl (fun (s : State) p => s.put F.SW_P_CFG_EN p 0 1) (on.put0 F.SW_CTRL_EN 1)
/-- A frame from 02-00-00-00-00-07 to `dst`. -/
def frameTo (dst : Nat) : List Byte := leBytes dst 6 ++ [2, 0, 0, 0, 0, 7] ++ [8, 0] ++ List.replicate 46 9
theorem test_switch_floods : swS.swPort 0 = true ∧ (frameTo 5).length = 60 ∧
    got (.switchFrameReceive 0 (frameTo 6) false 2) swS (fun t => (t.sw.out.map (fun e => e.1), t.sw.fdb, t.sw.toMac.length)) =
      ([9], [(0, [2, 0x0700, 1, 0])], 1) ∧
    (after (.switchFrameReceive 0 (frameTo 6) true 0) swS).rd F.SW_P_CNT_CNT 0 24 = 1 := by decide +kernel
/-- A station learned behind port 9 is reached there alone; a frame longer than 9,216 bytes is not taken; a VLAN without the port drops. -/
theorem test_switch_forwards : got (.switchFrameReceive 0 (frameTo 6) false 0) ({ swS with sw := { swS.sw with fdb := [(3, fdbWords 6 0 512)] } } : State)
      (fun t => (t.sw.out.map (fun e => e.1), t.sw.toMac.length)) = (if (swS.rd F.SW_P_CFG_VID 0) = 0 then [9] else [9, 1], if (swS.rd F.SW_P_CFG_VID 0) = 0 then 0 else 1) ∧
    (after (.switchFrameReceive 0 (List.replicate 9217 0) false 0) swS).sw.out = [] ∧
    got (.switchFrameReceive 0 (frameTo 6) false 0) (swS.put0 F.SW_CTRL_VLAN_AWARE 1) (fun t => (t.sw.out.length, t.sw.fdb.length)) = (0, 0) := by
  decide +kernel
/-- The fabric port's ring of two descriptors: the first, owned by the hardware and the last of its frame, holds a frame. -/
def swFabS : State :=
  let s := ((swS.put0 F.SW_FAB_TX_BASE_BASE 0x1000).put0 F.SW_FAB_TX_LEN_LEN 2).put0 F.SW_FAB_TX_TAIL_TAIL 1
  withBytes 0x100002000 (frameTo 6) (withBytes 0x100001000 (leBytes 0x2000 4 ++ leBytes 60 2 ++ leBytes 0xC000 2) s)
theorem test_fabric_port : got (.switchFrameReceive 10 [] false 0) swFabS (fun t => (t.rd F.SW_FAB_TX_HEAD_HEAD, t.sw.out.map (fun e => e.1))) = (1, [9, 1, 0]) := by
  decide +kernel
/-- The tables: index 8191, VID 4095; static entries stay at a flush; words of a key read 0. -/
def fdbS : State := { (List.range 4).foldl (fun (s : State) i => s.put F.SW_FDB_DATA_DATA i 0 (i + 1)) swS with
  sw := { swS.sw with
    fdb := [(8191, [9, 8, 7, 1]), (2, [1, 1, 1, 0])]
    vlan := [(4095, 77), (1, 5)] } }
theorem test_fdb : got (.fdbRead .sec 8191) fdbS (fun t => (t.rd F.SW_FDB_DATA_DATA 0, t.rd F.SW_FDB_DATA_DATA 3)) = (9, 1) ∧
    (after (.fdbWrite (.isl 0) 8191) fdbS).sw.fdb = [(8191, [1, 2, 3, 4]), (2, [1, 1, 1, 0])] ∧
    (after (.fdbDelete .sec 2) fdbS).sw.fdb = [(8191, [9, 8, 7, 1])] ∧ (after (.fdbFlush .sec 0) fdbS).sw.fdb = [(8191, [9, 8, 7, 1])] := by decide +kernel
theorem test_vlan : (after (.vlanRead .sec 4095) fdbS).regVal R.SW_VLAN_DATA 0 0 = 77 ∧ (after (.vlanDelete .sec 1) fdbS).sw.vlan = [(4095, 77)] ∧
    (after (.vlanWrite .sec 1) (fdbS.setReg R.SW_VLAN_DATA 0 0 6)).sw.vlan = [(1, 6), (4095, 77)] ∧ (after (.vlanFlush .sec 0) fdbS).sw.vlan = [] := by
  decide +kernel
def saS : State := { swS with sw := { swS.sw with tables := [((4, 8191), (List.range 16).map (fun i => i + 100)), ((0, 1), [5])] } }
theorem test_tables : got (.switchTableCommand .sec 4 0 8191) saS (fun t => (t.regVal R.SW_SEC_SA_DATA 10 0, t.regVal R.SW_SEC_SA_DATA 11 0)) = (0, 111) ∧
    (after (.switchTableCommand .sec 4 2 8191) saS).sw.tables = [((0, 1), [5])] ∧ (after (.switchTableCommand .sec 0 3 0) saS).sw.tables.length = 1 ∧
    (after (.switchTableCommand .sec 0 1 1) (saS.setReg R.SW_SF_DATA 0 0 8)).sw.tables.head? = some ((0, 1), [8, 0, 0, 0, 0, 0, 0, 0]) := by decide +kernel
def gclS : State := (after (.gclChange .sec 11) (swS.put F.SW_P_GCL_BASE_TIME 11 0 50)).setReg R.SW_P_GCL_ADMIN 11 255 3
theorem test_gcl : bit gclS.sw.gcl 11 = true ∧ gclS.flag F.SW_P_GCL_CHANGE_GO 11 = true ∧ bit (after (.gclSwitch 11) gclS).sw.gcl 11 = true ∧
    got (.gclSwitch 11) ({ gclS with mtu := 50 * 2 ^ 32 } : State) (fun t => (t.regVal R.SW_P_GCL_OPER 11 255, t.sw.gcl, t.flag F.SW_P_GCL_CHANGE_GO 11)) =
      (3, 0, false) := by decide +kernel
/-- The island MAC: a receive ring of one descriptor in the island SRAM; a full ring drops. -/
def ethS : State :=
  let s := ((((swS.put0 F.SEC_CFG_MODE 0).put0 F.ETH_CFG_EN 1).put0 F.ETH_CFG_PROMISC 1).put0 F.ETH_RX_BASE_BASE 0x10000000).put0 F.ETH_RX_LEN_LEN 2
  { s with sw := { s.sw with toMac := [(42, [1, 2, 3]), (43, [4])] } }
def rxDesc (s : State) : State := withBytes 0x10000000 (leBytes 0x10000100 4 ++ leBytes 64 2 ++ leBytes 0x8000 2) s
theorem test_eth_receive : got .ethFrameReceive (rxDesc ethS) (fun t => (t.mem.readBytes 0x10000100 3, t.rd F.ETH_RX_HEAD_HEAD, t.rd F.ETH_IRQ_IRQ, t.sw.toMac)) =
      ([1, 2, 3], 1, 1, [(43, [4])]) ∧
    got .ethFrameReceive ethS (fun t => (t.rd F.ETH_RX_DROP_CNT, t.rd F.ETH_IRQ_IRQ, t.sw.toMac.length)) = (1, 4, 1) ∧
    got .ethFrameReceive (rxDesc (ethS.put0 F.ETH_CFG_EN 0)) (fun t => (t.sw.toMac.length, t.rd F.ETH_IRQ_IRQ)) = (1, 0) := by decide +kernel
def ethTxS : State :=
  let s := ((ethS.put0 F.ETH_TX_BASE_BASE 0x10001000).put0 F.ETH_TX_LEN_LEN 2).put0 F.ETH_TX_TAIL_TAIL 1
  withBytes 0x10002000 (frameTo 6) (withBytes 0x10001000 (leBytes 0x10002000 4 ++ leBytes 60 2 ++ leBytes 0xC000 2) s)
theorem test_eth_send : got (.ethFrameSend false 0) ethTxS (fun t => (t.rd F.ETH_TX_HEAD_HEAD, t.sw.out.map (fun e => e.1), t.rd F.ETH_IRQ_IRQ)) =
    (1, [9, 1, 0], 2) := by decide +kernel

/-- The Trestle link, up or down, in a role. -/
def trsS (role : Nat) (up : Bool) (f : Trs → Trs) : State :=
  let s := ((on.put0 F.TRS_STAT_ROLE role).put0 F.TRS_STAT_LINK_UP (b2n up)).put0 F.TRS_CFG_EN 1
  { s with
    trs := f s.trs
    boot := { s.boot with config := leBytes (2 ^ 27) 64 } }
def roleOf (s : State) : Nat := s.rd F.TRS_STAT_ROLE
theorem test_heartbeat : (trsS 2 true id).trsUp = true ∧ (after .trestleHeartbeatSend (trsS 2 true id)).trs.out.map (fun p => p.1) = [0] ∧
    (trsS 1 true id).decides = true ∧ roleOf (after (.trestleFrameReceive 0 (.heartbeat 2 0 true) true) (trsS 1 true id)) = 2 ∧
    roleOf (after (.trestleFrameReceive 0 (.heartbeat 2 0 false) true) (trsS 1 true id)) = 1 ∧
    (after (.trestleFrameReceive 5 (.heartbeat 2 0 true) true) (trsS 1 true id)).trs.rxSeq = 0 := by decide +kernel
/-- A bad frame is asked for again; the fourth failure takes the link down (13 R450, R455). -/
theorem test_bad_frames : got (.trestleFrameReceive 0 (.image []) false) (trsS 1 true (fun t => { t with fails := 2 })) (fun t => (t.trs.fails,
      t.trs.out)) = (3, [(0, .again 0)]) ∧
    got (.trestleFrameReceive 0 (.image []) false) (trsS 1 true (fun t => { t with fails := 3, silent := false })) (fun t => (t.flag F.TRS_STAT_LINK_UP, roleOf t,
      t.flag F.TRS_STAT_SPLIT)) = (false, 1, true) ∧
    roleOf (after .trestleLinkDown (trsS 1 true (fun t => { t with silent := true }))) = 2 ∧
    roleOf (after .trestleLinkDown (trsS 2 true (fun t => { t with silent := true }))) = 2 ∧
    (after (.trestleFrameReceive 0 (.again 7) true) (trsS 2 true (fun t => { t with out := [(7, .again 1)] }))).trs.out.length = 2 := by decide +kernel
/-- Image bytes go behind the earlier ones of the half that is not the latest. -/
def rxS : State := ((trsS 1 true (fun t => { t with rx := some [1] })).put0 F.TRS_RXBUF_ADDR 0x100000000).takeEffect R.TRS_RXBUF
theorem test_image : got (.trestleFrameReceive 0 (.image [5, 6]) true) rxS (fun t => (t.trs.rx, t.mem.readBytes (0x100000001 + rxS.rxHalf * 2 ^ 20) 2)) =
      (some [1, 5, 6], [5, 6]) ∧
    got (.mirrorImageComplete true) rxS (fun t => (t.trs.rx, t.rd F.TRS_STAT_RX_HALF)) = (none, rxS.rxHalf) ∧
    got (.mirrorImageComplete false) rxS (fun t => (t.trs.rx, t.rd F.TRS_STAT_MIRROR_LATE)) = (none, 1) := by decide +kernel
/-- Roles: PRIMARY active unless the partner is; without a link after the timeout; a SECONDARY that sees an edge is standby. -/
theorem test_roles : (trsS 0 false id).trsEnabled = true ∧ roleOf (after (.trestleLinkUp 0) (trsS 0 false id)) = 2 ∧
    roleOf (after (.trestleLinkUp 2) (trsS 0 false id)) = 1 ∧
    roleOf (after (.trestleLinkUp 1) (trsS 0 false (fun t => { t with primary := false }))) = 1 ∧
    got .roleDecisionTimeout (trsS 0 false id) (fun t => (roleOf t, t.flag F.TRS_STAT_ALONE)) = (2, true) ∧
    (after .roleDecisionTimeout (trsS 0 false (fun t => { t with primary := false }))).trs.watch = true ∧
    got .partnerAliveEdge (trsS 0 false (fun t => { t with primary := false, watch := true })) (fun t => (roleOf t, t.trs.watch, t.flag F.TRS_STAT_SPLIT)) =
      (1, false, true) ∧
    (after .partnerAliveEdge (trsS 1 true (fun t => { t with silent := true }))).trs.silent = false := by decide +kernel
theorem test_silent : roleOf (after .partnerSilent (trsS 1 false id)) = 2 ∧
    got .partnerSilent (trsS 1 true id) (fun t => (roleOf t, t.flag F.TRS_STAT_WIRE)) = (1, true) ∧
    (after .partnerSilent (trsS 2 true id)).trs.silent = true := by decide +kernel
/-- Mirror lists at 0x100000000: one section of type 4; one of 2^20 bytes, and one of 2^20 + 1 that is refused (13 R453). -/
def mirrorList (e : List Byte) : State := withBytes 0x100000000 e (((trsS 2 true id).put0 F.TRS_MIRROR_ADDR 0x100000000).takeEffect R.TRS_MIRROR)
theorem test_mirror_send : (after .mirrorImageSend (mirrorList (leBytes 0 12 ++ [4]))).trs.out = [(0, .image (leBytes (on.regVal R.ARB_STATUS 0 0) 4 ++
      leBytes (on.regVal R.ARB_DOUBT 0 0) 4))] ∧
    got .mirrorImageSend (mirrorList (leBytes 0x100001000 8 ++ leBytes (2 ^ 20 + 1) 4 ++ [1])) (fun t => (t.trs.out.length, t.flag F.TRS_STAT_LIST_ERR)) =
      (0, true) ∧
    got .mirrorImageSend (mirrorList (leBytes 0x100001000 8 ++ leBytes 4097 4 ++ [1])) (fun t => (t.trs.txSeq, t.trs.out.length)) = (2, 2) := by decide +kernel
/-- A list of one section of 4097 bytes at 0x100001000 that is read in full. -/
def mirrorS : State := mirrorList (leBytes 0x100001000 8 ++ leBytes 4097 4 ++ [1])
theorem test_mirror_send_served : mirrorS.mainClk = true ∧ mirrorS.pd 60 = true ∧ mirrorS.flag F.TRS_STAT_LINK_UP = true ∧ mirrorS.role = 2 ∧
    mirrorS.flag F.TRS_CFG_EN = true ∧ mirrorS.rdE F.TRS_MIRROR_ADDR = 0x100000000 ∧ mirrorS.Serves (.port 37) false 0x100000000 128 ∧
    ((List.range 8).map (fun i => mirrorS.mem.readNat (0x100000000 + 16 * i + 12) 1)) = [1, 0, 0, 0, 0, 0, 0, 0] ∧
    (mirrorS.mem.readNat 0x100000000 8, mirrorS.mem.readNat 0x100000008 4) = (0x100001000, 4097) ∧
    mirrorS.Serves (.port 37) false 0x100001000 4097 :=
  ⟨by decide +kernel, by decide +kernel, by decide +kernel, by decide +kernel, by decide +kernel, by decide +kernel, serves_of (by decide +kernel),
    by decide +kernel, by decide +kernel, serves_of (by decide +kernel)⟩
/-- SHA-512 of "abc" (FIPS 180-4's example). -/
theorem test_sha512 : ofBytesBE (sha512 [0x61, 0x62, 0x63]) =
    0xddaf35a193617abacc417349ae20413112e6fa4e89a97ea20a9eeee64b55d39a2192992a274fc1a836ba3c23a3feebbd454d4423643ce80e2a9ac94fa54ca49f := by
  decide +kernel
/-- A key blob of the form of 14 R490. -/
def rsaKey : List Byte := beBytes (2 ^ 4095 + 1) 512 ++ beBytes 65537 4 ++ List.replicate 12 0
theorem test_blob : blobOk rsaKey = true ∧ blobOk (beBytes (2 ^ 4095 - 1) 512 ++ rsaKey.drop 512) = false ∧
    blobOk (rsaKey.take 512 ++ beBytes 65539 4 ++ rsaKey.drop 516) = false := by decide +kernel

/-- A request record of a service, TAG 5, answered at 0x100100000; mailbox 2 is SCH's, 3 the host's. -/
def reqRec (code : Nat) (args : List Byte) : List Byte :=
  leBytes code 1 ++ [0, 0, 0, 5, 0, 0, 0] ++ leBytes 0x100100000 8 ++ args ++ List.replicate (48 - args.length) 0
def boxed (n : Fin 4) (code : Nat) (args : List Byte) (s : State) : State := s.setQueue n [⟨0x100000000, reqRec code args⟩]
/-- What was answered: TAG, status, VALUE, and how many requests are left. -/
def answered (n : Fin 4) (s : State) : Nat × Nat × Nat × Nat :=
  (s.mem.readNat 0x100100000 4, s.mem.readNat 0x100100004 1, s.mem.readNat 0x100100008 4, (vget s.sec.queues n).length)
def boxFill (k : Nat) : State := withBytes 0x100000000 (reqRec 1 []) (on.setQueue 2 (List.replicate k ⟨0x100000000, reqRec 1 []⟩))
theorem test_mailbox : on.ownsMbox .sch 2 = true ∧ on.ownsMbox .sch 3 = false ∧ (after (.secMboxReq .sch 3 0x100000000) (boxFill 0)).sec = (boxFill 0).sec ∧
    (vget (after (.secMboxReq .sch 2 0x100000000) (boxFill 15)).sec.queues 2).length = 16 ∧
    got (.secMboxReq .sch 2 0x100000000) (boxFill 16) (fun t => ((vget t.sec.queues 2).length, t.flag F.SEC_MBOX_STAT_OVF 2)) = (16, true) ∧
    (vget (after (.secMboxReq .sch 7 0x100000000) (boxFill 0)).sec.queues 2).length = 0 := by decide +kernel
/-- HASH: what it reads; a range that does not exist; a Normal request for a Secure service. -/
def abcS : State := withBytes 0x100002000 [0x61, 0x62, 0x63] on
def served (x : SvcRes) : Nat × Nat := (x.st, x.value)
theorem test_hash : (abcS.argRead 2 0x100002000 3).2 = some [0x61, 0x62, 0x63] ∧
    answered 2 (after (.hash 2) (boxed 2 1 (leBytes 0x70000000 8 ++ leBytes 3 4) abcS)) = (5, svBAD_REQUEST, 0, 0) ∧
    answered 2 (after (.verify 2) (boxed 2 1 [] abcS)) = (0, 0, 0, 1) := by decide +kernel
theorem test_denied : answered 3 (after (.wrap 3) (boxed 3 3 [] on)) = (5, svDENIED_WORLD, 0, 0) ∧
    answered 3 (after (.counterCommit 3) (boxed 3 10 [] on)) = (5, svDENIED_WORLD, 0, 0) := by decide +kernel
/-- The blob of the modulus 2^4095 and the exponent 65537; a signature of zeros. -/
def verifyS (key : List Byte) : State := boxed 3 2 (leBytes 0x100002000 8 ++ leBytes 0x100003000 8 ++ leBytes 0x100004000 8)
  (withBytes 0x100002201 [1, 0, 1] (withBytes 0x100002000 key on))
theorem test_verify : answered 3 (after (.verify 3) (verifyS [128])) = (5, svVERIFY_FAIL, 0, 0) ∧
    answered 3 (after (.verify 3) (verifyS [127])) = (5, svBAD_REQUEST, 0, 0) := by decide +kernel
/-- WRAP and UNWRAP at the ends of their lengths, and without an identity. -/
def wrapArgs (len : Nat) : List Byte := leBytes 0x100002000 8 ++ leBytes len 4 ++ leBytes 0x100003000 8 ++ leBytes 0x100004000 8
theorem test_wrap_lengths : (answered 2 (after (.wrap 2) (boxed 2 3 (wrapArgs 0) on))).2.1 = svBAD_REQUEST ∧
    (answered 2 (after (.wrap 2) (boxed 2 3 (wrapArgs 4097) on))).2.1 = svBAD_REQUEST ∧
    (answered 2 (after (.unwrap 2) (boxed 2 4 (wrapArgs 15) on))).2.1 = svBAD_REQUEST ∧
    (answered 2 (after (.wrap 2) (boxed 2 3 (wrapArgs 4096) (on.put0 F.SEC_STATUS_NO_IDENTITY 1)))).2.1 = svNO_IDENTITY := by decide +kernel
theorem test_quote : answered 3 (after (.quote 3) (boxed 3 5 (leBytes 0x100002000 8 ++ leBytes 0x100003000 8 ++ leBytes 100 4) (on.put0 F.SEC_STATUS_NO_IDENTITY 0))) =
      (5, svBUFFER_SHORT, 0, 0) ∧
    answered 3 (after (.quote 3) (boxed 3 5 [] (on.put0 F.SEC_STATUS_NO_IDENTITY 1))) = (5, svNO_IDENTITY, 0, 0) := by decide +kernel
/-- Lockers: one page of code, sealed as Locker 0; an unaligned one; Lockers off; freed, and busy while bound. -/
def sealArgs (base : Nat) : List Byte := leBytes base 8 ++ leBytes 1 4 ++ leBytes 0 4 ++ leBytes 0x100005000 8
def lkrS : State := on.put0 F.SEC_CFG_MODE 2
theorem test_locker_seal : lkrS.lkrOn = true ∧ (lkrS.sealLocker 0x100010000 1 0).2.1 = svOK ∧
    (lkrS.sealLocker 0x100010000 1 0).1.lockerSpan 0 = (0x100010000, 0x100010000, 0x100011000) ∧
    answered 2 (after (.lockerSeal 2) (boxed 2 6 (sealArgs 0x100010001) lkrS)) = (5, svBAD_REQUEST, 0, 0) ∧
    answered 2 (after (.lockerSeal 2) (boxed 2 6 (sealArgs 0x100010000) (on.put0 F.SEC_CFG_MODE 1))) = (5, svBAD_REQUEST, 0, 0) := by decide +kernel
def allLockers : State := (List.range 16).foldl (fun (s : State) k => s.put F.SEC_LKR_BASE_VALID k 0 1) lkrS
theorem test_locker_full : answered 2 (after (.lockerSeal 2) (boxed 2 6 (sealArgs 0x100010000) allLockers)) = (5, svLOCKER_FULL, 0, 0) := by decide +kernel
def locker15 : State := withBytes 0x100020000 [7] (((lkrS.put F.SEC_LKR_BASE_VALID 15 0 1).put F.SEC_LKR_BASE_BASE 15 0 0x100020).put F.SEC_LKR_SIZE_SIZE 15 0 1)
theorem test_locker_free : answered 2 (after (.lockerFree 2) (boxed 2 7 (leBytes 15 4) locker15)) = (5, 0, 15, 0) ∧
    got (.lockerFree 2) (boxed 2 7 (leBytes 15 4) locker15) (fun t => (t.flag F.SEC_LKR_BASE_VALID 15, t.mem.read 0x100020000)) = (false, 0) ∧
    answered 2 (after (.lockerFree 2) (boxed 2 7 (leBytes 16 4) locker15)) = (5, svBAD_REQUEST, 0, 0) ∧
    answered 2 (after (.lockerFree 2) (boxed 2 7 (leBytes 15 4) ((locker15.put F.SEC_CAB_LKR_VALID 7 0 1).put F.SEC_CAB_LOCKER 7 0 15))) =
      (5, svLOCKER_BUSY, 0, 0) := by decide +kernel
def bindArgs (c : Nat) : List Byte := leBytes c 4 ++ leBytes 1 4 ++ leBytes 1 4 ++ leBytes 15 4
theorem test_bind : got (.bindCabinet 2) (boxed 2 8 (bindArgs 7) on) (fun t => (t.rd F.SEC_CAB_SECURE 7, t.rd F.SEC_CAB_LKR_VALID 7, t.rd F.SEC_CAB_LOCKER 7)) =
      (1, 1, 15) ∧ answered 2 (after (.bindCabinet 2) (boxed 2 8 (bindArgs 8) on)) = (5, svBAD_REQUEST, 0, 0) ∧
    answered 0 (after (.bindCabinet 0) (boxed 0 8 (bindArgs 7) on)) = (5, svBAD_REQUEST, 0, 0) := by decide +kernel
/-- Counters: 31 is the certificate's serial; 4 is raised to the lowest SVN that names it, never lowered. -/
def rpmbS (old : Nat) : State :=
  let s := (on.put0 F.SEC_STATUS_ROLLBACK_ABSENT 0).put0 F.SEC_STATUS_ROLLBACK_FAILED 0
  let s := withBytes (rpmbBase + 16) (leBytes old 4) s
  { s with sec := { s.sec with
    svns := [(4, 9), (4, 6)]
    serial := some 3 } }
theorem test_counter_commit : (rpmbS 0).rpmbOn = true ∧ (rpmbS 0).commitTo 4 = some 6 ∧
    got (.counterCommit 2) (boxed 2 10 (leBytes 4 4) (rpmbS 5)) (fun t => t.rollback 4) = 6 ∧
    got (.counterCommit 2) (boxed 2 10 (leBytes 4 4) (rpmbS 7)) (fun t => t.rollback 4) = 7 ∧
    got (.counterCommit 2) (boxed 2 10 (leBytes 31 4) (rpmbS 7)) (fun t => t.rollback 31) = 3 ∧
    answered 2 (after (.counterCommit 2) (boxed 2 10 (leBytes 32 4) (rpmbS 7))) = (5, svBAD_REQUEST, 0, 0) ∧
    answered 2 (after (.counterCommit 2) (boxed 2 10 (leBytes 4 4) ((rpmbS 7).put0 F.SEC_STATUS_ROLLBACK_ABSENT 1))) = (5, svNO_RPMB, 0, 0) ∧
    (rpmbS 0).commitTo 5 = none := by decide +kernel
theorem test_counter_read : served (svcCounterRead 3 (rpmbS 5) ⟨0, reqRec 9 (leBytes 0x100003000 8)⟩) = (svOK, 128) ∧
    answered 3 (after (.counterRead 3) (boxed 3 9 (leBytes 0x100003000 8) ((rpmbS 7).put0 F.SEC_STATUS_ROLLBACK_FAILED 1))) =
      (5, svNO_RPMB, 0, 0) := by decide +kernel
def logS : State := { on with sec := { on.sec with log := [⟨0xF1, 3, 0, 0, []⟩] } }
theorem test_log_read : answered 3 (after (.logRead 3) (boxed 3 11 (leBytes 0x100003000 8 ++ leBytes 79 4) logS)) = (5, svBUFFER_SHORT, 0, 0) ∧
    served (svcLogRead 3 logS ⟨0, reqRec 11 (leBytes 0x100003000 8 ++ leBytes 80 4)⟩) = (svOK, 80) ∧
    answered 3 (after (.logRead 3) (boxed 3 11 (leBytes 0x100003000 8) on)) = (5, 0, 0, 0) := by decide +kernel
/-- A hung HASH service: its request and the Normal ones of its code complete, and the service is down until it is back. -/
def hungS : State := (boxed 2 1 [] on).setQueue 3 [⟨0, reqRec 1 []⟩, ⟨0, reqRec 2 []⟩]
theorem test_service_hang : got (.serviceHang 2) hungS (fun t => (answered 2 t, t.sec.down, (vget t.sec.queues 3).map (fun q => q.code))) =
      ((5, svUNAVAILABLE, 0, 0), 2, [2]) ∧
    (after (.serviceRestartDone 1) (after (.serviceHang 2) hungS)).sec.down = 0 ∧ (after (.serviceRestartDone 2) hungS).sec.down = 0 := by decide +kernel
theorem test_core_restart : got (.secCoreWatchdog 4 false) hungS (fun t => (t.sec.restarting, t.rd F.SEC_STATUS_RESTARTS, (vget t.sec.queues 2).length,
      (vget t.sec.queues 3).length)) = (true, 1, 0, 0) ∧
    (vget (after (.secCoreWatchdog 0 false) hungS).sec.queues 2).length = 1 ∧
    (after (.secCoreWatchdog 0 true) (hungS.put0 F.SEC_STATUS_RESTARTS 1)).flag F.SEC_STATUS_HALTED = false ∧
    (after (.secCoreWatchdog 0 true) (hungS.put0 F.SEC_STATUS_RESTARTS 2)).flag F.SEC_STATUS_HALTED = true ∧
    (after .secWarmRestartDone (after (.secCoreWatchdog 0 false) hungS)).sec.restarting = false ∧
    (after .secWarmRestartDone (after (.secCoreWatchdog 0 true) (hungS.put0 F.SEC_STATUS_RESTARTS 2))).sec.restarting = true := by decide +kernel
/-- The conditions of `Served` from what is decided of a concrete state. -/
theorem served_of {s : State} {n : Fin 4} {code : Nat} {q : SecReq} {rest : List SecReq}
    (h : s.mainClk = true ∧ (s.sec.restarting = false ∧ s.flag F.SEC_STATUS_HALTED = false) ∧ bit s.sec.down code = false ∧
      vget s.sec.queues n = q :: rest ∧ q.code = code ∧ (code ∈ [3, 4, 6, 7, 8, 10] → mboxWorld n = true)) : Served s n code q rest :=
  ⟨h.1, h.2.1, h.2.2.1, h.2.2.2.1, h.2.2.2.2.1, h.2.2.2.2.2⟩
/-- Requests that are served in full: HASH, VERIFY, WRAP, UNWRAP, QUOTE and the LOCKER services. -/
def reqOf (code : Nat) (args : List Byte) : SecReq := ⟨0x100000000, reqRec code args⟩
def hashArgs (n : Nat) : List Byte := leBytes 0x100002000 8 ++ leBytes n 4 ++ leBytes 0x100003000 8
theorem test_hash_served : Served (boxed 3 1 (hashArgs 3) abcS) 3 1 (reqOf 1 (hashArgs 3)) [] ∧
    (boxed 3 1 (hashArgs 3) abcS).Serves (.mbox false) false 0x100002000 3 ∧
    (boxed 3 1 (hashArgs 3) abcS).Serves (.mbox false) true 0x100003000 64 ∧
    (reqOf 1 (hashArgs 3)).arg 8 4 = 3 ∧ (reqOf 1 (hashArgs 0)).arg 8 4 = 0 :=
  ⟨served_of (by decide +kernel), serves_of (by decide +kernel), serves_of (by decide +kernel), by decide +kernel⟩
theorem test_mailbox_served : (boxFill 15).Serves (.mbox true) false 0x100000000 64 ∧ on.Serves (.mbox false) false 0x100000000 64 :=
  ⟨serves_of (by decide +kernel), serves_of (by decide +kernel)⟩
def verifyArgs : List Byte := leBytes 0x100002000 8 ++ leBytes 0x100003000 8 ++ leBytes 0x100004000 8
theorem test_verify_served : Served (verifyS [128]) 3 2 (reqOf 2 verifyArgs) [] ∧ (verifyS [128]).Serves (.mbox false) false 0x100002000 528 ∧
    (verifyS [128]).Serves (.mbox false) false 0x100003000 64 ∧ (verifyS [128]).Serves (.mbox false) false 0x100004000 512 ∧
    blobOk ((verifyS [128]).mem.readBytes 0x100002000 528) = true :=
  ⟨served_of (by decide +kernel), serves_of (by decide +kernel), serves_of (by decide +kernel), serves_of (by decide +kernel), by decide +kernel⟩
def wrapS (code len : Nat) : State := boxed 2 code (wrapArgs len) ((on.put0 F.SEC_STATUS_NO_IDENTITY 0).put0 F.SEC_CFG_MODE 0)
theorem test_wrap_served : Served (wrapS 3 8) 2 3 (reqOf 3 (wrapArgs 8)) [] ∧ (wrapS 3 8).flag F.SEC_STATUS_NO_IDENTITY = false ∧
    (wrapS 3 8).Serves (.mbox true) false 0x100002000 8 ∧ (wrapS 3 8).Serves (.mbox true) false 0x100003000 32 ∧
    ∀ n, n ≤ 4112 → (wrapS 3 8).Serves (.mbox true) true 0x100004000 n :=
  ⟨served_of (by decide +kernel), by decide +kernel, serves_of (by decide +kernel), serves_of (by decide +kernel), serves_run (by decide +kernel)⟩
theorem test_unwrap_served : Served (wrapS 4 16) 2 4 (reqOf 4 (wrapArgs 16)) [] ∧ (reqOf 4 (wrapArgs 16)).arg 8 4 = 16 ∧
    (wrapS 4 16).flag F.SEC_STATUS_NO_IDENTITY = false ∧
    (wrapS 4 16).Serves (.mbox true) false 0x100002000 16 ∧ (wrapS 4 16).Serves (.mbox true) false 0x100003000 32 ∧
    ∀ n, n ≤ 4096 → (wrapS 4 16).Serves (.mbox true) true 0x100004000 n :=
  ⟨served_of (by decide +kernel), by decide +kernel, by decide +kernel, serves_of (by decide +kernel), serves_of (by decide +kernel),
    serves_run (by decide +kernel)⟩
def quoteArgs (len : Nat) : List Byte := leBytes 0x100002000 8 ++ leBytes 0x100003000 8 ++ leBytes len 4
def quoteS : State := boxed 3 5 (quoteArgs 4096) (on.put0 F.SEC_STATUS_NO_IDENTITY 0)
theorem test_quote_served : Served quoteS 3 5 (reqOf 5 (quoteArgs 4096)) [] ∧ quoteS.flag F.SEC_STATUS_NO_IDENTITY = false ∧
    quoteS.Serves (.mbox false) false 0x100002000 32 ∧
    let n := (quoteS.quoteHeader (quoteS.mem.readBytes 0x100002000 32) ++ quoteS.logBytes).length + 512
    n ≤ (reqOf 5 (quoteArgs 4096)).arg 16 4 ∧ quoteS.Serves (.mbox false) true 0x100003000 n :=
  ⟨served_of (by decide +kernel), by decide +kernel, serves_of (by decide +kernel), by decide +kernel, serves_of (by decide +kernel)⟩
theorem test_lockers_served : Served (boxed 2 6 (sealArgs 0x100010000) lkrS) 2 6 (reqOf 6 (sealArgs 0x100010000)) [] ∧
    lkrS.lockerOk 0x100010000 1 0 = true ∧ lkrS.sec.log.length < 256 ∧ lkrS.flag F.SEC_LKR_BASE_VALID 0 = false ∧
    Served (boxed 2 7 (leBytes 15 4) locker15) 2 7 (reqOf 7 (leBytes 15 4)) [] ∧ locker15.flag F.SEC_LKR_BASE_VALID 15 = true ∧
    ∀ k, k < 8 → locker15.flag F.SEC_CAB_LKR_VALID k = true → locker15.rd F.SEC_CAB_LOCKER k ≠ 15 :=
  ⟨served_of (by decide +kernel), by decide +kernel, by decide +kernel, by decide +kernel, served_of (by decide +kernel), by decide +kernel,
    by decide +kernel⟩
theorem test_bind_served : Served (boxed 2 8 (bindArgs 7) on) 2 8 (reqOf 8 (bindArgs 7)) [] ∧ on.flag F.SCH_CAB_CFG_EN 7 = false :=
  ⟨served_of (by decide +kernel), by decide +kernel⟩
theorem test_counters_served : Served (boxed 3 9 (leBytes 0x100003000 8) (rpmbS 5)) 3 9 (reqOf 9 (leBytes 0x100003000 8)) [] ∧
    (boxed 3 9 (leBytes 0x100003000 8) (rpmbS 5)).Serves (.mbox false) true 0x100003000 128 ∧
    Served (boxed 2 10 (leBytes 31 4) (rpmbS 5)) 2 10 (reqOf 10 (leBytes 31 4)) [] ∧ (rpmbS 5).sec.serial = some 3 ∧
    (rpmbS 5).flag F.SEC_STATUS_ROLLBACK_ABSENT = false ∧ (rpmbS 5).flag F.SEC_STATUS_ROLLBACK_FAILED = false ∧
    Served (boxed 2 10 (leBytes 4 4) (rpmbS 5)) 2 10 (reqOf 10 (leBytes 4 4)) [] ∧ (4, 6) ∈ (rpmbS 5).sec.svns ∧
    ∀ p ∈ (rpmbS 5).sec.svns, p.1 = 4 → 6 ≤ p.2 :=
  ⟨served_of (by decide +kernel), serves_of (by decide +kernel), served_of (by decide +kernel), by decide +kernel, by decide +kernel,
    by decide +kernel, served_of (by decide +kernel), by decide +kernel, by decide +kernel⟩
def logArgs : List Byte := leBytes 0x100003000 8 ++ leBytes 80 4
theorem test_log_served : Served (boxed 3 11 logArgs logS) 3 11 (reqOf 11 logArgs) [] ∧ logS.sec.log ≠ [] ∧ logS.logBytes.length = 80 ∧
    (boxed 3 11 logArgs logS).Serves (.mbox false) true 0x100003000 80 :=
  ⟨served_of (by decide +kernel), by decide +kernel, by decide +kernel, serves_of (by decide +kernel)⟩
theorem test_wrap_length : (keyWrap (wrapKey ((wrapS 3 8).mem.readBytes 0x100003000 32)) ((wrapS 3 8).mem.readBytes 0x100002000 8)).length ≤ 4112 := by
  decide +kernel
/-- A signature made with a private key by the procedure of RFC 8017 verifies under the public one (14 R490, R491): the message is the header
and 16 payload bytes of a model image; the modulus is the product of two primes. -/
def rootBlob : List Byte := beBytes ((2 ^ 2047 + 1919) * (2 ^ 2048 + 981)) 512 ++ beBytes 65537 4 ++ List.replicate 12 0
def modelHdr : List Byte := leBytes 0x4D495443 4 ++ leBytes 0x14 2 ++ [0, 0, 0, 0, 0, 0, 0xFF, 0, 0, 0] ++ leBytes 16 4 ++ List.replicate 12 0 ++
  leBytes 0x100100000 8 ++ List.replicate 24 0
def modelSig : List Byte :=
  beBytes 0x06d4657d81cd5bce3381a9d4184d4e733ba5884ed296ff07aae406770bfbbb2df61d2b93ca6c0957b3a03f3d10f414eb2087d6e6653a8a481dfb54f157c83b0a 64 ++
  beBytes 0xeed44aab8a77547104631036725b59ae1098ca850febc7a470a58ce224c76ef823386efcb3da60e047a87f7b9413e68ba1ca01d67bd3bc6b51c9d6bdbe0c4b1f 64 ++
  beBytes 0x3b69538bde533ed2cbbab72731f6309ae499951b21f887ad1be0fd3c2e391b107ba7145a1563159b97588bea6b2fd8730ead7e562958525a60bb3bc4257033b1 64 ++
  beBytes 0x6a9abdc6a2affcd7c5333a9bafc4423d6b748fa97e327e93612cf30e4db928e751b86f714219abc10013dd5e03be6e16265c25261a97208e19ea91c11e12334c 64 ++
  beBytes 0x3646e1c6882f8b2836473b3dbf1a3b75b2f1f1411ed0bee33913cf4c7fc80e4afae6f093aeac34cfcbfd5b9a2d4153e323d2f6a2fc018490cf215885fbea1de3 64 ++
  beBytes 0xf5da71aac6fdb86139f9c7457aa7781541583b61208f293bd8faffea8294df3139c07b8cbdfd7eee523aee12137131b621f61fac144461a12b310bd7cb5ca838 64 ++
  beBytes 0xa69c633bcdf78e5bf1d3be0a2f39c7d7bb190d505097c8545b0a0a41de4db52b57982c900a750a36eb2fb7b583040e100d6d8d496eb7a09e15fbf4f933f69eed 64 ++
  beBytes 0x1d43ae6f5447e5b8f000beed90e22c51c47f4edac3c550ae57f986e5acc89f51cab889f53f3bc6d62992db1de1f3de3e719cd899a32ca38adde213bf85f719f7 64
theorem test_signature : sigOk rootBlob (sha512 (modelHdr ++ List.replicate 16 0)) modelSig = true ∧
    hdrOk modelHdr = true ∧ (imgOf modelHdr).ty = 0x14 ∧ (imgOf modelHdr).len = 16 ∧ (imgOf modelHdr).load = 0x100100000 := by decide +kernel
/-- The xSPI controller idle and enabled: address, length. -/
def xspiS (a n : Nat) : State := ((on.put0 F.XSPI_CFG_EN 1).put0 F.XSPI_ADDR_ADDR a).put0 F.XSPI_LEN_LEN n
def xspi (s : State) : Bool × Bool × Bool × Nat := (s.flag F.XSPI_STAT_BUSY, s.flag F.XSPI_STAT_DONE, s.flag F.XSPI_STAT_PROT_REJ, s.rd F.XSPI_CMD_KIND)
/-- Programs below, at and above the protected span 0x10000 to 0x41FFFF; a program of no byte; an erase of the unit below and of the first in it. -/
theorem test_xspi_protected : got (.xspiProgram .sec 2) (xspiS 0xFFFF 1) xspi = (true, false, false, 2) ∧
    got (.xspiProgram .sec 2) (xspiS 0xFFFF 2) xspi = (false, true, true, 2) ∧ got (.xspiProgram .sec 2) (xspiS 0x41FFFF 1) xspi = (false, true, true, 2) ∧
    got (.xspiProgram .sec 2) (xspiS 0x420000 1) xspi = (true, false, false, 2) ∧ got (.xspiProgram .sec 2) (xspiS 0x20000 0) xspi = (true, false, false, 2) ∧
    got (.xspiErase .sec 2) ((xspiS 0xFFFF 0).put0 F.XSPI_ERASE_UNIT 16) xspi = (true, false, false, 3) ∧
    got (.xspiErase .sec 2) ((xspiS 0x10000 0).put0 F.XSPI_ERASE_UNIT 16) xspi = (false, true, true, 3) := by decide +kernel
theorem test_xspi_masters : got (.xspiRead (.isl 0) 3) (xspiS 0x20000 4) xspi = (true, false, false, 0) ∧
    got (.xspiWrite (.isl 1) 3) { xspiS 0 0 with isl := { on.isl with world := vmod on.isl.world 1 (fun _ => false) } } (fun t => (t.flag F.XSPI_STAT_REJ_MASTER,
      t.flag F.XSPI_STAT_BUSY)) = (true, false) ∧
    got (.xspiWrite .sec 3) (xspiS 0 0) xspi = (true, false, false, 1) ∧
    got (.xspiWrite .sec 3) ((xspiS 0 0).put0 F.XSPI_CFG_EN 0) xspi = (false, false, false, 0) := by decide +kernel
/-- A read fills the buffer; a program only clears bits; an erase gives ones. -/
def busyX (kind : Nat) : State := withBytes 0x90500000 [0xF0, 2, 3, 4, 5] (((xspiS 0x500000 4).put0 F.XSPI_CMD_KIND kind).put0 F.XSPI_STAT_BUSY 1)
theorem test_xspi_done : got .xspiDone (busyX 0) (fun t => (t.rd F.XSPI_DATA_DATA 0, t.flag F.XSPI_STAT_BUSY, t.flag F.XSPI_STAT_DONE)) =
      (0x040302F0, false, true) ∧
    (after .xspiDone ((busyX 2).put F.XSPI_DATA_DATA 0 0 0xFFFFFF3C)).mem.readBytes 0x90500000 5 = [0x30, 2, 3, 4, 5] ∧
    (after .xspiDone ((busyX 3).put0 F.XSPI_ERASE_UNIT 2)).mem.readBytes 0x90500000 5 = [0xFF, 0xFF, 0xFF, 0xFF, 5] ∧
    (after .xspiDone (busyX 1)).mem.read 0x90500000 = 0xF0 ∧ got .xspiDone (xspiS 0 0) xspi = (false, false, false, 0) := by decide +kernel
/-- The eMMC: the RPMB partition is SEC's, by CMD6 that selects it and by data commands to it. -/
def emmcS (arg part : Nat) : State := { (on.put0 F.EMMC_CFG_EN 1).put0 F.EMMC_ARG_ARG arg with boot := { on.boot with part := part } }
def emmc (s : State) : Bool × Bool × Nat := (s.flag F.EMMC_STAT_BUSY, s.flag F.EMMC_STAT_REJ, s.rd F.EMMC_CMD_INDEX)
theorem test_emmc_command : got (.emmcCommand .sch (17 * 2 ^ 24 + 2 ^ 23)) (emmcS 0 0) emmc = (true, false, 17) ∧
    got (.emmcCommand .sch (17 * 2 ^ 24 + 2 ^ 23)) (emmcS 0 3) emmc = (false, true, 0) ∧
    got (.emmcCommand .sec (17 * 2 ^ 24 + 2 ^ 23)) (emmcS 0 3) emmc = (true, false, 17) ∧
    got (.emmcCommand .sch (6 * 2 ^ 24)) (emmcS (179 * 2 ^ 16 + 3 * 2 ^ 8) 0) emmc = (false, true, 0) ∧
    got (.emmcCommand .sch 0) ((emmcS 0 0).put0 F.EMMC_CFG_EN 0) emmc = (false, false, 0) := by decide +kernel
def emmcBusy (ix : Nat) (write : Bool) (arg : Nat) : State :=
  (((((emmcS arg 0).put0 F.EMMC_STAT_BUSY 1).put0 F.EMMC_CMD_INDEX ix).put0 F.EMMC_CMD_DATA (b2n (ix != 6))).put0 F.EMMC_CMD_WRITE (b2n write)).put0
    F.EMMC_DMA_ADDR 0x100000000 |>.put0 F.EMMC_BLKCNT_CNT 1
theorem test_emmc_done : got (.emmcDone true true true) (emmcBusy 17 false 1) (fun t => (t.flag F.EMMC_STAT_TIMEOUT, t.flag F.EMMC_STAT_CMD_CRC,
      t.flag F.EMMC_STAT_DATA_CRC, t.flag F.EMMC_STAT_BUSY)) = (true, true, true, false) ∧
    (after (.emmcDone false false false) (emmcBusy 6 false (179 * 2 ^ 16 + 3 * 2 ^ 8))).boot.part = 3 ∧
    (after (.emmcDone false false false) (emmcBusy 25 true 2)).flag F.EMMC_STAT_DONE = true := by decide +kernel
theorem test_emmc_block : ((emmcBusy 24 true 2).fabRead (.port 38) 0x100000000 512).2.data.length = 512 ∧ (emmcBusy 24 true 2).boot.part = 0 := by
  decide +kernel
/-- What is decided by the root key's digest, an opaque constant, no test decides: both outcomes of POWER_GOOD_RISE are stated. A
start that has not come, one in a thermal hold. -/
def cold : State := { State.reset with pmc := { resetPmc with hold := true } }
theorem test_power_good : (after .powerGoodRise cold).pmc.good = true ∧ (after .powerGoodRise cold).pmc.run = false ∧ State.reset.pmc.good = false := by
  decide +kernel
theorem test_pll_lock : got .pllFLock { on with
      pmc := { on.pmc with pllF := false }
      fclk := false } (fun t => (t.pmc.pllF, t.fclk)) = (true, true) ∧
    (after .pllFLock ({ on with pmc := { on.pmc with good := false, pllF := false } } : State)).pmc.pllF = false := by decide +kernel
/-- Stage 3 of a start from slot B: an exit from PARK only releases the cores; a slot without its table fails its images. -/
def stage3 (park : Bool) : State := { on.put0 F.BOOT_STATUS_STAGE 3 with boot := { resetBoot with
  cur := some ⟨1, 0x500000, false⟩
  fromPark := park } }
theorem test_island_release : got (.islandRelease true) (stage3 true) (fun t => (t.stage, t.rd F.PMC_CAUSE_SLOT, t.boot.open_, t.flag F.MEM_CFG_EN)) =
      (4, 1, true, true) ∧
    got (.islandRelease true) (stage3 false) (fun t => (t.stage, t.pmc.run, t.rd F.BOOT_STATUS_FAIL)) = (9, false, bfFORMAT) ∧
    (after (.islandRelease true) ((stage3 true).put0 F.BOOT_STATUS_STAGE 2)).stage = 2 := by decide +kernel
def untrained : State := { without 33 with pmc := { on.pmc with trained := false } }
theorem test_training : got (.lpddr5xTrainingDone true) untrained (fun t => (t.pmc.trained, t.pd 33, t.pd 40)) = (true, true, true) ∧
    got (.lpddr5xTrainingDone false) untrained (fun t => (t.rd F.BOOT_STATUS_FAIL, t.rd F.ARB_STATUS_STATE, t.pmc.trained, t.pmc.trainFail)) = (bfLPDDR, 0, false, true) ∧
    (after (.lpddr5xTrainingDone false) on).rd F.BOOT_STATUS_FAIL = 0 := by decide +kernel
/-- A manifest of one entry whose image the eMMC does not hold; without an eMMC every entry is given up. -/
def manifestS : State := { (on.put0 F.ARB_MECH_INJ_DONE 1).put0 F.ARB_STATUS_STATE 1 with boot := { resetBoot with
  open_ := true
  cur := some ⟨0, 0x420000, false⟩
  config := leBytes (2 ^ 30) 64
  manifest := [1, 0, 1] ++ List.replicate 253 0 } }
theorem test_manifest : manifestS.manifestCount = 1 ∧ manifestS.mainReleased = true ∧ manifestS.cfgFlag 6 = true ∧
    got (.manifestLaunch true) manifestS (fun t => (t.boot.launched, t.rd F.BOOT_STATUS_FAIL, t.rd F.BOOT_STATUS_ENTRY, (t.cab 0).live)) =
      (1, bfMODEL, 0, false) ∧
    got (.manifestLaunch false) manifestS (fun t => (t.boot.launched, t.rd F.BOOT_STATUS_FAIL)) = (1, bfEMMC) ∧
    (after (.manifestLaunch true) ({ manifestS with boot := { manifestS.boot with open_ := false } } : State)).boot.launched = 0 := by decide +kernel
/-- The recovery slot: a host's slot without its table is refused. -/
def rcvS : State := ((on.put0 F.BOOT_STATUS_STAGE 8).put0 F.BOOT_RCV_RESULT 1).put0 F.BOOT_RCV_LENGTH 1
theorem test_recovery_write : rcvS.slotTable 0x80000000 0x80000040 = none ∧ (after (.recoveryWrite true) rcvS).rd F.BOOT_RCV_RESULT = 3 ∧
    (after (.recoveryWrite true) (rcvS.put0 F.BOOT_STATUS_STAGE 7)).rd F.BOOT_RCV_RESULT = 1 := by decide +kernel
/-- A table whose types are not those of a slot is incomplete. -/
theorem test_slot_table : (withBytes 0x80000000 (leBytes 0x544C5354 4 ++ leBytes 1 4 ++ leBytes 5 2 ++ [0, 0] ++ leBytes 0x40 4) rcvS).slotTable 0x80000000 0x80000040 =
    some [(5, 64)] ∧ rcvS.slotComplete 0x80000000 [(5, 64)] = false := by decide +kernel
/-- A power request at the head: its operation, target and bank. -/
def pmcReqS (bank : Fin 9) (op target : Nat) (s : State) : State := { s with pmc := { s.pmc with queue := [⟨bank, op + 256 * target, 0, none⟩] } }
def status (b : Fin 9) (s : State) : Nat × Nat := (vget s.pmc.status b, s.pmc.queue.length)
/-- The checks in order: a domain that only the ladder moves; a bank without authority; a fenced engine; a marked domain in use. -/
theorem test_request_refused : status 0 (after .domainOff (pmcReqS 0 2 61 on)) = (csBAD_COMMAND, 0) ∧
    status 1 (after .deviceReset (pmcReqS 1 4 0 on)) = (csDENIED_AUTHORITY, 0) ∧
    status 5 (after .domainOn (pmcReqS 5 1 8 on)) = (csDENIED_AUTHORITY, 0) ∧
    status 0 (after .state (pmcReqS 0 3 6 on)) = (csBAD_COMMAND, 0) ∧
    (after .domainOn (pmcReqS 0 2 9 on)).pmc.queue.length = 1 ∧
    (after .domainOn (pmcReqS 0 1 9 ({ on with pmc := { on.pmc with run := false } } : State))).pmc.queue.length = 1 := by decide +kernel
theorem test_marked : status 1 (after .domainOff { on with pmc := { on.pmc with queue := [⟨1, 2 + 256 * 19, 2 ^ 19, none⟩] } }) = (csDENIED_SECURE, 0) ∧
    status 0 (after .domainOff { on with pmc := { on.pmc with queue := [⟨0, 2 + 256 * 19, 2 ^ 19, none⟩] } }) = (csOK, 0) := by decide +kernel
theorem test_domain_on_runs : got .domainOn (pmcReqS 0 1 19 (without 19)) (fun t => (t.pd 19, t.pstate, status 0 t)) = (true, 0, (csOK, 0)) ∧
    got .domainOn (pmcReqS 0 1 33 ({ without 33 with pmc := { on.pmc with trained := false } } : State)) (fun t => (t.pd 33, t.pmc.queue.length)) = (false, 1) := by
  decide +kernel
/-- DOMAIN_OFF of engine 0: at once, or after the cabinet that holds it has stored the context that is resident. -/
theorem test_domain_off : got .domainOff (pmcReqS 0 2 4 on) (fun t => (t.pd 4, t.pd 5, t.pd 61)) = (false, true, true) ∧
    got .domainOff (pmcReqS 0 2 4 (inCabinet ctx1 on)) (fun t => (t.pd 4, (t.cab 0).resting, t.pmc.queue.length)) = (true, true, 1) := by decide +kernel
/-- The ladder: HOLD keeps PD32; WATCH keeps PD0 alone and loses LPDDR5X; the same state again; HOLD waits for a resident context. -/
theorem test_state : got .state (pmcReqS 0 3 2 on) (fun t => (t.pstate, t.pd 32, t.pd 4)) = (2, true, false) ∧
    got .state (pmcReqS 0 3 4 (withBytes 0x100000000 [7] on)) (fun t => (t.pstate, t.pd 0, t.pd 1, t.mem.read 0x100000000)) = (4, true, false, 0) ∧
    got .state (pmcReqS 0 3 0 on) (fun t => (t.pstate, status 0 t)) = (0, (csOK, 0)) ∧
    got .state (pmcReqS 0 3 2 (inCabinet ctx1 on)) (fun t => (t.pstate, t.rd F.PMC_STATE_TARGET, t.pmc.queue.length)) = (0, 2, 1) ∧
    got .state (pmcReqS 0 3 0 (on.put0 F.PMC_STATE_STATE 1)) (fun t => t.pstate) = 0 := by decide +kernel
/-- A device reset while POWER_GOOD is low: the start waits. -/
def noGood (s : State) : State := { s with pmc := { s.pmc with good := false } }
theorem test_device_reset : got .deviceReset (pmcReqS 0 4 0 (noGood (withBytes 0x100000000 [7] on))) (fun t => (t.pstate, t.rd F.PMC_CAUSE_RESET, status 0 t,
    t.mem.read 0x100000000)) = (0, 3, (0, 0), 0) := by decide +kernel
theorem test_auto_idle : got .autoIdleEntry (on.put0 F.PMC_CFG_AUTO_IDLE 1) (fun t => t.pstate) = 1 ∧ (after .autoIdleEntry on).pstate = 0 := by decide +kernel
/-- Wakes: CAN 11 from WATCH, the pin from SLUMBER, the ITU at its count, each only where enabled. -/
def asleep (st : Nat) : State := noGood ((((on.put0 F.PMC_STATE_STATE st).put0 F.PMC_WAKE_CFG_CAN 0x800).put0 F.PMC_WAKE_CFG_PIN_EN 1).put0 F.PMC_WAKE_CFG_ITU_EN 1)
def woke (s : State) : Nat × Nat × Nat := (s.pstate, s.rd F.PMC_CAUSE_WAKE, s.rd F.PMC_CAUSE_RESET)
theorem test_wakes : got (.canWake 11) (asleep 4) (fun t => (woke t, t.rd F.PMC_CAUSE_CAN)) = ((0, 1, 8), 11) ∧ got (.canWake 10) (asleep 4) (fun t => t.pstate) = 4 ∧
    got .wakeNWake (asleep 5) woke = (0, 3, 9) ∧ got .wakeNWake (asleep 2) (fun t => t.pstate) = 2 ∧ got .ituWake (asleep 4) woke = (0, 2, 8) ∧
    got .ituWake ((asleep 4).put0 F.PMC_WAKE_ITU_COUNT 1) (fun t => t.pstate) = 4 := by decide +kernel
/-- Monitors of the rails: a warning, a brown-out of VDD_CORE and of VDD_ISL, its end, a long dip, a rail that is off. -/
def mon (s : State) : Nat := s.regVal R.PMC_MON 0 0
theorem test_rails : got (.warnCrossing 7) on mon = 128 ∧ got (.warnCrossing 7) (on.put0 F.PMC_STATE_STATE 3) mon = 0 ∧
    got (.brownCrossing 0) on (fun t => (mon t, t.fclk, t.islClk)) = (256, false, true) ∧ got (.brownCrossing 3) on (fun t => (t.fclk, t.islClk)) = (true, false) ∧
    got (.brownCrossing 2) on mon = 0 := by decide +kernel
def browned : State := noGood (after (.brownCrossing 0) on)
theorem test_brown : got (.brownRecovery 0) browned (fun t => t.pmc.brown) = 0 ∧ got (.longDip 0) browned (fun t => (t.rd F.PMC_CAUSE_RESET, t.pstate)) = (4, 0) ∧
    (after (.longDip 1) browned).rd F.PMC_CAUSE_RESET = on.rd F.PMC_CAUSE_RESET := by decide +kernel
/-- VDD_AO out of range is a power-on reset that flash and HyperRAM survive; another rail is a device reset with its cause. -/
theorem test_rail_range : got (.uvOv 2 false) (withBytes 0x90000000 [1] (withBytes 0x60000000 [2] (withBytes 0x100000000 [3] on))) (fun t =>
      (t.mem.read 0x90000000, t.mem.read 0x60000000, t.mem.read 0x100000000, t.rd F.PMC_PD_STAT_ON)) = (1, 2, 0, State.reset.rd F.PMC_PD_STAT_ON) ∧
    (after (.uvOv 0 true) (noGood on)).rd F.PMC_CAUSE_RESET = 5 ∧ (after (.uvOv 0 false) (noGood on)).rd F.PMC_CAUSE_RESET = 4 ∧
    (after (.uvOv 0 true) ((noGood on).put0 F.PMC_STATE_STATE 3)).pstate = 3 := by decide +kernel
/-- The thermal thresholds: 134 and 135 °C; 121 and 120 °C. -/
theorem test_thermal : got (.thermalHold 134) (noGood on) (fun t => t.pmc.hold) = false ∧
    got (.thermalHold 135) (noGood on) (fun t => (t.pmc.hold, t.pmc.run, t.rd F.PMC_CAUSE_RESET, t.pd 4)) = (true, false, 7, false) ∧
    got (.thermalRelease 121) (after (.thermalHold 135) (noGood on)) (fun t => t.pmc.hold) = true ∧
    got (.thermalRelease 120) (after (.thermalHold 135) (noGood on)) (fun t => (t.pmc.hold, t.rd F.PMC_THERM_TJ)) = (false, 120) ∧
    got (.thermalWarn (-1)) (on.put0 F.PMC_THERM_WARN 0) (fun t => (mon t, t.rd F.PMC_THERM_TJ)) = (0, 511) ∧
    got (.thermalWarn 0) (on.put0 F.PMC_THERM_WARN 0) mon = 2 ^ 24 := by decide +kernel
theorem test_plls : got (.pllLockLoss 1) on (fun t => (t.pmc.unlocked, t.fclk, t.aclk)) = (2, true, false) ∧
    got (.pllLockLoss 2) (on.put0 F.PMC_STATE_STATE 4) (fun t => t.pmc.unlocked) = 0 ∧
    got (.pllRelock 1 true) (after (.pllLockLoss 1) on) (fun t => (t.pmc.unlocked, mon t, t.aclk)) = (0, 2 ^ 25, true) ∧
    got (.pllRelock 1 false) (noGood (after (.pllLockLoss 1) on)) (fun t => t.rd F.PMC_CAUSE_RESET) = 6 ∧ got (.pllRelock 0 false) on (fun t => t.pd 4) = true := by
  decide +kernel
theorem test_references : got .xtal32Fail on mon = 2 ^ 26 ∧ got .referenceLoss (noGood on) (fun t => t.pd 4) = true ∧
    got .referenceLoss (on.put0 F.PMC_STATE_STATE 4) (fun t => t.pstate) = 4 := by decide +kernel
/-- AVS moves by at most 10 mV, between 650 and 850 mV. -/
def avsS (v : Nat) : State := (on.put0 F.PMC_CFG_AVS_EN 1).put0 F.PMC_VCORE_TARGET v
theorem test_avs : got (.avsStep 850 true) (avsS 840) (fun t => t.rd F.PMC_VCORE_TARGET) = 850 ∧ got (.avsStep 851 true) (avsS 850) (fun t => t.rd F.PMC_VCORE_TARGET) = 850 ∧
    got (.avsStep 650 true) (avsS 661) (fun t => t.rd F.PMC_VCORE_TARGET) = 661 ∧
    got (.avsStep 650 false) (avsS 660) (fun t => (t.rd F.PMC_VCORE_TARGET, t.pmc.avsStop, mon t)) = (660, true, 2 ^ 27) := by decide +kernel
theorem test_resets : got .resetN (noGood on) (fun t => (t.rd F.PMC_CAUSE_RESET, t.pd 4)) = (2, false) ∧
    got .powerGoodFall on (fun t => (t.rd F.PMC_CAUSE_RESET, t.pmc.good, t.pd 4)) = (1, false, false) ∧ (after .powerGoodFall (noGood on)).pd 4 = true ∧
    got .powerOnReset on (fun t => (decide (t.regs = State.reset.regs), t.fclk)) = (true, false) := by decide +kernel
/-- The host interface open, two VFs, VF 1 with the window at 0x200000000. -/
def hostS : State := { on with
  boot := { on.boot with open_ := true }
  host := { on.host with
    vfEnable := true
    numVfs := 2 }
  fns := vmod on.fns 1 (fun x => { x with win := some 0x200000000 }) }
def fnIs (f : Fin 33) (s : State) : FnState × Nat := ((vget s.fns f).st, (vget s.fns f).reason)
theorem test_inbound : hostS.fnLive 0 = true ∧ hostS.fnLive 2 = true ∧ hostS.fnLive 3 = false ∧
    (after (.inboundRequest 3 (.read 2 0 4)) hostS).resp = ⟨stFABRIC_ERR, []⟩ ∧
    hostS.barAddr 1 2 0xFFFFFFFF 1 = some 0x2FFFFFFFF ∧ hostS.barAddr 1 2 0xFFFFFFFF 2 = none ∧
    (after (.inboundRequest 1 (.read 2 0x10 2)) (withBytes 0x200000010 [5, 6] hostS)).resp = ⟨0, [5, 6]⟩ ∧
    (after (.inboundRequest 1 (.write 2 0x10 [7])) hostS).mem.read 0x200000010 = 7 := by decide +kernel
theorem test_inbound_configuration : (vget (after (.inboundRequest 1 (.busMaster true)) hostS).fns 1).bme = true ∧
    (after (.inboundRequest 0 (.numVfs 31)) hostS).host.numVfs = 31 ∧ (after (.inboundRequest 0 (.numVfs 32)) hostS).host.numVfs = 2 ∧
    (after (.inboundRequest 0 .vfEnable) { hostS with host := { hostS.host with vfEnable := false } }).host.vfEnable = true := by decide +kernel
/-- BAR0: the own page, a page of another function, zeros, nothing, and an access that a page does not take. -/
theorem test_bar0 : bar0 1 8 = .page 1 8 ∧ bar0 0 0x1008 = .page 1 8 ∧ bar0 1 0x1000 = .zero ∧ bar0 1 0x40000 = .unmapped ∧ bar0 0 0x20100 = .unmapped ∧
    (after (.inboundRequest 1 (.read 0 0x1000 2)) hostS).resp = ⟨0, [0, 0]⟩ ∧ (after (.inboundRequest 1 (.read 0 0x40000 4)) hostS).resp.status = stFABRIC_ERR ∧
    (after (.inboundRequest 1 (.read 0 2 2)) hostS).resp.status = stFABRIC_ERR ∧
    got (.inboundRequest 0 (.write 0 0x1000 [9, 0, 0, 0])) hostS (fun t => (t.resp, t.rd F.HIF_VERSION_DRV_MINOR 1)) = (⟨0, []⟩, hostS.rd F.HIF_VERSION_DRV_MINOR 1) := by
  decide +kernel
/-- The recovery slot: the PF's Stream Buffer and fabric registers are there, its pages read 0, VF Enable ignores writes (16 R562). -/
def recS : State := { on.put0 F.BOOT_STATUS_STAGE 8 with host := { on.host with vfEnable := false } }
theorem test_recovery_host : recS.fnLive 0 = true ∧ recS.fnLive 1 = false ∧ recS.bar0At 0 8 = .zero ∧ recS.bar0At 0 0x20000 = .unmapped ∧
    recS.bar0At 0 0x1000004 = .fabric 0x40000004 ∧ (after (.inboundRequest 0 (.write 4 0x10 [7])) recS).mem.read 0x80000010 = 7 ∧
    (after (.inboundRequest 0 (.read 0 0 4)) recS).resp = ⟨0, [0, 0, 0, 0]⟩ ∧ (after (.inboundRequest 0 .vfEnable) recS).host.vfEnable = false := by
  decide +kernel
/-- Outbound: SCH acts for the PF; without Bus Master Enable it is refused. -/
def bmeS : State := { hostS with fns := vmod hostS.fns 0 (fun x => { x with bme := true }) }
theorem test_outbound_requests : bmeS.refuse .sch true 0x4000000000 1 = none ∧
    got (.outboundRequest .sch true 0x4000000010 0 [7]) bmeS (fun t => (t.hostOut, t.resp)) = ([(0, 0x10, [7])], ⟨0, []⟩) ∧
    got (.outboundRequest .sch true 0x4000000010 0 [7]) hostS (fun t => (t.hostOut, t.resp)) = ([], ⟨stFABRIC_ERR, []⟩) ∧
    got (.outboundRequest .sch false 0x4000000010 1 []) bmeS (fun t => (t.resp.status, t.resp.data.length, t.freeCtr)) = (0, 1, bmeS.freeCtr + 1) ∧
    (after (.outboundTimeout .sch 0x4000000010 1) bmeS).resp = ⟨stFABRIC_ERR, []⟩ := by decide +kernel
/-- Attaching function `f`: rings of 16 entries; the version asked for. -/
def attachRec (log2 : Nat) (base : Nat) : List Byte := leBytes (base + 0x10000) 8 ++ leBytes (base + 0x100000) 8 ++ leBytes (base + 0x200000) 8 ++
  leBytes log2 1 ++ [4, 4, 0] ++ List.replicate 36 0
def versioned (f : Nat) (s : State) : State :=
  (s.put F.HIF_VERSION_DRV_MAJOR f 0 (s.rd F.HIF_VERSION_FW_MAJOR f)).put F.HIF_VERSION_DRV_MINOR f 0 (s.rd F.HIF_VERSION_FW_MINOR f)
def attachS (log2 : Nat) : State := withBytes 0x100001000 (attachRec log2 0x100000000) (versioned 0 hostS)
theorem test_attach : fnIs 0 (after (.hifAttach 0 0 0x100001000) (attachS 4)) = (.open_, 0) ∧
    fnIs 0 (after (.hifAttach 0 0 0x100001000) (attachS 12)) = (.open_, 0) ∧ fnIs 0 (after (.hifAttach 0 0 0x100001000) (attachS 3)) = (.refused, rsBAD_RINGS) ∧
    fnIs 0 (after (.hifAttach 0 0 0x100001000) (attachS 13)) = (.refused, rsBAD_RINGS) ∧ fnIs 0 (after (.hifAttach 0 0 0x100001004) (attachS 4)) = (.refused, rsBAD_RINGS) ∧
    fnIs 0 (after (.hifAttach 0 0 0x100001000) ((attachS 4).put F.HIF_VERSION_DRV_MAJOR 0 0 (hostS.rd F.HIF_VERSION_FW_MAJOR 0 + 1))) = (.refused, rsVERSION) ∧
    fnIs 2 (after (.hifAttach 2 0 0x100001000) (versioned 2 hostS)) = (.refused, rsNO_WINDOW) := by decide +kernel
def hostLostS : State := { versioned 1 hostS with host := { hostS.host with lostAt := some 5 } }
theorem test_attach_lost : fnIs 1 (after (.hifAttach 1 0 0x100001000) hostLostS) = (.refused, rsHOST_LOST) ∧
    fnIs 32 (after (.hifAttach 32 0 0x70000000) (versioned 32 hostS)) = (.refused, rsBAD_RINGS) := by decide +kernel
/-- An open PF with rings of 16: `h` and `t` of each. -/
def opened (x : Fn → Fn) (s : State) : State := { s with fns := vmod s.fns 0 (fun f => x { f with
  st := .open_
  sq := ⟨0x100002000, 4, 0, 0, true⟩
  cq := ⟨0x100003000, 4, 0, 3, true⟩
  eq := ⟨0x100004000, 4, 2, 4, true⟩ }) }
theorem test_detach : fnIs 0 (after (.hifDetach 0 0) (opened id hostS)) = (.detached, 0) ∧
    (after (.heartbeat 0 0) (opened id hostS)).host.monitored = true ∧ (after (.heartbeat 0 0) hostS).host.monitored = false ∧
    (after (.hifDetach 0 0) (after (.heartbeat 0 0) (opened id hostS))).host.monitored = false := by decide +kernel
/-- Doorbells at the ends of what is right: 15 entries more, not 16; up to the write index of the other rings; in QUIESCED recorded. -/
def rings (s : State) : Nat × Nat × Nat × Bool := ((vget s.fns 0).sq.tail, (vget s.fns 0).cq.head, (vget s.fns 0).eq.head, s.flag F.HIF_STATUS_DB_ERR 0)
theorem test_doorbells : got (.submissionTail 0 0 15) (opened id hostS) rings = (15, 0, 2, false) ∧ got (.submissionTail 0 0 16) (opened id hostS) rings = (0, 0, 2, true) ∧
    got (.submissionTail 0 0 0) (opened (fun x => { x with sq := { x.sq with tail := 1 } }) hostS) rings = (1, 0, 2, true) ∧
    got (.completionHead 0 0 3) (opened id hostS) rings = (0, 3, 2, false) ∧ got (.completionHead 0 0 4) (opened id hostS) rings = (0, 0, 2, true) ∧
    got (.eventHead 0 0 4) (opened id hostS) rings = (0, 0, 4, false) ∧ got (.eventHead 0 0 5) (opened id hostS) rings = (0, 0, 2, true) ∧
    got (.eventHead 0 0 4) (opened (fun x => { x with st := .quiesced }) hostS) (fun t => (vget t.fns 0).doorbells) = [2 * 2 ^ 30 + 4] := by decide +kernel
/-- A function under reset answers no request; the attach of `attachS` reads its rings at 0x100001000. -/
def resettingS : State := { hostS with fns := vmod hostS.fns 1 (fun x => { x with st := .resetting }) }
theorem test_inbound_resetting : resettingS.fnLive 1 = true ∧ (after (.inboundRequest 1 (.read 2 0x10 2)) resettingS).resp.status = stFABRIC_ERR ∧
    (after (.inboundRequest 1 (.write 0 0 [1, 0, 0, 0])) resettingS).resp.status = stFABRIC_ERR := by decide +kernel
theorem test_attach_served : (attachS 4).Serves .sch false 0x100001000 64 ∧ (attachS 4).fnAddr 0 0x100001000 64 = some 0x100001000 ∧
    (attachS 4).ringsOk 0 ((attachS 4).mem.readBytes 0x100001000 64) = true ∧ (attachS 4).host.lostAt = none ∧ (attachS 4).fnLive 0 = true ∧
    (attachS 4).stage ≠ 8 ∧ (vget (attachS 4).fns 0).st = .detached :=
  ⟨serves_of (by decide +kernel), by decide +kernel, by decide +kernel, by decide +kernel, by decide +kernel, by decide +kernel, by decide +kernel⟩
/-- A submission entry of a function: OPC, TAG 9, arguments; the ring at 0x100002000 holds it, and the completion ring is empty. -/
def subEntry (opc : Nat) (args : List Nat) : List Byte :=
  leBytes opc 1 ++ [0, 9, 0, 0, 0, 0, 0] ++ args.flatMap (fun a => leBytes a 8) ++ List.replicate (56 - 8 * args.length) 0
def headed (f : Fin 33) (opc : Nat) (args : List Nat) (s : State) : State := withBytes 0x100002000 (subEntry opc args)
  { s with fns := vmod s.fns f (fun x => { x with
    st := .open_
    sq := ⟨(if f.val = 0 ∨ f.val = 32 then 0x100002000 else 0xFFFFFFFF00002000), 4, 0, 1, true⟩
    cq := ⟨0x100003000, 4, 0, 0, true⟩ }) }
/-- Status and phase of the first completion entry. -/
def completion (s : State) : Nat := s.mem.readNat 0x100003002 2
def heads0 (opc : Nat) (args : List Nat) (s : State) : Bool :=
  let s := headed 0 opc args s
  s.takesCmd 0 && decide ((s.headEntry 0).2 = subEntry opc args) && knownOpc 0 opc && !entryBad (subEntry opc args) args.length
theorem test_cmd_nop : heads0 0 [] hostS = true ∧ completion (after (.cmdNop 0) (headed 0 0 [] hostS)) = 256 := by decide +kernel
/-- A reserved argument in use; another command at the head. -/
theorem test_cmd_bad : entryBad (subEntry 0 [1]) 0 = true ∧ (vget (after (.cmdNop 0) (headed 0 0 [1] hostS)).fns 0).sq.head = 1 ∧
    (vget (after (.cmdNop 0) (headed 0 1 [1] hostS)).fns 0).sq.head = 0 := by decide +kernel
/-- What a command answers: its status, and whether it has completed. -/
def ans (a : Ans) : Nat × Bool := (a.st, a.ready)
/-- A cabinet record of engine 0: one drawer of one page and one block (15 R527). -/
def cabRec : List Byte := [0, 0, 1, 1, 1, 0, 1, 0, 1, 0, 0, 1, 0, 0, 0, 0] ++ leBytes 0x100100000 8 ++ leBytes 0x100000 8 ++ List.replicate 40 0 ++
  leBytes 0 8 ++ List.replicate 48 0
def createS : State := withBytes 0x100008000 cabRec hostS
theorem test_cabinet_create : cabRec.length = 128 ∧ createS.createStatus cabRec none false = 0 ∧
    createS.createStatus (modAt (fun _ => 0) 3 cabRec) none false = csBAD_COMMAND ∧ createS.createStatus (modAt (fun _ => 3) 0 cabRec) none false = csNOT_FOUND ∧
    ans (cmdCabinetCreate 0 true createS (subEntry 1 [0x100008000])) = (0, true) ∧
    ans (cmdCabinetCreate 0 true createS (subEntry 1 [0x70000000])) = (csWINDOW, true) ∧
    ans (cmdCabinetCreate 1 true createS (subEntry 1 [0x100008000])) = (csDENIED_AUTHORITY, true) := by decide +kernel
theorem test_create_runs : got (.cabinetCreate 0) (headed 0 1 [0x100008000] createS) (fun t => ((t.cab 0).live, t.flag F.SCH_CAB_CFG_EN 0)) = (true, true) := by
  decide +kernel
/-- While SEC restarts a creation waits (14 R488). -/
theorem test_create_waits : (cmdCabinetCreate 0 true { createS with sec := { createS.sec with restarting := true } } (subEntry 1 [0x100008000])).started = false := by
  decide +kernel
/-- The PF's cabinet 0 with no context. -/
def pfCab (s : State) : State := s.modCab 0 (fun b => { b with
  live := true
  fn := 0
  base := 0x100100000
  size := 0x100000
  body := cabRec })
theorem test_cabinet_destroy : (pfCab hostS).cabArg 0 0 true = 0 ∧ ans (cmdCabinetDestroy 0 true (pfCab hostS) (subEntry 2 [0])) = (0, true) ∧
    ans (cmdCabinetDestroy 0 true hostS (subEntry 2 [8])) = (csBAD_COMMAND, true) ∧ ans (cmdCabinetDestroy 0 true hostS (subEntry 2 [7])) = (csNOT_FOUND, true) := by
  decide +kernel
/-- Commands under way: with aborts open, and with none. -/
def wayS (f : Fin 33) (opc : Nat) (args : List Nat) (ab : List (CtxId × Bool)) : State :=
  let s := headed f opc args ((pfCab hostS).modCab 0 (fun b => { b with
    aborting := ab
    after := if opc = 2 ∧ ab ≠ [] then .destroy else .none }))
  { s with fns := vmod s.fns f (fun x => { x with cmd := subEntry opc args }) }
theorem test_under_way : (wayS 0 2 [0] [(3, true)]).cmdOn 0 = true ∧
    got (.cabinetDestroy 0) (wayS 0 2 [0] [(3, true)]) (fun t => ((t.cab 0).live, (vget t.fns 0).cmd.length)) = (true, 64) ∧
    got (.cabinetDestroy 0) (wayS 0 2 [0] []) (fun t => ((vget t.fns 0).cmd, completion t)) = ([], 256) := by decide +kernel
theorem test_context_create : ans (cmdContextCreate 0 true hostS (subEntry 3 [8, 0x100100000])) = (csBAD_COMMAND, true) ∧
    (cmdContextCreate 0 true (pfCab hostS) (subEntry 3 [0, 0x70000000])).st ≠ 0 := by decide +kernel
/-- An idle context without a job. -/
def idleCtx (s : State) : State := (pfCab s).modCab 0 (fun b => { b with ctxs := vmod b.ctxs 71 (fun _ => some { ctx1 with
  st := .idle
  drawer := none
  jobs := []
  started := false }) })
theorem test_context_destroy : ans (cmdContextDestroy 0 true (pfCab hostS) (subEntry 4 [0, 72])) = (csBAD_COMMAND, true) ∧
    ans (cmdContextDestroy 0 true (pfCab hostS) (subEntry 4 [0, 71])) = (csNOT_FOUND, true) ∧ ans (cmdContextDestroy 0 true (idleCtx hostS) (subEntry 4 [0, 71])) = (0, true) ∧
    ((cmdContextDestroy 0 true (idleCtx hostS) (subEntry 4 [0, 71])).s.ctx? 0 71).isSome = false ∧
    ans (cmdAbort 0 true (pfCab hostS) (subEntry 6 [0, 0xFF])) = (0, true) ∧ ans (cmdAbort 0 true (pfCab hostS) (subEntry 6 [0, 72])) = (csBAD_COMMAND, true) ∧
    ans (cmdAbort 0 true (pfCab hostS) (subEntry 6 [1, 0xFF])) = (csNOT_FOUND, true) := by decide +kernel
theorem test_job_submit : ans (cmdJobSubmit 0 true (pfCab hostS) (subEntry 5 [1, 0x100008000])) = (csNOT_FOUND, true) ∧
    ans (cmdJobSubmit 0 true (pfCab hostS) (subEntry 5 [0, 0x70000000])) = (csWINDOW, true) ∧ ((pfCab hostS).argAddr 0 (some 0) 0x100008000 64).isSome = true := by decide +kernel
/-- A service of SEC relayed: it waits for its answer, and completes with SEC's status; a full mailbox holds it. -/
def relayS (st : Byte) : State := withBytes 0x100008000 (reqRec 1 []) (withBytes 0x100100004 [st] hostS)
theorem test_sec_service : (cmdSecService 0 true (relayS 0) (subEntry 0x20 [0x100008000])).ready = false ∧
    (vget (cmdSecService 0 true (relayS 0) (subEntry 0x20 [0x100008000])).s.sec.queues 3).length = 1 ∧
    ans (cmdSecService 0 false (relayS 3) (subEntry 0x20 [0x100008000])) = (csSERVICE_UNAVAILABLE, true) ∧
    ans (cmdSecService 0 false (relayS 1) (subEntry 0x20 [0x100008000])) = (0, true) ∧ ans (cmdSecService 0 true (relayS 0) (subEntry 0x20 [0x70000000])) = (csWINDOW, true) ∧
    (cmdSecService 0 true ((relayS 0).setQueue 3 (List.replicate 16 ⟨0, reqRec 1 []⟩)) (subEntry 0x20 [0x100008000])).started = false := by decide +kernel
theorem test_power_request : ans (cmdPower 0 true hostS (subEntry 0x21 [2 ^ 16])) = (csBAD_COMMAND, true) ∧ ans (cmdPower 0 true hostS (subEntry 0x21 [1 + 256 * 19])) = (0, false) ∧
    (cmdPower 0 true (hostS.pmcSubmit 4 (1 + 256 * 19) none) (subEntry 0x21 [0])).started = false ∧
    ans (cmdPower 0 false hostS (subEntry 0x21 [0])) = (0, true) := by decide +kernel
/-- The conditions of `Queued` and `Going` from what is decided of a concrete state. -/
theorem queued_of {s : State} {f : Fin 33} {opc n : Nat} {l : List Byte} (a : Nat)
    (h : (s.mainClk = true ∧ s.pd 31 = true ∧ (f.val = 32 ∨ (s.boot.open_ = true ∧ s.pd 41 = true ∧ s.fnExists f.val = true))) ∧
      (vget s.fns f).st = .open_ ∧ (vget s.fns f).cmd = [] ∧ (vget s.fns f).sq.head ≠ (vget s.fns f).sq.tail ∧
      (vget s.fns f).cq.used + 1 < 2 ^ (vget s.fns f).cq.log2 ∧
      s.fnAddr f ((vget s.fns f).sq.base + 64 * (vget s.fns f).sq.head) 64 = some a ∧
      (s.toDevice .sch a 64 = some a ∧ s.region a = .lpddr ∧ s.refuse .sch false a 64 = none ∧ s.mem.bad = [] ∧ s.inj = none) ∧
      l = s.mem.readBytes a 64 ∧ fieldAt l 0 1 = opc ∧ (zeros l 1 1 = true ∧ zeros l 4 4 = true) ∧
      zeros l (8 + 8 * n) (56 - 8 * n) = true) : Queued s f opc n l :=
  ⟨h.1, h.2.1, h.2.2.1, h.2.2.2.1, h.2.2.2.2.1, ⟨a, h.2.2.2.2.2.1, serves_of h.2.2.2.2.2.2.1, h.2.2.2.2.2.2.2.1⟩, h.2.2.2.2.2.2.2.2.1,
    h.2.2.2.2.2.2.2.2.2.1, h.2.2.2.2.2.2.2.2.2.2⟩
theorem going_of {s : State} {f : Fin 33} {opc : Nat} {l : List Byte}
    (h : (s.mainClk = true ∧ s.pd 31 = true ∧ (f.val = 32 ∨ (s.boot.open_ = true ∧ s.pd 41 = true ∧ s.fnExists f.val = true))) ∧
      ((vget s.fns f).st = .open_ ∨ (vget s.fns f).st = .lost ∨ (vget s.fns f).st = .quiesced) ∧ (vget s.fns f).cmd = l ∧ l ≠ [] ∧
      fieldAt l 0 1 = opc) : Going s f opc l := ⟨h.1, h.2.1, h.2.2.1, h.2.2.2.1, h.2.2.2.2⟩
theorem test_nop_queued : Queued (headed 0 0 [] hostS) 0 0 0 (subEntry 0 []) := queued_of 0x100002000 (by decide +kernel)
def create1 : State := headed 0 1 [0x100008000] createS
theorem test_create_queued : Queued create1 0 1 1 (subEntry 1 [0x100008000]) ∧ create1.sec.restarting = false ∧
    create1.argAddr 0 none 0x100008000 128 = some 0x100008000 ∧ create1.Serves .sch false 0x100008000 128 ∧
    create1.createStatus (create1.mem.readBytes 0x100008000 128) none false = 0 :=
  ⟨queued_of 0x100002000 (by decide +kernel), by decide +kernel, by decide +kernel, serves_of (by decide +kernel), by decide +kernel⟩
theorem test_destroy_queued : Queued (headed 0 2 [0] (pfCab hostS)) 0 2 1 (subEntry 2 [0]) ∧
    ((headed 0 2 [0] (pfCab hostS)).cab 0).live = true ∧ ((headed 0 2 [0] (pfCab hostS)).cab 0).flash = false ∧
    ((headed 0 2 [0] (pfCab hostS)).cab 0).aborting = [] ∧ ∀ x, (headed 0 2 [0] (pfCab hostS)).ctx? 0 x = none :=
  ⟨queued_of 0x100002000 (by decide +kernel), by decide +kernel, by decide +kernel, by decide +kernel, by decide +kernel⟩
/-- The PF's cabinet 0 with engine 0, and a context record whose one rank has an empty image. -/
def pfCab1 : State := pfCab (((hostS.put F.SN_CAB_CFG_SIZE 0 0 1).put F.SCH_CAB_ENG_ENGINES 0 0 1).put F.SCH_CAB_CFG_EN 0 0 1)
def ctxRec : List Byte := leBytes 0 8 ++ leBytes 0x100110000 8 ++ leBytes 0x100111000 8 ++ leBytes 0 8 ++ leBytes 0x100120000 8 ++ List.replicate 24 0
def ctxS : State := headed 0 3 [0, 0x100112000] (withBytes 0x100110000 (leBytes 0x100113000 8) (withBytes 0x100112000 ctxRec pfCab1))
theorem test_context_create_queued : Queued ctxS 0 3 2 (subEntry 3 [0, 0x100112000]) ∧ ctxS.Owns 0 0 ∧ (ctxS.cab 0).lost = [] ∧ ctxS.ctxFull 0 = false ∧
    (ctxS.readContext 0 0x100112000 none).2.1 = 0 ∧ (ctxS.readContext 0 0x100112000 none).2.2.isSome = true ∧ ctxS.gang 0 = 1 :=
  ⟨queued_of 0x100002000 (by decide +kernel), ⟨by decide +kernel, by decide +kernel, by decide +kernel⟩, by decide +kernel, by decide +kernel, by decide +kernel,
    by decide +kernel, by decide +kernel⟩
/-- A context that is in no drawer is destroyed or aborted at once; on a cabinet that has lost an engine the command ends FENCED. -/
def abortCmdS (opc : Nat) : State := headed 0 opc [0, 71] (idleCtx hostS)
theorem test_abort_queued (opc : Fin 2) : Queued (abortCmdS (4 + 2 * opc.val)) 0 (4 + 2 * opc.val) 2 (subEntry (4 + 2 * opc.val) [0, 71]) ∧
    (abortCmdS (4 + 2 * opc.val)).Owns 0 0 ∧ ((abortCmdS (4 + 2 * opc.val)).cab 0).lost = [] ∧ ((abortCmdS (4 + 2 * opc.val)).cab 0).aborting = [] ∧
    (abortCmdS (4 + 2 * opc.val)).committing 0 = false ∧
    ((abortCmdS (4 + 2 * opc.val)).ctx? 0 71).map (fun y => (y.drawer, y.st)) = some (none, .idle) := by
  match opc with
  | 0 => exact ⟨queued_of 0x100002000 (by decide +kernel), ⟨by decide +kernel, by decide +kernel, by decide +kernel⟩, by decide +kernel, by decide +kernel,
      by decide +kernel, by decide +kernel⟩
  | 1 => exact ⟨queued_of 0x100002000 (by decide +kernel), ⟨by decide +kernel, by decide +kernel, by decide +kernel⟩, by decide +kernel, by decide +kernel,
      by decide +kernel, by decide +kernel⟩
def lostCab (s : State) : State := s.modCab 0 (fun b => { b with lost := [0] })
theorem test_abort_fenced : ans (cmdAbort 0 true (lostCab (idleCtx hostS)) (subEntry 6 [0, 71])) = (csFENCED, true) ∧
    ans (cmdContextDestroy 0 true (lostCab (idleCtx hostS)) (subEntry 4 [0, 71])) = (csFENCED, true) := by decide +kernel
/-- A job descriptor for context 71 at 0x100108000, in the cabinet's region. -/
def submitS : State := headed 0 5 [0, 0x100108000] (withBytes 0x100108000 (leBytes 71 1) (idleCtx hostS))
theorem test_submit_queued : Queued submitS 0 5 2 (subEntry 5 [0, 0x100108000]) ∧ submitS.Owns 0 0 ∧ (submitS.argAddr 0 (some 0) 0x100108000 64).isSome = true ∧
    submitS.cabAddr 0 0x100108000 64 = some 0x100108000 ∧ submitS.Serves .sch false 0x100108000 64 ∧ fieldAt (submitS.mem.readBytes 0x100108000 64) 0 1 = 71 ∧
    (submitS.ctx? 0 71).map (fun y => (y.st, y.jobs)) = some (.idle, []) ∧ (submitS.cab 0).degraded = false ∧
    (jobOf (submitS.mem.readBytes 0x100108000 64) 0x100108000 (submitS.cab 0).qctMax submitS.itu none).isSome = true :=
  ⟨queued_of 0x100002000 (by decide +kernel), ⟨by decide +kernel, by decide +kernel, by decide +kernel⟩, by decide +kernel, by decide +kernel,
    serves_of (by decide +kernel), by decide +kernel, by decide +kernel, by decide +kernel, by decide +kernel⟩
theorem test_submit_runs : got (.jobSubmit 0) submitS (fun t => (completion t, (t.ctx? 0 71).map (fun y => (y.st, y.jobs.length)))) =
    (256, some (.ready, 1)) := by decide +kernel
/-- SEC's answer to a relayed request, and PMC's. -/
def going (opc a : Nat) (s : State) : State :=
  let s := headed 0 opc [a] s
  { s with fns := vmod s.fns 0 (fun x => { x with cmd := subEntry opc [a] }) }
theorem test_relay_queued : Queued (headed 0 0x20 [0x100008000] (relayS 0)) 0 0x20 1 (subEntry 0x20 [0x100008000]) ∧
    ((headed 0 0x20 [0x100008000] (relayS 0)).argAddr 0 none 0x100008000 64).isSome = true :=
  ⟨queued_of 0x100002000 (by decide +kernel), by decide +kernel⟩
theorem test_relay_going : Going (going 0x20 0x100008000 (relayS 1)) 0 0x20 (subEntry 0x20 [0x100008000]) ∧
    vget (going 0x20 0x100008000 (relayS 1)).sec.queues 3 = [] ∧ (going 0x20 0x100008000 (relayS 1)).Serves (.mbox false) false 0x100008000 64 ∧
    fieldAt ((going 0x20 0x100008000 (relayS 1)).mem.readBytes 0x100008000 64) 8 8 = 0x100100000 ∧
    (going 0x20 0x100008000 (relayS 1)).Serves (.mbox false) false 0x100100000 16 :=
  ⟨going_of (by decide +kernel), by decide +kernel, serves_of (by decide +kernel), by decide +kernel, serves_of (by decide +kernel)⟩
theorem test_power_going : Going (going 0x21 0 hostS) 0 0x21 (subEntry 0x21 [0]) ∧ (going 0x21 0 hostS).pmc.queue = [] :=
  ⟨going_of (by decide +kernel), by decide +kernel⟩
/-- What a PF command about a VF answers. -/
def vf (run : Bool → State → List Byte → Fin 33 → Ans) (first : Bool) (s : State) (args : List Nat) : Ans :=
  vfCommand 0 run first s (subEntry 0 args)
theorem test_vf_argument : ans (vf cmdSetWindow true hostS [0]) = (csBAD_COMMAND, true) ∧ ans (vf cmdSetWindow true hostS [32]) = (csBAD_COMMAND, true) ∧
    ans (vf cmdSetWindow true hostS [3, 0]) = (csNOT_FOUND, true) ∧
    ans (vfCommand 1 cmdSetWindow true hostS (subEntry 0 [2, 0])) = (csDENIED_AUTHORITY, true) := by decide +kernel
/-- A window: aligned to its size, in LPDDR5X, apart from VF 1's at 0x200000000; 0 withdraws it. -/
def winOf (f : Fin 33) (a : Ans) : Nat × Option Nat := (a.st, (vget a.s.fns f).win)
theorem test_window_set : winOf 2 (vf cmdSetWindow true hostS [2, 0x300000000]) = (0, some 0x300000000) ∧
    winOf 2 (vf cmdSetWindow true hostS [2, 0x200000000]) = (csWINDOW, none) ∧ winOf 2 (vf cmdSetWindow true hostS [2, 0x300001000]) = (csWINDOW, none) ∧
    winOf 2 (vf cmdSetWindow true hostS [2, 0x400000000]) = (csWINDOW, none) ∧ winOf 1 (vf cmdSetWindow true hostS [1, 0]) = (0, none) := by decide +kernel
theorem test_window_runs : got (.setVfWindow 0) (headed 0 0x10 [2, 0x300000000] hostS) (fun t => (vget t.fns 2).win) = some 0x300000000 := by decide +kernel
/-- Dirty logging of VF 1: span a multiple of 32 KiB; a bitmap beyond reach; its switch and its end. -/
def loggedS : State := { hostS with fns := vmod hostS.fns 1 (fun x => { x with dirty := some ⟨0x100001000, 0x100002000, 32768, false, 7⟩ }) }
def dirtyOf (a : Ans) : Nat × Nat × Nat × Bool := (a.st, a.value, a.detail, (vget a.s.fns 1).dirty.isSome)
theorem test_dirty : dirtyOf (vf cmdDirtyStart true hostS [1, 0x100001000, 0x100002000, 32768]) = (0, 0, 0, true) ∧
    dirtyOf (vf cmdDirtyStart true hostS [1, 0x100001000, 0x100002000, 32767]) = (csBAD_COMMAND, 0, 0, false) ∧
    dirtyOf (vf cmdDirtyStart true hostS [1, 0x100001000, 0x200001000, 32768]) = (csWINDOW, 0, 0, false) ∧
    dirtyOf (vf cmdDirtySync true loggedS [1]) = (0, 0, 7, true) ∧ dirtyOf (vf cmdDirtySync true hostS [1]) = (csVF_STATE, 0, 0, false) ∧
    dirtyOf (vf cmdDirtyStop true (vf cmdDirtySync true loggedS [1]).s [1]) = (0, 1, 0, false) ∧ dirtyOf (vf cmdDirtyStop true hostS [1]) = (csVF_STATE, 0, 0, false) := by decide +kernel
/-- Quiescing: at once without contexts, later with one resident; the recorded doorbell is served at the end. -/
def vfS (st : FnState) (s : State) : State := { s with fns := vmod s.fns 1 (fun x => { x with
  st := st
  sq := ⟨0, 4, 0, 0, true⟩
  doorbells := [5] }) }
def vfCab (s : State) : State := s.modCab 0 (fun b => { b with
  live := true
  fn := 1
  ctxs := vmod b.ctxs 0 (fun _ => some ctx1) })
theorem test_quiesce : ans (vf cmdQuiesce true (vfS .open_ hostS) [1]) = (0, true) ∧ (vget (vf cmdQuiesce true (vfS .open_ hostS) [1]).s.fns 1).st = .quiesced ∧
    ans (vf cmdQuiesce true (vfS .detached hostS) [1]) = (csVF_STATE, true) ∧ ans (vf cmdQuiesce true (vfS .open_ (vfCab hostS)) [1]) = (0, false) ∧
    ans (vf cmdQuiesce false (vfS .quiesced hostS) [1]) = (0, true) := by decide +kernel
theorem test_unquiesce : ans (vf cmdUnquiesce true (vfS .open_ hostS) [1]) = (csVF_STATE, true) ∧
    (vget (vf cmdUnquiesce true (vfS .quiesced hostS) [1]).s.fns 1).sq.tail = 5 ∧ (vget (vf cmdUnquiesce true (vfS .quiesced hostS) [1]).s.fns 1).st = .open_ := by
  decide +kernel
/-- Saving and restoring start on a quiesced VF and on a detached one with a window; the buffer must lie in the host's reach, and be large enough. -/
theorem test_save : ans (vf cmdSaveVf true (vfS .open_ hostS) [1, 0, 0]) = (csVF_STATE, true) ∧ ans (vf cmdSaveVf true (vfS .quiesced hostS) [1, 0, 0]) = (0, false) ∧
    ans (vf cmdSaveVf false (vfS .quiesced bmeS) [1, 2 ^ 38, 1]) = (csWINDOW, true) ∧ ans (vf cmdSaveVf false (vfS .quiesced hostS) [1, 0, 1]) = (csWINDOW, true) := by decide +kernel
def img0 : VfImage := ⟨hostS.rd F.HIF_VERSION_FW_MAJOR 1, 32, 0x300000000, 100, 0, ⟨0, 4, 0, 0, true⟩, ⟨0, 4, 0, 0, true⟩, ⟨0, 4, 0, 0, true⟩, 0, false, [], []⟩
def restores (m : VfImage) (args : List Nat) : Nat × Bool := ans (vfCommand 0 (cmdRestoreVf m) false (vfS .detached bmeS) (subEntry 0x17 args))
theorem test_restore : ans (vfCommand 0 (cmdRestoreVf img0) true (vfS .open_ hostS) (subEntry 0x17 [1])) = (csVF_STATE, true) ∧
    ans (vfCommand 0 (cmdRestoreVf img0) true (vfS .detached hostS) (subEntry 0x17 [1])) = (0, false) ∧ restores img0 [1, 0, 100, 0x100001000] = (0, true) ∧
    restores img0 [1, 0, 99, 0x100001000] = (csBUFFER_SHORT, true) ∧ restores { img0 with winLog2 := 31 } [1, 0, 100, 0x100001000] = (csMIGRATE_MISMATCH, true) ∧
    restores img0 [1, 0, 100, 0x70000000] = (csWINDOW, true) ∧ restores img0 [1, 2 ^ 38, 100, 0x100001000] = (csWINDOW, true) := by decide +kernel
/-- Island commands on the flash-launched cabinet 0 with a resident context, and with none. -/
def islCab (s : State) : State := s.modCab 0 (fun b => { b with
  live := true
  flash := true
  stopped := true
  due := [(3, 0)] })
def isl (run : Bool → State → CabId → Ans) (f : Fin 33) (s : State) (n : Nat) : Ans := islandCommand f run true s (subEntry 0 [n])
theorem test_island_commands : ans (isl cmdCabStop 32 (islCab hostS) 8) = (csBAD_COMMAND, true) ∧ ans (isl cmdCabStop 0 (islCab hostS) 0) = (csDENIED_AUTHORITY, true) ∧
    ans (isl cmdCabStop 32 (islCab hostS) 0) = (0, true) ∧ ans (isl cmdCabStop 32 (inCabinet ctx1 hostS) 0) = (0, false) ∧
    ((isl cmdCabStop 32 (inCabinet ctx1 hostS) 0).s.cab 0).stopped = true ∧ ((isl cmdCabStart 32 (islCab hostS) 0).s.cab 0).stopped = false ∧
    ((isl cmdCabStart 32 (islCab hostS) 0).s.cab 0).due = [] ∧ ans (isl cmdCabRestart 32 (islCab hostS) 0) = (0, true) := by decide +kernel
theorem test_island_command_runs : (headed 32 0x31 [0] (islCab hostS)).takesCmd 32 = true ∧ knownOpc 32 0x31 = true ∧
    got (.cabinetStart 32) (headed 32 0x31 [0] (islCab hostS)) (fun t => (t.cab 0).stopped) = false := by decide +kernel
/-- Commands about VFs and of the island at the head of a ring, and under way. -/
theorem test_vf_queued : Queued (headed 0 0x10 [2, 0x300000000] hostS) 0 0x10 2 (subEntry 0x10 [2, 0x300000000]) ∧ hostS.fnExists 2 = true ∧
    0x300000000 + 2 ^ hostS.winLog2 ≤ hostS.lpddrEnd ∧ hostS.secureAddr 0x300000000 = false ∧ 0x300000000 % 2 ^ hostS.winLog2 = 0 ∧
    (∀ g : Fin 33, g.val ≠ 32 → g ≠ 2 → (vget hostS.fns g).win = none ∨ (vget hostS.fns g).win = some 0x200000000) ∧
    0x200000000 + 2 ^ hostS.winLog2 ≤ 0x300000000 :=
  ⟨queued_of 0x100002000 (by decide +kernel), by decide +kernel, by decide +kernel, by decide +kernel, by decide +kernel, by decide +kernel, by decide +kernel⟩
theorem test_dirty_queued : Queued (headed 0 0x11 [1, 0x100001000, 0x100002000, 32768] hostS) 0 0x11 4 (subEntry 0x11 [1, 0x100001000, 0x100002000, 32768]) ∧
    hostS.reach 0 0x100001000 1 = true ∧ Queued (headed 0 0x12 [1] loggedS) 0 0x12 1 (subEntry 0x12 [1]) ∧
    Queued (headed 0 0x13 [1] loggedS) 0 0x13 1 (subEntry 0x13 [1]) ∧ (vget loggedS.fns 1).dirty = some ⟨0x100001000, 0x100002000, 32768, false, 7⟩ :=
  ⟨queued_of 0x100002000 (by decide +kernel), by decide +kernel, queued_of 0x100002000 (by decide +kernel), queued_of 0x100002000 (by decide +kernel),
    by decide +kernel⟩
/-- VF 1 open with a cabinet whose context is stored; quiesced without recorded doorbells. -/
def storedVf : State := headed 0 0x14 [1] (vfS .open_ ((vfCab hostS).modCab 0 (fun b => { b with ctxs := vmod b.ctxs 0 (fun _ => some { ctx1 with
  drawer := none
  st := .stored }) })))
def calledBack : State := headed 0 0x15 [1] { hostS with fns := vmod hostS.fns 1 (fun x => { x with st := .quiesced }) }
theorem test_quiesce_queued : Queued storedVf 0 0x14 1 (subEntry 0x14 [1]) ∧ (vget storedVf.fns 1).st = .open_ ∧
    (storedVf.ctx? 0 0).map (fun z => z.drawer) = some none ∧ Queued calledBack 0 0x15 1 (subEntry 0x15 [1]) ∧
    (vget calledBack.fns 1).doorbells = [] ∧ (vget calledBack.fns 1).st = .quiesced :=
  ⟨queued_of 0x100002000 (by decide +kernel), by decide +kernel, by decide +kernel, queued_of 0x100002000 (by decide +kernel), by decide +kernel, by decide +kernel⟩
/-- While a VF is under reset a command about it waits. -/
theorem test_vf_resetting : (vf cmdQuiesce true resettingS [1]).started = false := by decide +kernel
/-- A save of VF 1 and a restore without cabinets under way: the buffer lies in the host's reach. -/
def moving (opc : Nat) (args : List Nat) : State :=
  let s := headed 0 opc args (vfS (if opc = 0x16 then .quiesced else .detached) bmeS)
  { s with fns := vmod s.fns 0 (fun x => { x with cmd := subEntry opc args }) }
theorem moving_size : ((moving 0x16 [1, 0, 0x400000]).vfImage 1).2.size ≤ 0x400000 := by
  have h : (moving 0x16 [1, 0, 0x400000]).fnCabs 1 = [] := by decide +kernel
  simp only [State.vfImage, h]
  exact Nat.le_of_lt_succ (Nat.mod_lt _ (by decide))
theorem test_move_going : Going (moving 0x16 [1, 0, 0x400000]) 0 0x16 (subEntry 0x16 [1, 0, 0x400000]) ∧
    ((moving 0x16 [1, 0, 0x400000]).vfImage 1).2.size ≤ 0x400000 ∧ (vget (moving 0x16 [1, 0, 0x400000]).fns 0).bme = true ∧
    Going (moving 0x17 [1, 0, 100, 0x100001000]) 0 0x17 (subEntry 0x17 [1, 0, 100, 0x100001000]) ∧ img0.cabs = [] ∧ img0.size ≤ 100 ∧
    ((moving 0x17 [1, 0, 100, 0x100001000]).argAddr 0 none 0x100001000 0).isSome = true ∧ img0.winLog2 = (moving 0x17 [1, 0, 100, 0x100001000]).winLog2 :=
  ⟨going_of (by decide +kernel), moving_size, by decide +kernel, going_of (by decide +kernel), by decide +kernel, by decide +kernel, by decide +kernel,
    by decide +kernel⟩
theorem test_island_queued : Queued (headed 32 0x30 [0] (islCab hostS)) 32 0x30 1 (subEntry 0x30 [0]) ∧
    Queued (headed 32 0x31 [0] (islCab hostS)) 32 0x31 1 (subEntry 0x31 [0]) ∧ Queued (headed 32 0x32 [0] (islCab hostS)) 32 0x32 1 (subEntry 0x32 [0]) ∧
    (headed 32 0x32 [0] (islCab hostS)).Owns 32 0 ∧ (∀ y, (islCab hostS).ctx? 0 y = none) ∧ ((islCab hostS).cab 0).aborting = [] ∧
    ((islCab hostS).cab 0).stopped = true ∧ ((islCab hostS).cab 0).manifest = none :=
  ⟨queued_of 0x100002000 (by decide +kernel), queued_of 0x100002000 (by decide +kernel), queued_of 0x100002000 (by decide +kernel),
    ⟨by decide +kernel, by decide +kernel, by decide +kernel⟩, by decide +kernel, by decide +kernel, by decide +kernel, by decide +kernel⟩
/-- HOST_LOST: an open PF and a detached VF; once. -/
def monS : State := { opened id hostS with host := { hostS.host with monitored := true } }
def lossOf (f : Fin 33) (s : State) : FnState × Bool × Bool := ((vget s.fns f).st, (vget s.fns f).suspended, (vget s.fns f).owed)
theorem test_host_lost : got .heartbeatTimeout monS (fun t => (lossOf 0 t, lossOf 1 t, t.host.lostAt, t.host.monitored)) =
      ((.lost, true, true), (.detached, true, true), some 0, false) ∧ (after .heartbeatTimeout hostS).host.lostAt = none ∧
    got .pcieLinkDown (opened id hostS) (fun t => (t.linkUp, lossOf 0 t)) = (false, (.lost, true, true)) ∧
    (after .pcieLinkDown { hostS with linkUp := false }).host.lostAt = none ∧
    (after .pcieLinkDown { hostS with host := { hostS.host with lostAt := some 9 } }).host.lostAt = some 9 := by decide +kernel
/-- The host state discarded: of suspended functions, with their cabinets and windows. -/
def suspS (b : Bool) : State := vfCab { hostS with fns := vmod hostS.fns 1 (fun x => { x with suspended := b }) }
theorem test_discard : got .hostStateDiscard (suspS true) (fun t => ((t.cab 0).live, (vget t.fns 1).win, (vget t.fns 1).gone, (vget t.fns 1).suspended)) =
      (false, none, true, false) ∧
    got .hostStateDiscard (suspS false) (fun t => ((t.cab 0).live, (vget t.fns 1).win)) = (true, some 0x200000000) := by decide +kernel
/-- The FLR of VF 1: its cabinet stays, its semaphores are 0, its window stays; a save of it under way ends. -/
def flrS : State := (vfCab hostS).modCab 0 (fun b => { b with
  sems := Vector.replicate 64 5
  ctxs := Vector.replicate 72 none })
theorem test_vf_flr : hostS.fnExists 1 = true ∧ got (.vfFlr 1) flrS (fun t => ((t.cab 0).live, vget (t.cab 0).sems 63, (vget t.fns 1).win, (vget t.fns 1).st)) =
      (true, 0, some 0x200000000, .detached) ∧ (after (.vfFlr 1) flrS).msixByte 1 12 = 1 ∧ (after (.vfFlr 0) flrS).cabs = flrS.cabs := by decide +kernel
theorem test_vf_flr_ends : got (.vfFlr 1) (wayS 0 0x16 [1, 0, 0] []) (fun t => ((vget t.fns 0).cmd, (vget t.fns 0).sq.tail)) = ([], 1) ∧
    (vget (after (.vfFlr 1) (wayS 0 0x16 [2, 0, 0] [])).fns 0).cmd.length = 64 := by decide +kernel
theorem test_discard_fn : ((vfCab hostS).discardFn 1).host.vfEnable = true ∧ (((vfCab hostS).discardFn 1).cab 0).live = false ∧
    (((vfCab hostS).discardFn 2).cab 0).live = true ∧ (vget ((vfCab hostS).discardFn 1).fns 1).gone = true := by decide +kernel
theorem test_vf_clear_down : got .vfEnableClear ({ vfCab on with linkUp := false } : State) (fun t => (t.cab 0).live) = true := by decide +kernel
theorem test_perst : (after .perstNDeassert ({ on with linkUp := false } : State)).linkUp = true ∧
    (after .perstNDeassert ({ without 41 with linkUp := false } : State)).linkUp = false := by decide +kernel
/-- While an abort of VF 1's cabinet waits for fabric accesses the reset goes on and the cabinet stays; a discard then destroys it (15 R541). -/
def heldS : State := (vfCab hostS).modCab 0 (fun b => { b with
  aborting := [(0, true)]
  ctxs := vmod b.ctxs 0 (fun _ => some { ctx1 with st := .aborting }) })
theorem test_vf_flr_waits : got (.vfFlr 1) heldS (fun t => ((vget t.fns 1).st, (t.cab 0).live, (t.cab 0).after)) = (.resetting, true, .flr) ∧
    got .vfEnableClear heldS (fun t => ((vget t.fns 1).st, (t.cab 0).live, (t.cab 0).after)) = (.detached, true, .destroy) := by decide +kernel
/-- Register accesses: a wide one (MTU_SET) as two words, one that is not aligned, an offset without a register, a writer that may not. -/
def setAddr : Nat := R.MTU_SET.addr 0 0
def half : State := after (.registerWrite .sec setAddr [5, 0, 0, 0]) on
theorem test_word_pairs : findReg setAddr = some (R.MTU_SET, 0, 0, false) ∧ findReg (setAddr + 4) = some (R.MTU_SET, 0, 0, true) ∧
    on.regRefusal .sec setAddr 4 = none ∧ half.mtu = on.mtu ∧
    (after (.registerWrite .sec (setAddr + 4) [1, 0, 0, 0]) half).mtu = (2 ^ 32 + 5) * 2 ^ 32 ∧
    got (.registerWrite .sec (setAddr + 2) [1, 0, 0, 0]) on (fun t => (t.resp, t.regs.lo)) = (⟨stFABRIC_ERR, []⟩, []) := by decide +kernel
/-- The high word of MTU_NOW is that of the time when the low word was read. -/
def nowAddr : Nat := R.MTU_NOW.addr 0 0
def readLow : State := after (.lowWordRead .sec nowAddr) { on with mtu := (7 * 2 ^ 32 + 9) * 2 ^ 32 }
theorem test_latch : readLow.resp = ⟨0, [9, 0, 0, 0]⟩ ∧ (after (.lowWordRead .sec (nowAddr + 4)) { readLow with mtu := 0 }).resp = ⟨0, [7, 0, 0, 0]⟩ := by
  decide +kernel
/-- TE_DRW_IB: BASE_BLK + BLKS of 32 is taken, 33 is not. -/
def ibAddr : Nat := R.TE_DRW_IB.addr 3 7
theorem test_allotment : on.regRefusal .sch ibAddr 4 = none ∧ (after (.registerWrite .sch ibAddr (leBytes (31 + 1 * 256) 4)) on).rd F.TE_DRW_IB_BASE_BLK 3 7 = 31 ∧
    (after (.registerWrite .sch ibAddr (leBytes (31 + 2 * 256) 4)) on).rd F.TE_DRW_IB_BASE_BLK 3 7 = on.rd F.TE_DRW_IB_BASE_BLK 3 7 := by decide +kernel
/-- Counters at their last value: one that runs wraps, one that is stopped or frozen stands; the trigger tags or is lost. -/
def cntS (en : Nat) : State := ((on.put F.TE_PERF_CTL_EN 15 0 en).put F.TE_PERF_CNT_COUNT 15 7 (2 ^ 48 - 1)).put F.TE_PSB_CFG_TRIG 15 0 7
def cnt (s : State) : Nat × Nat × Bool × Nat := (s.rd F.TE_PERF_CNT_COUNT 15 7, s.rd F.TE_PERF_STAT_OVF 15, (s.eng 15).tagNext, s.rd F.TE_PSB_LOST_LOST 15)
theorem test_counters : got (.counterOverflow false 15 7) (cntS 128) cnt = (0, 128, false, 0) ∧ got (.counterOverflow false 15 7) (cntS 127) cnt = (2 ^ 48 - 1, 0, false, 0) ∧
    got (.counterOverflow false 15 7) ((cntS 128).put0 F.PERF_FREEZE_FREEZE 1) cnt = (2 ^ 48 - 1, 0, false, 0) ∧
    got (.counterOverflow false 15 7) ((cntS 128).put F.TE_PSB_CFG_EN 15 0 1) cnt = (0, 128, true, 0) ∧
    got (.counterOverflow false 15 7) (((cntS 128).put F.TE_PSB_CFG_EN 15 0 1).put F.TE_PSB_WR_WR 15 0 256) cnt = (0, 128, false, 1) := by decide +kernel
theorem test_shared_counters : got (.counterOverflow true 3 3) ((on.put F.PERF_CTL_EN 3 0 8).put F.PERF_CNT_COUNT 3 3 (2 ^ 48 - 1)) (fun t => (t.rd F.PERF_CNT_COUNT 3 3,
      t.rd F.PERF_STAT_OVF 3)) = (0, 8) ∧ (after (.counterOverflow true 3 3) (on.put F.PERF_CNT_COUNT 3 3 (2 ^ 48 - 1))).rd F.PERF_CNT_COUNT 3 3 = 2 ^ 48 - 1 ∧
    (after (.perfFreeze (.isl 1) true) on).perfFrozen 16 = true ∧ (after (.perfFreeze .sch false) (on.put0 F.PERF_FREEZE_FREEZE 1)).flag F.PERF_FREEZE_FREEZE = false := by
  decide +kernel
/-- Narrow registers at once; a writer the block does not take; an offset without a register. -/
theorem test_plain_registers : got (.registerWrite (.isl 0) (R.GPIO_OUT.addr 0 0) [9, 0, 0, 0]) on (fun t => (t.rd F.GPIO_OUT_V, t.resp)) = (9, ⟨0, []⟩) ∧
    (after (.lowWordRead (.isl 0) (R.GPIO_OUT.addr 0 0)) (on.put0 F.GPIO_OUT_V 6)).resp = ⟨0, [6, 0, 0, 0]⟩ ∧
    on.mayWriteAny (.cc 0) R.MTU_SET 0 = false ∧ (after (.registerWrite (.cc 0) (setAddr + 4) [1, 0, 0, 0]) half).mtu = on.mtu ∧
    findReg 0x200210F0 = none ∧ (after (.lowWordRead (.isl 0) 0x200210F0) on).resp = ⟨0, [0, 0, 0, 0]⟩ := by decide +kernel

/-! ### Well-formedness: a term that each check refuses, and the last that it takes -/

theorem test_wf_fields : (Instr.vop 0 256 0).wellFormed = false ∧ (Instr.vop 0 255 9).wellFormed = true ∧ (Instr.ctEntryFire 0 64).wellFormed = false ∧
    (Instr.lpddr5xRead .sch (2 ^ 48) 1 ⟨0, 0⟩).wellFormed = false ∧ (Instr.lpddr5xRead .sch (2 ^ 48 - 1) 1 ⟨(2 ^ 19 - 1), 3⟩).wellFormed = true ∧
    (Instr.lpddr5xRead .sch 0 1 ⟨(2 ^ 19), 0⟩).wellFormed = false ∧ (Instr.lpddr5xRead .sch 0 1 ⟨0, (2 ^ 32)⟩).wellFormed = false ∧
    (Instr.lpddr5xRead .sch 0 0 ⟨0, 0⟩).wellFormed = false := by decide +kernel
theorem test_wf_values : (Instr.arbCfgEn (.isl 0) (2 ^ 64)).wellFormed = false ∧ (Instr.secureInterrupt 0 0 (2 ^ 32)).wellFormed = false ∧
    (Instr.xspiRead .sec (2 ^ 32)).wellFormed = false ∧ (Instr.canFrameReceive 0 (2 ^ 32) []).wellFormed = false ∧
    (Instr.avsStep 4096 true).wellFormed = false ∧ (Instr.submissionTail 0 0 4096).wellFormed = false ∧ (Instr.fdbRead .sec 8192).wellFormed = false ∧
    (Instr.vlanRead .sec 4096).wellFormed = false ∧ (Instr.mtuSet .sec (2 ^ 64)).wellFormed = false := by decide +kernel
theorem test_wf_packets : (Instr.csiLongPacket 0 16 0 [] true true).wellFormed = false ∧ (Instr.csiLongPacket 0 15 64 [] true true).wellFormed = false ∧
    (Instr.csiLongPacket 0 15 63 [] true true).wellFormed = true ∧ (Instr.linDone 0 true true 256 [] 0).wellFormed = false ∧
    (Instr.linDone 0 true true 255 [] 256).wellFormed = false ∧ (Instr.linDone 0 true true 0 (List.replicate 9 0) 0).wellFormed = false ∧
    (Instr.canFrameReceive 0 0 (List.replicate 2049 0)).wellFormed = false := by decide +kernel
theorem test_wf_accesses : (Instr.lpddr5xWrite .sch 0 [] ⟨0, 0⟩).wellFormed = false ∧ (Instr.registerWrite .sch 0 [1, 2]).wellFormed = false ∧
    (Instr.registerWrite .sch 0 (List.replicate 16 0)).wellFormed = true ∧ (Instr.counterOverflow false 16 0).wellFormed = false ∧
    (Instr.counterOverflow true 3 4).wellFormed = false ∧ (Instr.counterOverflow true 4 3).wellFormed = false ∧
    (Instr.counterOverflow true 3 3).wellFormed = true := by decide +kernel

end Sys2Proof.Tests
end

section
/-! Word accesses to registers (00 R5; 19 R610, R611): what a refused one leaves alone, what one word's read and write do, and
the pairs of words that the registers of 64 bits are. -/

namespace Sys2Proof.Machine

/-! ### Tables of values and bytes -/

/-- A key whose entry is taken out answers the default. -/
theorem lookupN_filter_ne (d k : Nat) (l : List (Nat × Nat)) : lookupN d k (l.filter (fun c => c.1 != k)) = d := by
  have hnone : (l.filter (fun c => c.1 != k)).find? (fun c => c.1 == k) = none := by
    rw [List.find?_eq_none]
    intro c hc
    have hk : c.1 ≠ k := by simpa using (List.mem_filter.mp hc).2
    simpa using hk
  rw [lookupN, hnone]

theorem ofBytes_lt (l : List Byte) : ofBytes l < 256 ^ l.length := by
  induction l with
  | nil => exact Nat.one_pos
  | cons b l ih =>
    have hb : b.toNat < 256 := b.isLt
    rw [List.length_cons, Nat.pow_succ, ofBytes]
    omega

/-- Four bytes are one word. -/
theorem ofBytes_mod_word {l : List Byte} (h : l.length = 4) : ofBytes l % 2 ^ 32 = ofBytes l :=
  Nat.mod_eq_of_lt (by simpa [h] using ofBytes_lt l)

theorem vget_replicate {α : Type} {n : Nat} (x : α) (i : Fin n) : vget (Vector.replicate n x) i = x :=
  Vector.getElem_replicate i.isLt

/-! ### What a refused access leaves alone (12 R391) -/

/-- Registers outside `w`, every value in effect, every pending low word and every latched high word are in `t` as in `s`. -/
def RegsKeptBut (w : Nat → Prop) (s t : State) : Prop :=
  SameRegsBut w s t ∧ t.regs.eff = s.regs.eff ∧ t.regs.lo = s.regs.lo ∧ t.regs.hi = s.regs.hi

theorem RegsKeptBut.refl (w : Nat → Prop) (s : State) : RegsKeptBut w s s := ⟨SameRegsBut.refl w s, rfl, rfl, rfl⟩

/-- One more field put inside `w`. -/
theorem RegsKeptBut.put0 {w : Nat → Prop} {s t : State} (h : RegsKeptBut w s t) (f : Fld) (v : Nat) (hw : w (f.reg.addr 0 0)) :
    RegsKeptBut w s (t.put0 f v) := by
  obtain ⟨hval, heff, hlo, hhi⟩ := h
  exact ⟨SameRegsBut.trans hval (SameRegsBut.put t f 0 0 v hw), heff, hlo, hhi⟩

/-- The block of the memory system's registers, its error log among them (12 R391). -/
def memBlock (x : Nat) : Prop := 0x40040000 ≤ x ∧ x < 0x40050000

/-- The error log of the memory system stands in the registers of its block. -/
theorem State.memLog_regsKept (s : State) (kind a m : Nat) : RegsKeptBut memBlock s (s.memLog kind a m) := by
  have herr : memBlock (R.MEM_ERR.addr 0 0) := ⟨by decide, by decide⟩
  have haddr : memBlock (R.MEM_ERR_ADDR.addr 0 0) := ⟨by decide, by decide⟩
  have hinfo : memBlock (R.MEM_ERR_INFO.addr 0 0) := ⟨by decide, by decide⟩
  unfold State.memLog
  split
  · exact RegsKeptBut.refl _ s
  · extract_lets bitF t
    have hbit : bitF.reg = R.MEM_ERR := by unfold bitF; split <;> rfl
    have ht : RegsKeptBut memBlock s t := (RegsKeptBut.refl _ s).put0 bitF 1 (hbit ▸ herr)
    split
    · exact ht.put0 _ _ hinfo
    · exact ((((ht.put0 _ _ haddr).put0 _ _ haddr).put0 _ _ hinfo).put0 _ _ hinfo).put0 _ _ hinfo

/-- An access of four bytes off its alignment is refused as out of range, or, through a bridge without power, as out of view. -/
theorem State.regRefusal_unaligned (s : State) (m : Master) {a : Nat} (h : a % 4 ≠ 0) :
    ∃ e : AccErr, (e = .view ∨ e = .range) ∧ s.regRefusal m a 4 = some e := by
  have hshape : regShape a 4 = false := by simp [regShape, h]
  unfold State.regRefusal
  split
  · exact ⟨.view, .inl rfl, rfl⟩
  · exact ⟨.range, .inr rfl, by simp [hshape]⟩

/-- The log of either refusal changes no register outside the memory system's block. -/
theorem State.logRefusal_regsKept (s : State) {e : AccErr} (h : e = .view ∨ e = .range) (a : Nat) (m : Master) :
    RegsKeptBut memBlock s (s.logRefusal e a m) := by
  obtain rfl | rfl := h
  · exact RegsKeptBut.refl _ s
  · exact s.memLog_regsKept 1 a m.num

/-! ### Accesses of one word (19 R610, R611) -/

/-- A refused read is logged and gets an error response. -/
theorem State.regRead_refused {s : State} {m : Master} {a n : Nat} {e : AccErr} (h : s.regRefusal m a n = some e) :
    s.regRead m a n = (s.logRefusal e a m).answer stFABRIC_ERR [] := by
  simp only [State.regRead, h]

/-- A refused write is logged and gets an error response. -/
theorem State.regWrite_refused {s : State} {m : Master} {a : Nat} {l : List Byte} {e : AccErr}
    (h : s.regRefusal m a l.length = some e) : s.regWrite m a l = (s.logRefusal e a m).answer stFABRIC_ERR [] := by
  simp only [State.regWrite, h]

/-- A read off its alignment changes no register outside the memory system's block. -/
theorem State.regRead_unaligned (s : State) (m : Master) {a : Nat} (h : a % 4 ≠ 0) :
    (s.regRead m a 4).resp = ⟨stFABRIC_ERR, []⟩ ∧ RegsKeptBut memBlock s (s.regRead m a 4) := by
  obtain ⟨e, he, hr⟩ := s.regRefusal_unaligned m h
  rw [State.regRead_refused hr]
  exact ⟨rfl, s.logRefusal_regsKept he a m⟩

/-- A write off its alignment changes no register outside the memory system's block. -/
theorem State.regWrite_unaligned (s : State) (m : Master) {a : Nat} {l : List Byte} (hl : l.length = 4) (h : a % 4 ≠ 0) :
    (s.regWrite m a l).resp = ⟨stFABRIC_ERR, []⟩ ∧ RegsKeptBut memBlock s (s.regWrite m a l) := by
  obtain ⟨e, he, hr⟩ := s.regRefusal_unaligned m h
  rw [State.regWrite_refused (hl ▸ hr)]
  exact ⟨rfl, s.logRefusal_regsKept he a m⟩

/-- A read of four bytes that is served reads one word. -/
theorem State.regRead_word {s : State} {m : Master} {a : Nat} (h : s.regRefusal m a 4 = none) :
    s.regRead m a 4 = (s.readWord m a).1.answer stOK (leBytes (s.readWord m a).2 4) := by
  simp only [State.regRead, h]
  simp [State.readWords]

/-- A write of four bytes that is served writes one word. -/
theorem State.regWrite_word {s : State} {m : Master} {a : Nat} {l : List Byte} (hl : l.length = 4)
    (h : s.regRefusal m a 4 = none) : s.regWrite m a l = (s.writeWord m a (ofBytes l)).answer stOK [] := by
  have htake : l.take 4 = l := List.take_of_length_le (Nat.le_of_eq hl)
  rw [State.regWrite, hl, h]
  simp [State.writeWords, hl, htake]

/-- LOW_WORD_READ of a master whose accesses are made and reach the address. -/
theorem Does.lowWordRead {s : State} {m : Master} {a : Nat} {P : State → Prop} (hclk : s.clkOf m = true)
    (hreach : regReach m a = true) (h : P (s.regRead m a 4)) : Does (.lowWordRead m a) s P := by
  refine ⟨s.regRead m a 4, ?_, h⟩
  show execLowWordRead m a s = _
  rw [execLowWordRead, hclk, State.gate_true, State.registerRead, if_pos hreach]

/-- REGISTER_WRITE of a master whose accesses are made and reach the address. -/
theorem Does.registerWrite {s : State} {m : Master} {a : Nat} {l : List Byte} {P : State → Prop} (hclk : s.clkOf m = true)
    (hreach : regReach m a = true) (h : P (s.regWrite m a l)) : Does (.registerWrite m a l) s P := by
  refine ⟨s.regWrite m a l, ?_, h⟩
  show execRegisterWrite m a l s = _
  rw [execRegisterWrite, hclk, State.gate_true, State.registerWrite, if_pos hreach]

/-! ### Where the high word lies (19 R610, R616) -/

/-- Every mapped block lies well inside the Cabin Bus window or the register space. -/
theorem regDomain_bounds {a : Nat} (h : regDomain a ≠ none) :
    (0x20000000 ≤ a ∧ a < 0x20026000) ∨ (0x40000000 ≤ a ∧ a < 0x40300000) := by
  refine Decidable.byContradiction fun hout => h ?_
  have hmiss : ∀ b e, (0x20000000 ≤ b ∧ e ≤ 0x20026000) ∨ (0x40000000 ≤ b ∧ e ≤ 0x40300000) →
      ¬ (b ≤ a ∧ a < e) := by
    omega
  simp [regDomain, hmiss]

theorem State.regDomain_of_served {s : State} {m : Master} {a n : Nat} (h : s.regRefusal m a n = none) : regDomain a ≠ none := by
  intro hnone
  simp only [State.regRefusal, hnone] at h
  split at h <;> simp at h

/-- A master that reaches a word it is served reaches the next word as well. -/
theorem State.regReach_high {s : State} {m : Master} {a n : Nat} (hreach : regReach m a = true)
    (h : s.regRefusal m a n = none) : regReach m (a + 4) = true := by
  rcases regDomain_bounds (State.regDomain_of_served h) with ⟨hlo, hhi⟩ | ⟨hlo, hhi⟩
  · have hin : inCabin a = true := by simp [inCabin]; omega
    have hin' : inCabin (a + 4) = true := by simp [inCabin]; omega
    simpa [regReach, hin, hin'] using hreach
  · have hout : inCabin (a + 4) = false := by simp [inCabin]; omega
    simp [regReach, hout]
    omega

/-! ### Pairs of words (00 R5) -/

section
variable {s : State} {m : Master} {a : Nat} {r : RegDef} {i j : Nat}

/-- The read of a low word returns the low half of the register's value. -/
theorem State.readWord_low (hr : findReg a = some (r, i, j, false)) (hw : r.wide = true) (hv : r.is R.PMC_VCORE = false) :
    (s.readWord m a).2 = s.readReg m r i j % 2 ^ 32 ∧
    (s.readWord m a).1.regs.hi = insertN (r.addr i j) (s.readReg m r i j / 2 ^ 32) s.regs.hi := by
  simp only [State.readWord, hr, hv, hw]
  by_cases hmtu : r.is R.MTU_NOW = true
  · simp [hmtu, State.put0, State.put, State.setReg]
  · simp [hmtu]

/-- The read of a high word returns the latched half where one is latched. -/
theorem State.readWord_high (hr : findReg a = some (r, i, j, true)) (hw : r.wide = true) (hv : r.is R.PMC_VCORE = false) :
    (s.readWord m a).2 = lookupN (s.readReg m r i j / 2 ^ 32) (r.addr i j) s.regs.hi := by
  simp [State.readWord, hr, hv, hw]

/-- The write of a low word leaves the word pending. -/
theorem State.writeWord_low (hr : findReg a = some (r, i, j, false)) (hw : r.wide = true) (hm : s.mayWriteAny m r i = true)
    (n : Nat) : s.writeWord m a n =
      { s with regs := { s.regs with lo := insertN (s.pairOf m r i j) (n % 2 ^ 32) s.regs.lo } } := by
  simp [State.writeWord, hr, hw, hm]

/-- The state without the pending low word of a pair. -/
def State.dropPending (s : State) (key : Nat) : State :=
  { s with regs := { s.regs with lo := s.regs.lo.filter (fun c => c.1 != key) } }

/-- The write of a high word writes the whole register and uses the pending low word up. -/
theorem State.writeWord_high (hr : findReg a = some (r, i, j, true)) (hw : r.wide = true) (hm : s.mayWriteAny m r i = true)
    (n : Nat) : s.writeWord m a n = (s.dropPending (s.pairOf m r i j)).writeReg m r i j
      (n % 2 ^ 32 * 2 ^ 32 + lookupN (s.lowNow r i j) (s.pairOf m r i j) s.regs.lo) := by
  simp [State.writeWord, hr, hw, hm, State.dropPending]

/-- The access that reads a latched high word answers the latched half, whatever the register holds by then. -/
theorem State.regRead_high_latched {n : Nat} {l : List (Nat × Nat)} (hok : s.regRefusal m a 4 = none)
    (hr : findReg a = some (r, i, j, true)) (hw : r.wide = true) (hv : r.is R.PMC_VCORE = false)
    (hhi : s.regs.hi = insertN (r.addr i j) n l) : (s.regRead m a 4).resp = ⟨stOK, leBytes n 4⟩ := by
  rw [State.regRead_word hok, State.readWord_high hr hw hv, hhi, lookupN_insertN_same]
  rfl

/-- The access that writes the high word of a pair whose low word `n` is pending writes the value of both. -/
theorem State.regWrite_high_pending {n : Nat} {l : List Byte} {lo : List (Nat × Nat)} (hl : l.length = 4)
    (hok : s.regRefusal m a 4 = none) (hr : findReg a = some (r, i, j, true)) (hw : r.wide = true)
    (hm : s.mayWriteAny m r i = true) (hlo : s.regs.lo = insertN (s.pairOf m r i j) n lo) :
    s.regWrite m a l =
      ((s.dropPending (s.pairOf m r i j)).writeReg m r i j (ofBytes l * 2 ^ 32 + n)).answer stOK [] := by
  rw [State.regWrite_word hl hok, State.writeWord_high hr hw hm, ofBytes_mod_word hl, hlo, lookupN_insertN_same]

end

/-! ### The statements of chapter 00 -/

/-- Settles O58: the log of a refusal keeps to its own block; the latch and the pending word of a pair are found again under the
pair's key, whatever else a later state holds. -/
theorem wideRegistersAreWordPairs : Obligations.WideRegistersAreWordPairs := by
  unfold Obligations.WideRegistersAreWordPairs
  intro s m a hclk hreach
  constructor
  · intro hal l hl
    obtain ⟨hrresp, -, -, hrlo, hrhi⟩ := s.regRead_unaligned m hal
    obtain ⟨hwresp, hval, heff, hwlo, -⟩ := s.regWrite_unaligned m hl hal
    exact ⟨Does.lowWordRead hclk hreach ⟨hrresp, hrlo, hrhi⟩, Does.registerWrite hclk hreach ⟨hwresp, hwlo, heff, hval⟩⟩
  · intro r i j hok hlow hhigh hw hv
    have hreach' : regReach m (a + 4) = true := State.regReach_high hreach hok
    constructor
    · rintro v rfl
      obtain ⟨hword, hlatch⟩ := State.readWord_low (s := s) (m := m) hlow hw hv
      refine Does.lowWordRead hclk hreach ?_
      rw [State.regRead_word hok, hword]
      refine ⟨rfl, fun u hu huclk huok => Does.lowWordRead huclk hreach' ?_⟩
      exact State.regRead_high_latched huok hhigh hw hv (hu.trans hlatch)
    · intro hm lo hi hlo hhi
      refine Does.registerWrite hclk hreach ?_
      rw [State.regWrite_word hlo hok, State.writeWord_low hlow hw hm, ofBytes_mod_word hlo]
      refine ⟨rfl, rfl, rfl, rfl, fun u hu huclk huok hum hpair => Does.registerWrite huclk hreach' ?_⟩
      exact ⟨u.dropPending (u.pairOf m r i j), rfl, lookupN_filter_ne _ _ _,
        State.regWrite_high_pending hhi huok hhigh hw hum (hpair ▸ hu)⟩

/-- Settles O3: no register has an entry, so each reads its Reset column, and the parts of a kind are copies of the empty one. -/
theorem resetState : Obligations.ResetState := by
  unfold Obligations.ResetState
  have hfn : ∀ f, vget State.reset.fns f = emptyFn := vget_replicate emptyFn
  have hcab : ∀ c, State.reset.cab c = emptyCabinet := vget_replicate emptyCabinet
  refine ⟨fun r i j => ⟨rfl, rfl⟩, vget_replicate true, rfl, fun f => ?_, fun c => ?_, fun a => rfl, fun a => rfl, rfl⟩
  · rw [hfn]; rfl
  · rw [hcab]; rfl

end Sys2Proof.Machine
end

section
/-! The Requantiser (03 R75 to R79): what its meaning reads and stores, and the row that a running REQ converts. -/

namespace Sys2Proof.Machine

/-! ### The state while an engine works on an instruction (04 R97) -/

@[simp] theorem State.working_lmNat (s : State) (k : EngineId) (i : Ins) (j : EngineId) (d : Fin 8) (off n : Nat) :
    (s.working k i).lmNat j d off n = s.lmNat j d off n := rfl

@[simp] theorem State.working_acc (s : State) (k : EngineId) (i : Ins) (j : EngineId) (d : Fin 8) (a m n : Nat) :
    (s.working k i).acc j d a m n = s.acc j d a m n := rfl

@[simp] theorem State.working_reqEntry (s : State) (k : EngineId) (i : Ins) (j : EngineId) (d : Fin 8) (q c : Nat) :
    (s.working k i).reqEntry j d q c = s.reqEntry j d q c := rfl

@[simp] theorem State.working_drw (s : State) (k : EngineId) (i : Ins) (d : Fin 8) : (s.working k i).drw k d = s.drw k d := by
  simp [State.working, State.setQct, State.drw]

theorem windowBytes_working (s : State) (k : EngineId) (i : Ins) (j : EngineId) (d : Fin 8) (ws : List (Nat × Byte)) :
    windowBytes (s.working k i) j d ws = windowBytes s j d ws := rfl

/-! ### A store into the window -/

/-- The Cabin Bus monitor's event is a report, and nothing else. -/
theorem State.barredLog_eq (s : State) (l : List (Nat × Byte)) : s.barredLog l = { s with out := (s.barredLog l).out } := by
  cases l <;> rfl

/-- Only the Island Engine's writes can be barred (13 R421). -/
theorem State.barred_other (s : State) {k : EngineId} (h : k.val ≠ 16) (ws : List (Nat × Byte)) : s.barred k ws = [] := if_neg h

/-- A store into the window leaves every drawer alone. -/
@[simp] theorem State.lmStore_drw (s : State) (k : EngineId) (d : Fin 8) (ws : List (Nat × Byte)) (j : EngineId) (c : Fin 8) :
    (s.lmStore k d ws).1.drw j c = s.drw j c := by
  unfold State.lmStore
  dsimp only
  rw [State.barredLog_eq]
  rfl

/-- A store leaves every byte that it does not write. -/
theorem Stored.of_mem {ws : List (Nat × Byte)} {s t : State} (h : t.mem = (s.mem.store ws).1) : Stored ws s t := by
  refine ⟨h, fun a ha => ?_⟩
  rw [h]
  exact Mem.read_store_other _ _ (fun w hw hwa => ha ⟨w, hw, hwa⟩)

/-- A unit of work that stores into the window and changes its entry of the scoreboard. -/
theorem State.lmStore_modEnt {s : State} (h : s.mem.bad = []) (k : EngineId) (d : Fin 8) (e : Nat) (f : SbEntry → SbEntry)
    (ws : List (Nat × Byte)) : Stored (windowBytes s k d ws) s ((s.lmStore k d ws).1.modEnt k d e f) ∧
      EntryChanged k d e f s ((s.lmStore k d ws).1.modEnt k d e f) := by
  rw [State.lmStore_sound s k d ws h]
  dsimp only
  refine ⟨Stored.of_mem ?_, ?_, fun hk => ?_⟩
  · rw [State.modEnt_mem, State.barredLog_eq]
  · rw [State.barredLog_eq]
    rfl
  · rw [State.barred_other s hk]
    rfl

/-! ### A row of REQ -/

/-- The result of channel `c` of row `n` of the REQ `i`, and whether it clipped (03 R76 to R79). -/
def State.reqResult (s : State) (k : EngineId) (d : Fin 8) (i : Ins) (n c : Nat) : Int × Bool :=
  let q := (s.drw k d).rdQ i.srcb.num
  let p := accAt i.srca.first ((s.drw k d).desc i.dst).d0 n c
  requant (s.reqEntry k d q (reqChan (s.lmNat k d (q + 4) 2) (bits i.imm 11 0) c)) (bits (s.lmNat k d q 1) 3 0)
    (sext 32 (s.acc k d p.1 p.2.1 p.2.2))

/-- The bytes of row `n` of the REQ `i`: its results in I8. -/
def State.reqRowBytes (s : State) (k : EngineId) (d : Fin 8) (i : Ins) (n : Nat) : List (Nat × Byte) :=
  let t := (s.drw k d).desc i.dst
  (List.range t.d0).flatMap (fun c => elemBytes (t.off c n 0 0) 0 (toU 8 (s.reqResult k d i n c).1))

/-- The table entries of the channels that clip in row `n` of the REQ `i` (03 R77). -/
def State.reqClipped (s : State) (k : EngineId) (d : Fin 8) (i : Ins) (n : Nat) : List Nat :=
  ((List.range ((s.drw k d).desc i.dst).d0).filter (fun c => (s.reqResult k d i n c).2)).map
    (fun c => reqChan (s.lmNat k d ((s.drw k d).rdQ i.srcb.num + 4) 2) (bits i.imm 11 0) c)

@[simp] theorem State.working_reqResult (s : State) (k : EngineId) (j : Ins) (d : Fin 8) (i : Ins) (n c : Nat) :
    (s.working k j).reqResult k d i n c = s.reqResult k d i n c := by
  simp [State.reqResult]

@[simp] theorem State.working_reqRowBytes (s : State) (k : EngineId) (j : Ins) (d : Fin 8) (i : Ins) (n : Nat) :
    (s.working k j).reqRowBytes k d i n = s.reqRowBytes k d i n := by
  simp [State.reqRowBytes]

@[simp] theorem State.working_reqClipped (s : State) (k : EngineId) (j : Ins) (d : Fin 8) (i : Ins) (n : Nat) :
    (s.working k j).reqClipped k d i n = s.reqClipped k d i n := by
  simp [State.reqClipped]

/-- What a row leaves in the entry of the scoreboard: the clipped channels of the row, before those of the rows before it. -/
def SbEntry.clipping (l : List Nat) (q : SbEntry) : SbEntry := { q with acc := l ++ q.acc }

theorem nth_map_range {α : Type} (x : α) (f : Nat → α) {m c : Nat} (h : c < m) : nth x ((List.range m).map f) c = f c := by
  simp [nth, h]

theorem flatMap_congr_mem {α β : Type} {l : List α} {f g : α → List β} (h : ∀ a ∈ l, f a = g a) : l.flatMap f = l.flatMap g :=
  congrArg List.flatten (List.map_congr_left h)

/-- A row of REQ where no code fails: its bytes are stored and its clipped channels kept. -/
theorem State.reqUnit_sound {s : State} (h : s.mem.bad = []) (k : EngineId) (d : Fin 8) (e : Nat) (i : Ins) (n : Nat) :
    reqUnit s k d e i n =
      ((s.lmStore k d (s.reqRowBytes k d i n)).1.modEnt k d e (SbEntry.clipping (s.reqClipped k d i n)), none) := by
  have hacc : ∀ a m c, s.accBad k d a m c = false := fun a m c => by simp [State.accBad, Mem.isBad, h]
  have hres : ∀ c ∈ List.range ((s.drw k d).desc i.dst).d0,
      nth (0, false) ((List.range ((s.drw k d).desc i.dst).d0).map (fun c => s.reqResult k d i n c)) c = s.reqResult k d i n c :=
    fun c hc => nth_map_range _ _ (List.mem_range.mp hc)
  have hbytes := flatMap_congr_mem (fun c hc => congrArg
    (fun r : Int × Bool => elemBytes (((s.drw k d).desc i.dst).off c n 0 0) 0 (toU 8 r.1)) (hres c hc))
  have hclip := List.filter_congr (fun c hc => congrArg Prod.snd (hres c hc))
  have hfail : (s.lmStore k d (s.reqRowBytes k d i n)).2 = false := by rw [State.lmStore_sound s k d _ h]
  simp only [State.reqRowBytes, State.reqResult] at hbytes hclip hfail
  unfold reqUnit
  dsimp only
  rw [if_neg (by simp [hacc]), hbytes, hclip, hfail, if_neg Bool.false_ne_true]
  rfl

@[simp] theorem reqOps_total (k : EngineId) (e : Nat) (s : State) (d : Fin 8) (i : Ins) :
    (reqOps k e).total s d i = ((s.drw k d).desc i.dst).rows := rfl

/-- An entry of the scoreboard says nothing of the rows that the descriptor of DST names. -/
theorem reqOps_total_modEnt (k : EngineId) (e : Nat) (s : State) (d : Fin 8) (f : SbEntry → SbEntry) (i : Ins) :
    (reqOps k e).total (s.modEnt k d e f) d i = (reqOps k e).total s d i := by
  rw [reqOps_total, State.drw_modEnt]
  rfl

/-- A running REQ with a row before its last to convert: the row's bytes are stored, its clipped channels kept, and the
instruction runs on. -/
theorem State.runUnit_reqRow {s : State} {k : EngineId} {d : Fin 8} {e n : Nat} {iw : IWord} (h : Runs s k d e iw n)
    (hopc : (Ins.of iw).opc = 0x40) (hrow : n + 1 < ((s.drw k d).desc (Ins.of iw).dst).rows) :
    s.runUnit k e 1 0x40 (reqOps k e) = ((s.working k (Ins.of iw)).lmStore k d (s.reqRowBytes k d (Ins.of iw) n)).1.modEnt k d e
      (fun q => { q with
        pos := q.pos + 1
        acc := s.reqClipped k d (Ins.of iw) n ++ q.acc }) := by
  obtain ⟨q, hq, -, hst, hpos, hstatus, -⟩ := h.entry
  have hunit := State.reqUnit_sound (s := s.working k (Ins.of iw)) h.codes k d e (Ins.of iw) n
  rw [State.working_reqRowBytes, State.working_reqClipped] at hunit
  have htotal : (reqOps k e).total (s.working k (Ins.of iw)) d (Ins.of iw) = ((s.drw k d).desc (Ins.of iw).dst).rows := by simp
  rw [State.runUnit_one (r := s.working k (Ins.of iw)) (q := q.clipping (s.reqClipped k d (Ins.of iw) n)) h hopc rfl
    (hu := hunit) (hst := hst) (hp := hpos) (hz := hstatus) (ht := by omega) (hr := rfl)
    (hq := by simp [getElem?_modAt_same, hq])
    (htot := by rw [reqOps_total_modEnt, reqOps_total_modEnt, reqOps_total, State.lmStore_drw, reqOps_total])
    (hf := fun hlast => by omega), State.modEnt_modEnt, htotal]
  refine State.modEnt_congr (fun x hx => ?_)
  rw [State.lmStore_drw, State.working_drw, hq] at hx
  obtain rfl := Option.some.inj hx
  have hmore : ¬ ((s.drw k d).desc (Ins.of iw).dst).rows ≤ q.pos + 1 := by omega
  simp [stepped, SbEntry.clipping, hmore, hst]

/-- Settles O19: by definition `reqResult` is the statement's pair of `out` and whether it differs from `y`, so the row's bytes and its
clipped channels are the statement's. -/
theorem requantiserRow : Obligations.RequantiserRow := by
  unfold Obligations.RequantiserRow
  intro s k d e iw n h i w t q ch gse chan en y out hopc hrow
  refine ⟨s.runUnit k e 1 0x40 (reqOps k e), ?_, ?_⟩
  · show execReq k e 1 s = _
    rw [execReq, h.clock, State.gate_true]
  · rw [State.runUnit_reqRow h hopc hrow, ← windowBytes_working s k i]
    exact State.lmStore_modEnt (s := s.working k i) h.codes k d e _ _

end Sys2Proof.Machine
end

section
/-! The Post-Processing Units (06 R184 to R195): how PPU_SERVE ends or goes on with the oldest request, and how PPU_COMMIT ends it. -/

namespace Sys2Proof.Machine

/-! ### What the operations of a unit leave alone -/

@[simp] theorem State.modPpu_engines (s : State) (c : Fin 4) (f : List PpuReq → List PpuReq) : (s.modPpu c f).engines = s.engines := rfl

@[simp] theorem State.ppus_modPpu_same (s : State) (c : Fin 4) (f : List PpuReq → List PpuReq) :
    vget (s.modPpu c f).ppus c = f (vget s.ppus c) := vget_vmod_same _ _ _

@[simp] theorem State.scramble_engines (s : State) (a n : Nat) : (s.scramble a n).engines = s.engines := rfl

/-- The rest of the work area is memory, and memory only. -/
@[simp] theorem State.ppuWork_engines (s : State) (m : Master) (a lo hi : Nat) : (s.ppuWork m a lo hi).engines = s.engines := by
  unfold State.ppuWork
  split
  · rfl
  · split
    · exact State.scramble_engines _ _ _
    · rfl

/-- A wake-up is a change of contexts. -/
@[simp] theorem State.wake_engines (s : State) (c : CabId) (p : WaitOn → Bool) : (s.wake c p).engines = s.engines := by
  unfold State.wake
  refine List.foldlRecOn (motive := fun (t : State) => t.engines = s.engines) _ _ rfl (fun t ht x _ => ?_)
  split
  · split
    · exact ht
    · exact ht
  · exact ht

@[simp] theorem State.wakeAll_engines (s : State) : s.wakeAll.engines = s.engines :=
  List.foldlRecOn (motive := fun (t : State) => t.engines = s.engines) _ _ rfl (fun t ht c _ => (t.wake_engines c _).trans ht)

theorem State.drw_eq_of_engines {s t : State} (h : t.engines = s.engines) (k : EngineId) (d : Fin 8) : t.drw k d = s.drw k d :=
  State.drw_congr (by rw [State.eng, h, State.eng]) d

/-! ### The end of a POST (06 R193) -/

section
variable {s : State} {c : Fin 4} {r : PpuReq} {rest : List PpuReq} {d : Fin 8} {q : SbEntry}

/-- The end of a request is to its engine the end of the POST alone. -/
theorem State.drw_ppuEnd (s : State) (c : Fin 4) (r : PpuReq) (st : Nat) (n : Option Nat) (k : EngineId) (d : Fin 8) :
    (s.ppuEnd c r st n).drw k d = (s.postDone r.eng r.word st n).drw k d :=
  State.drw_eq_of_engines (State.wakeAll_engines _) k d

/-- A POST whose DST is a scalar register ends with the number of boxes in it. -/
theorem State.postDone_scalars {k : EngineId} {word : Nat} (hact : (s.eng k).active = some d)
    (hpost : (s.drw k d).sb.find? (fun t => t.word == word && t.st == .running && (Ins.of t.iw).opc == 0x84) = some q)
    (hreg : isReg .S (Ins.of q.iw).dst = true) (st n : Nat) :
    ((s.postDone k word st (some n)).drw k d).s = ((s.drw k d).wrS (Ins.of q.iw).dst.num n).s := by
  simp only [State.postDone, hact, State.drw_modDrw_same, hpost, hreg, if_true]

/-! ### PPU_SERVE up to the commit phase (06 R184 to R191) -/

/-- The oldest request of unit `c` is `r`, not yet served, of the POST that is entry `q` of the active drawer `d` of its engine, and
no code fails where its request block stands. -/
structure PpuServing (s : State) (c : Fin 4) (r : PpuReq) (rest : List PpuReq) (d : Fin 8) (q : SbEntry) : Prop where
  queue : vget s.ppus c = r :: rest
  unserved : r.served = false
  active : (s.eng r.eng).active = some d
  posted : (s.drw r.eng d).sb.find? (fun t => t.word == r.word && t.st == .running && (Ins.of t.iw).opc == 0x84) = some q
  codes : s.lmBad r.eng d [((s.drw r.eng d).desc (Ins.of q.iw).srca).base] 64 = false

/-- The bytes of the request block of the POST that is entry `q` of drawer `d` of engine `k` (06 R184). -/
def State.reqBlock (s : State) (k : EngineId) (d : Fin 8) (q : SbEntry) : List Byte :=
  s.mem.readBytes (s.lmKey k d ((s.drw k d).desc (Ins.of q.iw).srca).base) 64

/-- The accesses of unit `c` for block `b` leave its port and are answered OK: `u` is the state after the reads of the candidates,
`l` what filtering leaves of them, `v` the state after their write to the work area (06 R186 to R189, R193). -/
structure PpuAnswered (s : State) (c : Fin 4) (b : PpuBlock) (u v : State) (l : List Box) : Prop where
  leaves : s.ppuOpen c b.arrays = true
  reads : s.candidates c b = (u, true, l)
  candidates : l ≠ []
  writes : u.nextFree.2.fabWrite (.ppu c) b.work ((List.range (32 * l.length)).map (fun x => Config.freeByte u.freeCtr x)) = (v, stOK)

/-- The request with the outcome `k` of the selection loop, which waits for its commit (06 R187). -/
def PpuReq.keeping (r : PpuReq) (blk : List Byte) (k : List Box × Bool) : PpuReq :=
  { r with
    block := blk
    served := true
    kept := k.1
    status := if k.2 then stKEEP_FULL else stOK }

/-- What becomes of the oldest request by its block: a faulty one (06 R185) and one of no candidates (06 R187) end the POST; where
boxes are kept, the rest of the work area is left undefined (06 R193) and the request waits for its commit. -/
theorem State.ppuServe_block (h : PpuServing s c r rest d q) {blk : List Byte} (hblk : s.reqBlock r.eng d q = blk) {b : PpuBlock}
    (hb : PpuBlock.of blk = b) :
    (b.faulty = true → s.ppuServe c = s.ppuEnd c r stPPU_REQUEST none) ∧
    (b.faulty = false → b.n = 0 → s.ppuServe c = s.ppuEnd c r stEMPTY (some 0)) ∧
    ∀ u v l, b.faulty = false → b.n ≠ 0 → PpuAnswered s c b u v l → (keepLoop b [] (sortBy boxBefore l)).1 ≠ [] →
      s.ppuServe c = (v.ppuWork (.ppu c) b.work (32 * l.length) (32 * b.n)).modPpu c (fun _ =>
        r.keeping blk (keepLoop b [] (sortBy boxBefore l)) :: rest) := by
  unfold State.ppuServe
  -- The request, its drawer and its entry are those that `h` names.
  split
  case h_1 hnil => rw [h.queue] at hnil; cases hnil
  case h_2 hcons =>
  obtain ⟨rfl, rfl⟩ := List.cons.inj (h.queue.symm.trans hcons)
  split
  case h_2 hno => exact absurd h.active (hno d h.unserved)
  case h_1 hact =>
  obtain rfl := Option.some.inj (h.active.symm.trans hact)
  extract_lets w
  split
  case h_1 hnone => rw [h.posted] at hnone; cases hnone
  case h_2 hsome =>
  obtain rfl := Option.some.inj (h.posted.symm.trans hsome)
  extract_lets a blk' b'
  obtain rfl : blk' = blk := hblk
  obtain rfl : b' = b := hb
  have hcodes : s.lmBad r.eng d [a] 64 = false := h.codes
  rw [if_neg (Bool.eq_false_iff.mp hcodes)]
  refine ⟨fun hbad => if_pos hbad, fun hok hn => ?_, fun u v l hok hn hans hkept => ?_⟩
  · rw [if_neg (Bool.eq_false_iff.mp hok), if_pos hn]
  · obtain ⟨hleaves, hreads, hcand, hwrites⟩ := hans
    rw [if_neg (Bool.eq_false_iff.mp hok), if_neg hn, if_neg (by simp [hleaves]), hreads]
    have hfree : u.nextFree.1 = u.freeCtr := rfl
    rw [← List.isEmpty_eq_false_iff] at hcand hkept
    simp only [PpuReq.keeping, hcand, hfree, hwrites, hkept, Bool.not_true, ne_eq, not_true_eq_false, Bool.false_eq_true, if_false]

/-! ### PPU_COMMIT (06 R192, R193, R195) -/

/-- A failing code of the kept boxes ends the POST with nothing written. -/
theorem State.ppuCommit_bad (hq : vget s.ppus c = r :: rest) (hserved : r.served = true) (hbad : r.keptBad = true) :
    s.ppuCommit c = s.ppuEnd c r stPPU_DETECT none := by
  simp only [State.ppuCommit, hq, hserved, hbad, Bool.not_true, Bool.false_eq_true, if_false, if_true]

/-- Records all written end the POST with the request's status, and with their number unless an abort has waited for them. -/
theorem State.ppuCommit_written (hq : vget s.ppus c = r :: rest) (hserved : r.served = true) (hbad : r.keptBad = false)
    (hopen : s.ppuOpen c r.outs = true) {u : State} (hwrite : s.writeKept c r = (u, true)) :
    s.ppuCommit c = u.ppuEnd c r r.status (if r.status = stABORTED then none else some r.kept.length) := by
  simp only [State.ppuCommit, hq, hserved, hbad, hopen, hwrite, Bool.not_true, Bool.false_eq_true, if_false, if_true,
    Bool.true_or, Bool.true_and]
  by_cases habort : r.status = stABORTED <;> simp [habort]

end

/-! ### The two commands -/

/-- What SCH settles of a state of which `P` holds. -/
theorem Settles.schSettle {P : State → Prop} {u : State} (h : P u) : Settles P u.schSettle :=
  ⟨u, h, rfl, State.schSettle_of_calm⟩

theorem Does.ppuServe {s : State} {c : Fin 4} {P : State → Prop} (hclk : s.mainClk = true) (h : P (s.ppuServe c)) :
    Does (.ppuServe c) s (Settles P) := by
  refine ⟨(s.ppuServe c).schSettle, ?_, Settles.schSettle h⟩
  show execPpuServe c s = _
  rw [execPpuServe, hclk, State.gate_true]

theorem Does.ppuCommit {s : State} {c : Fin 4} {P : State → Prop} (hclk : s.mainClk = true) (h : P (s.ppuCommit c)) :
    Does (.ppuCommit c) s (Settles P) := by
  refine ⟨(s.ppuCommit c).schSettle, ?_, Settles.schSettle h⟩
  show execPpuCommit c s = _
  rw [execPpuCommit, hclk, State.gate_true]

/-- Settles O30, one case of the unit's work at a time; `ends` of the statement is `ppuEnd` by definition. -/
theorem postProcessingKeepsBoxes : Obligations.PostProcessingKeepsBoxes := by
  unfold Obligations.PostProcessingKeepsBoxes
  intro s c r rest d q hclk hq hact hpost w a b dst ends
  constructor
  · intro hunserved hmem
    obtain ⟨hfaulty, hempty, hkeeps⟩ := State.ppuServe_block
      ⟨hq, hunserved, hact, hpost, State.lmBad_sound s r.eng d _ 64 hmem⟩ rfl (b := b) rfl
    refine ⟨fun hbad => Does.ppuServe hclk (hfaulty hbad), fun hok hn => ?_, fun u l v hok hn hopen hcand hl hwork hkept => ?_⟩
    · have hserve := hempty hok hn
      refine Does.ppuServe hclk ⟨hserve, fun hreg => ?_⟩
      rw [hserve, State.drw_ppuEnd]
      exact State.postDone_scalars hact hpost hreg stEMPTY 0
    · refine Does.ppuServe hclk ?_
      rw [hkeeps u v l hok hn ⟨hopen, hcand, hl, hwork⟩ hkept]
      exact ⟨State.ppus_modPpu_same _ _ _, State.drw_eq_of_engines (State.ppuWork_engines _ _ _ _ _) r.eng d⟩
  · intro hserved
    refine ⟨fun hbad => ?_, fun u hbad hopen hwrite => ?_⟩
    · exact Does.ppuCommit hclk (State.ppuCommit_bad hq hserved hbad)
    · have hcommit := State.ppuCommit_written hq hserved hbad hopen hwrite
      refine ⟨fun hst => Does.ppuCommit hclk ?_, fun hst => Does.ppuCommit hclk ?_⟩
      · rwa [if_neg (show r.status ≠ stABORTED from hst)] at hcommit
      · rwa [if_pos (show r.status = stABORTED from hst), hst] at hcommit

end Sys2Proof.Machine
end

section
/-! The stream network (08 R229 to R244): how a flit or a credit under way arrives, and how a queue of the Stream Buffer is filled,
grants and delivers. -/

namespace Sys2Proof.Machine

/-! ### What the shared operations leave alone -/

/-- A wake-up is a change of contexts, which are parts of cabinets (09 R265). -/
theorem State.wake_eq (s : State) (c : CabId) (p : WaitOn → Bool) : ∃ v, s.wake c p = { s with cabs := v } := by
  unfold State.wake
  refine List.foldlRecOn (motive := fun t : State => ∃ v, t = { s with cabs := v }) _ _ ⟨_, rfl⟩ (fun t ht x _ => ?_)
  obtain ⟨v, rfl⟩ := ht
  split
  · split
    · exact ⟨_, rfl⟩
    · exact ⟨_, rfl⟩
  · exact ⟨_, rfl⟩

theorem State.wakeAll_eq (s : State) : ∃ v, s.wakeAll = { s with cabs := v } := by
  refine List.foldlRecOn (motive := fun t : State => ∃ v, t = { s with cabs := v }) _ _ ⟨_, rfl⟩ (fun t ht c _ => ?_)
  obtain ⟨v, rfl⟩ := ht
  obtain ⟨v', hwake⟩ := State.wake_eq { s with cabs := v } c _
  exact ⟨v', hwake⟩

@[simp] theorem State.wakeAll_mem (s : State) : s.wakeAll.mem = s.mem := by
  obtain ⟨v, hv⟩ := s.wakeAll_eq
  rw [hv]

@[simp] theorem State.wakeAll_sn (s : State) : s.wakeAll.sn = s.sn := by
  obtain ⟨v, hv⟩ := s.wakeAll_eq
  rw [hv]

/-- A field of a register outside `w` reads as before. -/
theorem SameRegsBut.rd {w : Nat → Prop} {s t : State} (h : SameRegsBut w s t) (f : Fld) {i j : Nat} (hout : ¬ w (f.reg.addr i j)) :
    t.rd f i j = s.rd f i j := by
  rw [State.rd, h _ _ _ hout, State.rd]

@[simp] theorem State.drw_modE_same (s : State) (k : EngineId) (d : Fin 8) (j : Nat) (f : Nat → Nat) :
    (s.modE k d j f).drw k d = (s.drw k d).wrE j (f ((s.drw k d).rdE j)) := State.drw_modDrw_same s k d _

@[simp] theorem Drawer.rdE_wrE_same (w : Drawer) (j v : Nat) : (w.wrE j v).rdE j = v % 2 ^ 128 := by
  simp [Drawer.rdE, Drawer.wrE]

section
variable {k : EngineId} {s t : State}

theorem Counted.mem (h : Counted k s t) : t.mem = s.mem := by
  obtain ⟨⟨heq, -, -⟩, -⟩ := h
  rw [heq]

theorem Counted.sn (h : Counted k s t) : t.sn = s.sn := by
  obtain ⟨⟨heq, -, -⟩, -⟩ := h
  rw [heq]

theorem Counted.drw (h : Counted k s t) (d : Fin 8) : t.drw k d = s.drw k d := by
  obtain ⟨-, hdrawers, -⟩ := h
  exact State.drw_congr hdrawers d

end

/-- Only the engines' block has its copy of engine 16 elsewhere (19 R618). -/
theorem RegDef.addr_of_blk {r : RegDef} (h : r.blk ≠ .te) (i j : Nat) : r.addr i j = r.base + i * r.s1 + j * r.s2 :=
  if_neg fun hc => h hc.1

/-! ### The counters of the shared units (18 R606) -/

/-- `t` is `s` but for the performance counters of the shared units. -/
def UnitsCounted (s t : State) : Prop := (∃ r, t = { s with regs := r }) ∧ SameRegsBut unitBlock s t

theorem UnitsCounted.refl (s : State) : UnitsCounted s s := ⟨⟨_, rfl⟩, SameRegsBut.refl _ _⟩

theorem UnitsCounted.put {s t : State} (h : UnitsCounted s t) (f : Fld) (i j v : Nat) (hin : unitBlock (f.reg.addr i j)) :
    UnitsCounted s (t.put f i j v) := by
  obtain ⟨⟨r, rfl⟩, hregs⟩ := h
  exact ⟨⟨_, rfl⟩, SameRegsBut.trans hregs (SameRegsBut.put _ f i j v hin)⟩

/-- An event counted changes only the counters of the shared units. -/
theorem State.unitsCounted_countUnit (s : State) {u : Nat} (hu : u < 4) (code m sub : Nat) (level : Bool) :
    UnitsCounted s (s.countUnit u code m sub level) := by
  have hcnt : ∀ n < 4, unitBlock (R.PERF_CNT.addr u n) := fun n hn => by
    rw [RegDef.addr_of_blk (by decide)]
    show 0x400C0000 ≤ 0x400C0120 + u * 0x40 + n * 8 ∧ 0x400C0120 + u * 0x40 + n * 8 < 0x400C1000
    omega
  have hstat : unitBlock (R.PERF_STAT.addr u 0) := by
    rw [RegDef.addr_of_blk (by decide)]
    show 0x400C0000 ≤ 0x400C0104 + u * 0x40 + 0 * 0 ∧ 0x400C0104 + u * 0x40 + 0 * 0 < 0x400C1000
    omega
  unfold State.countUnit
  split
  · exact UnitsCounted.refl s
  · refine List.foldlRecOn (motive := UnitsCounted s) _ _ (UnitsCounted.refl s) (fun t ht n hn => ?_)
    have hn : unitBlock (R.PERF_CNT.addr u n) := hcnt n (List.mem_range.mp hn)
    dsimp only
    split
    · split
      · exact (ht.put F.PERF_CNT_COUNT u n 0 hn).put F.PERF_STAT_OVF u 0 _ hstat
      · exact ht.put F.PERF_CNT_COUNT u n _ hn
    · exact ht

/-- The counters of the shared units say nothing of where a drawer's window stands. -/
theorem UnitsCounted.lmKey {s t : State} (h : UnitsCounted s t) (k : EngineId) (d : Fin 8) (off : Nat) :
    t.lmKey k d off = s.lmKey k d off := by
  obtain ⟨-, hregs⟩ := h
  have hout : ¬ unitBlock (R.TE_DRW_LM.addr k.val d.val) := by
    unfold RegDef.addr
    split
    · show ¬ (0x400C0000 ≤ 0x20023000 + 0x10 + d.val * 4 ∧ _)
      omega
    · show ¬ (0x400C0000 ≤ 0x40100010 + k.val * 0x10000 + d.val * 4 ∧ 0x40100010 + k.val * 0x10000 + d.val * 4 < 0x400C1000)
      omega
  simp only [State.lmKey, State.window, SameRegsBut.rd hregs F.TE_DRW_LM_BASE_PAGE hout]

/-- Nor of how many slots a queue has. -/
theorem UnitsCounted.qDepth {s t : State} (h : UnitsCounted s t) (q : Fin 32) : t.qDepth q = s.qDepth q := by
  obtain ⟨-, hregs⟩ := h
  have hout : ¬ unitBlock (R.SN_Q_GEOM.addr q.val 0) := by
    rw [RegDef.addr_of_blk (by decide)]
    show ¬ (0x400C0000 ≤ 0x40070204 + q.val * 0x10 + 0 * 0 ∧ _)
    omega
  rw [State.qDepth, SameRegsBut.rd hregs F.SN_Q_GEOM_DEPTH hout, State.qDepth]

/-! ### The ring of a receive endpoint (08 R234) -/

/-- `t` is `s` after a flit's bytes have come into the ring of endpoint `n` of drawer `d` of engine `k`: they stand in slot
HEAD + COUNT modulo 64 and COUNT is one more. -/
structure RingTakes (k : EngineId) (d : Fin 8) (n : EpName) (data : List Byte) (s t : State) : Prop where
  stored : let ep := (s.drw k d).rdE n.ep.val
    Stored (runOf (s.lmKey k d (epRing ep + 64 * ((epHead ep + epCount ep) % 64))) data) s t
  drawer : let ep := (s.drw k d).rdE n.ep.val
    t.drw k d = (s.drw k d).wrE n.ep.val (epSetCount (epCount ep + 1) ep)
  drawers : SameDrawersBut k d s t
  engines : SameEnginesBut k s t
  regs : SameRegsBut (perfBlock k) s t
  transit : t.sn.transit = s.sn.transit
  queues : t.sn.queues = s.sn.queues

/-- A flit without a failing code and without poison comes into the ring. -/
theorem State.ringIn_takes (s : State) (k : EngineId) (d : Fin 8) (n : EpName) (data : List Byte) :
    RingTakes k d n data s (s.ringIn k d n data false false) := by
  unfold State.ringIn
  extract_lets e slot a m m' sn u
  have hcount : Counted k (u.modE k d n.ep.val (fun e => epSetCount (epCount e + 1) e)) _ := State.counted_countEvent _ k 0x12 false
  have ⟨⟨_, heng, hregs⟩, _⟩ := hcount
  exact {
    stored := Stored.of_mem hcount.mem
    drawer := (hcount.drw d).trans (State.drw_modDrw_same u k d _)
    drawers := fun c hc => (hcount.drw c).trans (State.drw_modDrw_other u k _ hc)
    engines := fun j hj => (heng j hj).trans (State.eng_modEng_other u _ hj)
    regs := hregs
    transit := by rw [hcount.sn]; rfl
    queues := by rw [hcount.sn]; rfl }

/-! ### Commands that SCH settles after -/

/-- A command of the main clock that SCH settles after does what its operation does. -/
theorem Does.settled {c : Instr} {s u : State} {P : State → Prop} (hexec : exec c s = .next (s.gate s.mainClk u.schSettle))
    (hclk : s.mainClk = true) (h : P u) : Does c s (Settles P) :=
  ⟨u.schSettle, by rw [hexec, hclk, State.gate_true], Settles.schSettle h⟩

/-! ### Arrivals at an engine (08 R229, R234, R235, R237) -/

/-- The state without flit `j` under way to an engine. -/
def State.dropTransit (s : State) (j : Nat) : State := { s with sn := { s.sn with transit := dropAt s.sn.transit j } }

/-- The state without credit `j` under way. -/
def State.dropCredit (s : State) (j : Nat) : State := { s with sn := { s.sn with credits := dropAt s.sn.credits j } }

/-- Flit `f` is flit `j` under way, and none of its engine to the same engine is before it. -/
structure FirstFlit (s : State) (j : Nat) (f : Flit) : Prop where
  flit : s.sn.transit[j]? = some f
  first : ((s.sn.transit.take j).any (fun g => g.src == f.src && g.cab == f.cab && g.rank == f.rank)) = false

section
variable {s : State} {j : Nat} {f : Flit}

/-- A flit whose context is active and whose ring has a free slot comes into the ring. -/
theorem State.flitArrive_taken (h : FirstFlit s j f) {d : Fin 8} (hact : s.actCtx (s.rankEng f.cab f.rank) = some (d, f.cab, f.ctx))
    (hfree : epCount ((s.drw (s.rankEng f.cab f.rank) d).rdE f.ep.val) < 64) :
    s.flitArrive j = (s.dropTransit j).ringIn (s.rankEng f.cab f.rank) d ⟨f.cab, f.ctx, f.rank, f.ep⟩ f.data f.badCode f.poison := by
  have hact' : (s.dropTransit j).actCtx ((s.dropTransit j).rankEng f.cab f.rank) = some (d, f.cab, f.ctx) := hact
  rw [State.dropTransit] at hact'
  simp only [State.flitArrive, h.flit, h.first, hact', Bool.false_eq_true, if_false, true_and]
  exact if_pos hfree

/-- A flit that finds no context, another context or a full ring is discarded. -/
theorem State.flitArrive_misrouted (h : FirstFlit s j f) (hmiss : s.actCtx (s.rankEng f.cab f.rank) = none ∨
      ∃ d c x, s.actCtx (s.rankEng f.cab f.rank) = some (d, c, x) ∧
        (c ≠ f.cab ∨ x ≠ f.ctx ∨ 64 ≤ epCount ((s.drw (s.rankEng f.cab f.rank) d).rdE f.ep.val))) :
    s.flitArrive j = (s.dropTransit j).put0 F.SN_ERR_MISROUTE 1 := by
  rcases hmiss with hnone | ⟨d, c, x, hact, hmiss⟩
  · have hnone' : (s.dropTransit j).actCtx ((s.dropTransit j).rankEng f.cab f.rank) = none := hnone
    rw [State.dropTransit] at hnone'
    simp only [State.flitArrive, h.flit, h.first, hnone', Bool.false_eq_true, if_false]
    rfl
  · have hact' : (s.dropTransit j).actCtx ((s.dropTransit j).rankEng f.cab f.rank) = some (d, c, x) := hact
    rw [State.dropTransit] at hact'
    simp only [State.flitArrive, h.flit, h.first, hact', Bool.false_eq_true, if_false]
    refine if_neg ?_
    rintro ⟨hc, hx, hlt⟩
    rcases hmiss with hne | hne | hfull
    · exact hne hc
    · exact hne hx
    · exact Nat.not_lt.mpr hfull hlt

end

/-- A credit comes to the drawer where its endpoint is resident, and counts at a bound send endpoint up to 64. -/
theorem State.creditReturn_home {s : State} {j : Nat} {c : Credit} {k : EngineId} {d : Fin 8} (hc : s.sn.credits[j]? = some c)
    (hhome : s.epHome c.dest = some (k, d)) :
    s.creditReturn j = (s.dropCredit j).modE k d c.dest.ep.val
      (fun e => if epBound e && !epRecv e then epSetCount (min 64 (epCount e + 1)) e else e) := by
  have hhome' : (s.dropCredit j).epHome c.dest = some (k, d) := hhome
  rw [State.dropCredit] at hhome'
  simp only [State.creditReturn, hc, hhome']
  rfl

/-- Settles O26: the flit's ring, or the register of errors, is all that an arrival changes, and a credit changes its endpoint's
register alone. -/
theorem flitsAndCreditsArrive : Obligations.FlitsAndCreditsArrive := by
  unfold Obligations.FlitsAndCreditsArrive
  constructor
  · intro s j f hclk hflit hfirst k
    constructor
    · intro d hact hcode hpoison _ ep hfree
      refine Does.settled (u := s.flitArrive j) rfl hclk ?_
      rw [State.flitArrive_taken ⟨hflit, hfirst⟩ hact hfree, hcode, hpoison]
      obtain ⟨hstored, hdrawer, hdrawers, hengines, hregs, htransit, -⟩ :=
        (s.dropTransit j).ringIn_takes k d ⟨f.cab, f.ctx, f.rank, f.ep⟩ f.data
      exact ⟨htransit, hstored, hdrawer, hdrawers, hengines, hregs⟩
    · intro hmiss
      refine Does.settled (u := s.flitArrive j) rfl hclk ?_
      rw [State.flitArrive_misrouted ⟨hflit, hfirst⟩ hmiss]
      exact ⟨rfl, State.flag_put_same _ F.SN_ERR_MISROUTE 0 0 rfl true, fun _ => rfl, rfl⟩
  · intro s j c k d hclk hcredit hhome ep hbound hsend
    refine ⟨s.creditReturn j, by show execCreditReturn j s = _; rw [execCreditReturn, hclk, State.gate_true], ?_⟩
    rw [State.creditReturn_home hcredit hhome]
    have hcounts : (epBound ep && !epRecv ep) = true := by rw [hbound, hsend]; rfl
    exact ⟨rfl, (State.drw_modE_same _ k d _ _).trans (congrArg ((s.drw k d).wrE c.dest.ep.val) (if_pos hcounts)),
      fun e he => State.drw_modDrw_other _ k _ he, fun i hi => State.eng_modEng_other _ _ hi, fun _ => rfl, rfl⟩

/-! ### Queues: arrival (08 R237, R240) -/

/-- The state without flit `j` on its way to a queue. -/
def State.dropToQueue (s : State) (j : Nat) : State := { s with sn := { s.sn with toQueue := dropAt s.sn.toQueue j } }

/-- The first open slot of the flit's owner, whose slice of the Stream Buffer is READY, is filled; one event is counted. -/
theorem State.flitToQueue_filled {s : State} {j : Nat} {q : Fin 32} {f : Flit} {p : Nat} (hflit : s.sn.toQueue[j]? = some (q, f))
    (hfirst : ((s.sn.toQueue.take j).any (fun g => g.1 == q && g.2.src == f.src)) = false)
    (hopen : firstOpen ⟨f.cab, f.ctx, f.rank, f.ep⟩ (vget s.sn.queues q).slots = some p) {a : Nat}
    (ha : s.qKey q ((vget s.sn.queues q).head + p) = a) (hready : s.sliceWaits a = false) (hcode : f.badCode = false) {u : State}
    (hu : (s.dropToQueue j).countUnit 0 0x12 f.cab.val (chOf a) = u) :
    s.flitToQueue j = ({ u with mem := (u.mem.store (runOf a f.data)).1 }.modQueue q (fun x =>
      { x with slots := modAt (fun y => { y with filled := true }) p x.slots })).wakeAll := by
  subst ha hu
  simp only [State.flitToQueue, hflit, hfirst, hopen, hready, hcode, Bool.false_eq_true, if_false]
  rfl

/-! ### Queues: grants (08 R241 to R243) -/

/-- The queue with `m` more slots granted to `n`. -/
def Queue.grant (z : Queue) (n : EpName) (m : Nat) : Queue :=
  { z with
    lastServed := some n
    slots := z.slots ++ List.replicate m ⟨n, false, false, false, false⟩ }

/-- A SEND that runs on endpoint `j` has its record's slots granted. -/
def SbEntry.grantedAt (j : Nat) (t : SbEntry) : SbEntry :=
  let i := Ins.of t.iw
  if i.opc = 0x70 ∧ i.dst.num = j ∧ t.st = .running then { t with granted := true } else t

/-- The drawer with COUNT of endpoint `j` at `m`, the slots of a whole record. -/
def Drawer.reserved (w : Drawer) (j m : Nat) : Drawer :=
  { w.wrE j (epSetCount m (w.rdE j)) with sb := w.sb.map (SbEntry.grantedAt j) }

@[simp] theorem Drawer.rdE_reserved (w : Drawer) (j m : Nat) : (w.reserved j m).rdE j = epSetCount m (w.rdE j) % 2 ^ 128 :=
  Drawer.rdE_wrE_same w j _

section
variable {s : State} {q : Fin 32} {k : EngineId} {d : Fin 8} {n : EpName}

/-- A queue of one producer with a free slot grants one. -/
theorem State.queueGrant_single (hen : s.flag F.SN_Q_CFG_EN q.val = true) (hmulti : s.flag F.SN_Q_CFG_MULTI q.val = false)
    (hask : s.qAsker q = some (k, d, n)) (hfree : (vget s.sn.queues q).slots.length < s.qDepth q) :
    s.queueGrant q = (s.modQueue q (fun z => z.grant n 1)).modE k d n.ep.val (fun e => epSetCount (epCount e + 1) e) := by
  have hroom : s.qDepth q - (vget s.sn.queues q).slots.length ≠ 0 := by omega
  simp only [State.queueGrant, hen, hmulti, hask, Bool.not_true, Bool.false_eq_true, if_false]
  exact if_neg hroom

/-- A queue of several producers with room for the oldest request's record grants all its slots. -/
theorem State.queueGrant_reserves {m : Nat} {rest : List (EpName × Nat)} (hen : s.flag F.SN_Q_CFG_EN q.val = true)
    (hmulti : s.flag F.SN_Q_CFG_MULTI q.val = true) (hreq : (vget s.sn.queues q).requests = (n, m) :: rest)
    (hhome : s.epHome n = some (k, d)) (hroom : (vget s.sn.queues q).slots.length + m ≤ s.qDepth q) :
    s.queueGrant q = (s.modQueue q (fun z => { z.grant n m with requests := rest })).modDrw k d (fun w => w.reserved n.ep.val m) := by
  have henough : ¬ s.qDepth q - (vget s.sn.queues q).slots.length < m := by omega
  simp only [State.queueGrant, hen, hmulti, hreq, hhome, Bool.not_true, Bool.false_eq_true, if_false, if_true]
  rw [if_neg henough, State.modE, State.modDrw_modDrw]
  rfl

end

/-- What changes a queue and a drawer leaves the rest alone. -/
theorem State.modQueue_modDrw_frame (s : State) (q : Fin 32) (f : Queue → Queue) (k : EngineId) (d : Fin 8) (g : Drawer → Drawer) :
    let t := (s.modQueue q f).modDrw k d g
    vget t.sn.queues q = f (vget s.sn.queues q) ∧ t.drw k d = g (s.drw k d) ∧ SameEnginesBut k s t ∧ SameDrawersBut k d s t ∧
      SameMem s t ∧ t.regs = s.regs :=
  ⟨vget_vmod_same _ q f, State.drw_modDrw_same _ k d g, fun _ hj => State.eng_modEng_other _ _ hj,
    fun _ he => State.drw_modDrw_other _ k g he, fun _ => rfl, rfl⟩

/-! ### Queues: delivery (08 R244) -/

/-- A queue without void slots stands. -/
theorem Queue.trim_of_held {z : Queue} (h : ∀ y ∈ z.slots, y.void = false) (depth : Nat) :
    z.trim depth = { z with head := z.head % max 1 depth } := by
  have hkept : ∀ l : List QSlot, (∀ y ∈ l, y.void = false) → l.dropWhile (fun y => y.void) = l := by
    intro l hl
    cases l with
    | nil => rfl
    | cons y l => simp [hl y]
  simp only [Queue.trim]
  rw [hkept _ h, hkept _ (fun y hy => h y (List.mem_reverse.mp hy)), List.reverse_reverse, Nat.sub_self, Nat.add_zero]

/-- A queue whose oldest slot is filled and whose consumer's engine runs and ring has a free slot delivers; one event is counted. -/
theorem State.queueDeliver_delivers {s : State} {q : Fin 32} {k : EngineId} {d : Fin 8} {n : EpName} {y : QSlot} {rest : List QSlot}
    (hslots : (vget s.sn.queues q).slots = y :: rest) (hfilled : y.filled = true) (hcons : s.qConsumer q = some (k, d, n))
    (hfree : epCount ((s.drw k d).rdE n.ep.val) < 64) (hrun : (s.eng k).st = .running) {a : Nat}
    (ha : s.qKey q (vget s.sn.queues q).head = a) {u : State} (hu : s.countUnit 0 0x12 k.val (chOf a) = u) :
    s.queueDeliver q = ((u.ringIn k d n (u.mem.readBytes a 64) (u.mem.anyBad a 64) y.poison).modQueue q (fun x =>
      Queue.trim (u.qDepth q) { x with
        slots := rest
        head := (x.head + 1) % max 1 (u.qDepth q) })).wakeAll := by
  subst ha hu
  simp only [State.queueDeliver, hslots, hcons]
  exact if_neg (by simp [hfilled, hfree, hrun])

/-- In a memory where no code fails it moves the flit: its bytes come into the consumer's ring, and its slot is free. -/
theorem State.queueDeliver_moves {s : State} {q : Fin 32} {k : EngineId} {d : Fin 8} {n : EpName} {y : QSlot} {rest : List QSlot}
    (hslots : (vget s.sn.queues q).slots = y :: rest) (hfilled : y.filled = true) (hpoison : y.poison = false)
    (hcons : s.qConsumer q = some (k, d, n)) (hfree : epCount ((s.drw k d).rdE n.ep.val) < 64) (hrun : (s.eng k).st = .running)
    (hcodes : s.mem.bad = []) :
    let z := vget s.sn.queues q
    let ep := (s.drw k d).rdE n.ep.val
    Stored (runOf (s.lmKey k d (epRing ep + 64 * ((epHead ep + epCount ep) % 64))) (s.mem.readBytes (s.qKey q z.head) 64)) s
      (s.queueDeliver q) ∧
    (s.queueDeliver q).drw k d = (s.drw k d).wrE n.ep.val (epSetCount (epCount ep + 1) ep) ∧
    vget (s.queueDeliver q).sn.queues q = Queue.trim (s.qDepth q) { z with
      slots := rest
      head := (z.head + 1) % max 1 (s.qDepth q) } := by
  intro z ep
  -- The counted event moves neither the consumer's window nor the queue.
  obtain ⟨u, hu⟩ : ∃ u, s.countUnit 0 0x12 k.val (chOf (s.qKey q z.head)) = u := ⟨_, rfl⟩
  have hcount : UnitsCounted s u := hu ▸ s.unitsCounted_countUnit (by decide) _ _ _ _
  have hkey := hcount.lmKey k d
  have hdepth : u.qDepth q = s.qDepth q := hcount.qDepth q
  obtain ⟨⟨r, rfl⟩, -⟩ := hcount
  have hsound : s.mem.anyBad (s.qKey q z.head) 64 = false := by simp [Mem.anyBad, Mem.isBad, hcodes]
  rw [State.queueDeliver_delivers hslots hfilled hcons hfree hrun rfl hu, hpoison, hsound, hdepth]
  have hring := ({ s with regs := r } : State).ringIn_takes k d n (s.mem.readBytes (s.qKey q z.head) 64)
  generalize ({ s with regs := r } : State).ringIn k d n (s.mem.readBytes (s.qKey q z.head) 64) false false = v at hring ⊢
  obtain ⟨⟨hmem, -⟩, hdrawer, -, -, -, -, hqueues⟩ := hring
  rw [hkey] at hmem
  refine ⟨Stored.of_mem ((State.wakeAll_mem _).trans hmem), ?_, ?_⟩
  · exact (State.drw_eq_of_engines (State.wakeAll_engines _) k d).trans hdrawer
  · rw [State.wakeAll_sn]
    refine (vget_vmod_same v.sn.queues q _).trans ?_
    rw [hqueues]

/-- Settles O27: each clause follows from the equation of its operation; the counters of the shared units, the counters of the engine
and the contexts that are woken are no part of what it states. -/
theorem queuesMoveFlits : Obligations.QueuesMoveFlits := by
  unfold Obligations.QueuesMoveFlits
  refine ⟨?_, ?_, ?_⟩
  · intro s j q f p hclk hflit hfirst hopen hcode _ hready
    refine Does.settled (u := s.flitToQueue j) rfl hclk ?_
    obtain ⟨⟨r, hcount⟩, -⟩ := (s.dropToQueue j).unitsCounted_countUnit (u := 0) (by decide) 0x12 f.cab.val
      (chOf (s.qKey q ((vget s.sn.queues q).head + p))) false
    rw [State.flitToQueue_filled hflit hfirst hopen rfl hready hcode hcount]
    refine ⟨?_, Stored.of_mem (State.wakeAll_mem _), State.wakeAll_engines _, ?_, fun i hi => ?_⟩
    · rw [State.wakeAll_sn]; rfl
    · rw [State.wakeAll_sn]; exact vget_vmod_same _ q _
    · rw [State.wakeAll_sn]; exact vget_vmod_other _ _ hi
  · intro s q k d n hclk hen z ep leaves
    constructor
    · intro hmulti hask hfree
      refine Does.settled (u := s.queueGrant q) rfl hclk ?_
      rw [State.queueGrant_single hen hmulti hask hfree]
      obtain ⟨hqueue, hdrawer, hframe⟩ := s.modQueue_modDrw_frame q (fun z => z.grant n 1) k d
        (fun w => w.wrE n.ep.val (epSetCount (epCount (w.rdE n.ep.val) + 1) (w.rdE n.ep.val)))
      exact ⟨hqueue, by rw [State.modE, hdrawer, Drawer.rdE_wrE_same], hframe⟩
    · intro m rest hmulti hreq hhome hroom
      refine Does.settled (u := s.queueGrant q) rfl hclk ?_
      rw [State.queueGrant_reserves hen hmulti hreq hhome hroom]
      obtain ⟨hqueue, hdrawer, hframe⟩ := s.modQueue_modDrw_frame q (fun z => { z.grant n m with requests := rest }) k d
        (fun w => w.reserved n.ep.val m)
      exact ⟨hqueue, by rw [hdrawer, Drawer.rdE_reserved], hframe⟩
  · intro s q k d n y rest hclk z ep hslots hfilled hpoison hcons hfree hrun hcodes
    refine Does.settled (u := s.queueDeliver q) rfl hclk ?_
    obtain ⟨hstored, hdrawer, hqueue⟩ := State.queueDeliver_moves hslots hfilled hpoison hcons hfree hrun hcodes
    refine ⟨hstored, hdrawer, hqueue, fun hheld => ?_⟩
    rw [hqueue, Queue.trim_of_held hheld]
    exact ⟨rfl, rfl⟩

end Sys2Proof.Machine
end
